-- ==== Sys2Proof/Word.lean ====
section
/-!
DEFINITION. The bit-vector types of the NZ4160: only what the manual treats as bits
(bytes on a lane, a line or the port; sequences compared by half range; check words; flag rows).
-/

namespace Sys2Proof

/-- One byte, as it stands in a record, a notice, a frame, a cell or a page (R185). -/
abbrev Byte := BitVec 8

/-- A 16-bit lane sequence (R62). -/
abbrev LaneSeq := BitVec 16

/-- A 32-bit path sequence (R108). -/
abbrev PathSeq := BitVec 32

end Sys2Proof
end

