-- ==== Sys2Proof/Syntax.lean ====
section
/-!
DEFINITION. The commands of the NZ4160: one constructor per row of spec/opcode_table.json, with the operands
the rule of the row gives the event. A host command carries no operand of its own: its arguments stand in the
argument rows of the command page when its code byte is written (R175).
-/

namespace Sys2Proof

/-- Carriage path A or B (chapter 7). -/
inductive PathId where
  | a
  | b
deriving DecidableEq, Repr

/-- The owner of a stream and the account that pays for an entry: a lane or PATTERN (1.1, R68). -/
inductive Owner where
  | lane (n : Fin 4)
  | pattern
deriving DecidableEq, Repr

/-- A written path parameter (R128): silence time in µs, rejoin holdoff in ms, N_good, module settings block. -/
inductive PathParam where
  | silence (v : BitVec 16)
  | holdoff (v : BitVec 16)
  | nGood (v : Byte)
  | settings (block : Vector Byte 16)
deriving DecidableEq, Repr

/-- A written parameter of the repeat procedure (R133): repeat time in µs, N_mark, attempt limit. -/
inductive RepeatParam where
  | repeatTime (v : BitVec 16)
  | nMark (v : Byte)
  | attemptLimit (v : Byte)
deriving DecidableEq, Repr

/-- The two counter pages, 14 and 15 (R182). -/
inductive CounterPage where
  | slots
  | part
deriving DecidableEq, Repr

/-- The commands, in the order of spec/opcode_table.json. -/
inductive Instr where
  /-- POWER_ON (R179). -/
  | powerOn
  /-- POWER_ON_LOAD (R179). -/
  | powerOnLoad
  /-- OPEN_RECORD (R63): the lane and the bytes of the record, taken whole. -/
  | openRecord (lane : Fin 4) (bytes : List Byte)
  /-- PACKET_RECORD (R65). -/
  | packetRecord (lane : Fin 4) (bytes : List Byte)
  /-- CLOSE_RECORD (R64). -/
  | closeRecord (lane : Fin 4) (bytes : List Byte)
  /-- LANE_RESET_RECORD (R67). -/
  | laneResetRecord (lane : Fin 4) (bytes : List Byte)
  /-- NOTICE_SEND_BEGIN (R72): `ready` is the level the feeder drives its ready indication to, if it changes. -/
  | noticeSendBegin (lane : Fin 4) (ready : Option Bool)
  /-- NOTICE_SEND_COMPLETE (R72). -/
  | noticeSendComplete (lane : Fin 4)
  /-- CREDIT_TIMER_EXPIRY (R69). -/
  | creditTimerExpiry (lane : Fin 4)
  /-- CREDIT_BATCH (R69). -/
  | creditBatch (lane : Fin 4)
  /-- ARMING_EXPIRY (R7). -/
  | armingExpiry (slot : Fin 16)
  /-- ELIGIBILITY_INSTANT (R45). -/
  | eligibilityInstant (slot : Fin 16)
  /-- DISCARD_EXPIRY (R31). -/
  | discardExpiry (slot : Fin 16)
  /-- FRAME_CLOSE (R34). -/
  | frameClose (slot : Fin 16)
  /-- END_OF_SERVICE (R54). -/
  | endOfService
  /-- STATUS_FRAME (R117): the path it arrives on and its bytes. -/
  | statusFrame (path : PathId) (bytes : List Byte)
  /-- SILENCE_EXPIRY (R119). -/
  | silenceExpiry (path : PathId)
  /-- HOLDOFF_EXPIRY (R122). -/
  | holdoffExpiry (path : PathId)
  /-- REPEAT_TIMER_EXPIRY (R143). -/
  | repeatTimerExpiry (path : PathId)
  /-- LINE_FRAME_END (R109). -/
  | lineFrameEnd (path : PathId)
  /-- MODULE_POLL (R126). -/
  | modulePoll (path : PathId)
  /-- MODULE_READ_ANSWER (R126): the restart indicator the module answers. -/
  | moduleReadAnswer (path : PathId) (indicator : Bool)
  /-- MODULE_SETTINGS_ANSWER (R126). -/
  | moduleSettingsAnswer (path : PathId)
  /-- MODULE_CLEAR_ANSWER (R126). -/
  | moduleClearAnswer (path : PathId)
  /-- POLL_UNANSWERED (R127). -/
  | pollUnanswered (path : PathId)
  /-- REFERENCE_PULSE (R152). -/
  | referencePulse
  /-- PULSE_MISS_EXPIRY (R158). -/
  | pulseMissExpiry
  /-- TRIM_ADJUSTMENT (R148). -/
  | trimAdjustment
  /-- SLEW_ADJUSTMENT (R150). -/
  | slewAdjustment
  /-- SECOND_MARKER (R160). -/
  | secondMarker
  /-- PATTERN_GENERATION (R167). -/
  | patternGeneration
  /-- CLEAR (R183), code 0x01. -/
  | clear
  /-- STORE (R176), code 0x02. -/
  | store
  /-- STORE_END (R176): whether the image reads back good. -/
  | storeEnd (readsBack : Bool)
  /-- RECALL (R177), code 0x03. -/
  | recall
  /-- RECALL_END (R177). -/
  | recallEnd
  /-- PATH_ENABLE (R123), code 0x10. -/
  | pathEnable
  /-- PATH_DISABLE (R124), code 0x11. -/
  | pathDisable
  /-- PATH_RESTART (R125), code 0x12. -/
  | pathRestart
  /-- STREAM_HOLD (R46), code 0x20. -/
  | streamHold
  /-- STREAM_UNHOLD (R47), code 0x21. -/
  | streamUnhold
  /-- STREAM_CLOSE (R16), code 0x22. -/
  | streamClose
  /-- SET_LOWEST (R50), code 0x23. -/
  | setLowest
  /-- ROTATION_MODE (R50), code 0x24. -/
  | rotationMode
  /-- LANE_RESET_COMMAND (R74), code 0x30. -/
  | laneResetCommand
  /-- PATTERN_OPEN (R165), code 0x40. -/
  | patternOpen
  /-- PATTERN_CLOSE (R166), code 0x41. -/
  | patternClose
  /-- BAD_COMMAND (R175): the unknown code. -/
  | badCommand (code : Byte)
  /-- PATH_RATE_WRITE (R10). -/
  | pathRateWrite (v : Byte)
  /-- RESERVE_WRITE (R10). -/
  | reserveWrite (v : BitVec 16)
  /-- QUOTA_WRITE (R70): the account and the quota. -/
  | quotaWrite (account : Owner) (v : BitVec 16)
  /-- CATCH_UP_TABLE_WRITE (R29): the lateness index and its code. -/
  | catchUpTableWrite (index : Fin 32) (v : Byte)
  /-- IDLE_LIMIT_WRITE (R35). -/
  | idleLimitWrite (v : Byte)
  /-- URGENT_THRESHOLD_WRITE (R48). -/
  | urgentThresholdWrite (v : Byte)
  /-- PULSE_SECOND_WRITE (R151). -/
  | pulseSecondWrite (v : BitVec 64)
  /-- STEP_ENABLE_WRITE (R163). -/
  | stepEnableWrite (v : Byte)
  /-- PATH_PARAMETER_WRITE (R128). -/
  | pathParameterWrite (path : PathId) (p : PathParam)
  /-- REPEAT_PARAMETER_WRITE (R133). -/
  | repeatParameterWrite (p : RepeatParam)
  /-- COUNTER_SELECTOR_WRITE (R182). -/
  | counterSelectorWrite (page : CounterPage) (v : Byte)
  /-- CAUSE_CLEAR_WRITE (R180): the byte written to the cause row. -/
  | causeClearWrite (v : Byte)
  /-- MASK_WRITE (R181). -/
  | maskWrite (v : Byte)
  /-- PAGE_EXTENSION_WRITE (R172). -/
  | pageExtensionWrite (v : Byte)
  /-- PATTERN_MEMORY_WRITE (R164): one data byte of a write transaction whose pointer stands in pages 32 to 287. -/
  | patternMemoryWrite (v : Byte)
  /-- SNAPSHOT_READ (R174): a read transaction of `count` bytes sent to `target`, or the part of one: `starts` when
  it begins with this command, `ends` when its STOP follows. -/
  | snapshotRead (target : BitVec 7) (starts : Bool) (count : Nat) (ends : Bool)
  /-- REGISTER_WRITE (R173): a write transaction, as the target address and the bytes that follow it. -/
  | registerWrite (target : BitVec 7) (bytes : List Byte)
  /-- POWER_FAIL (R176). -/
  | powerFail
deriving DecidableEq, Repr

end Sys2Proof
end

