-- ==== Sys2Proof/Decode.lean ====
section
/-!
DEFINITION. The command a word spells by the bits of spec/opcode_table.json. No row of the table gives bits: the
commands of this part come as records, frames, pins and port transactions, so no word spells one.
-/

namespace Sys2Proof

/-- The command whose bits are `w`: none, since no row of the table gives bits. -/
def decodeTableWord (_nbits _w : Nat) : Option Instr := none

end Sys2Proof
end

