-- ==== Sys2Proof/Config.lean ====
section
/-!
DEFINITION. What the manual fixes as numbers, and the values it leaves open (free values, with no body).
-/

namespace Sys2Proof.Config

/-- Nanoseconds in a second (0.5). -/
abbrev second : Nat := 1000000000

/-- House time is a 64-bit count (9.1): the least value it cannot hold. -/
abbrev houseTimeEnd : Nat := 2 ^ 64

/-- FREE VALUE (log entry 10): what house time reads after a count past 2⁶⁴ − 1 (9.1 gives the range and no
rule for its end), as a function of the exact sum. -/
opaque houseTimePastEnd : Nat → BitVec 64

/-- FREE VALUE (log entry 2): which of several of the part's own events due at one instant is taken first. -/
opaque eventChoice : Nat → Nat

/-- FREE VALUE (log entry 8): whether the image reads back good when a STORE ends at its 25 ms bound (R176). -/
opaque storeReadBack : Nat → Bool

/-- FREE VALUE (log entry 20): whether a PATTERN OPEN start-frame presence byte other than 0 and 1 names a frame
(R165 and R186 say nothing of it). -/
opaque patternPresence : Byte → Bool

/-- Cells and their size (R90). -/
abbrev cellCount : Nat := 16384
abbrev cellBytes : Nat := 256

/-- Entries (R91). -/
abbrev entryCount : Nat := 8192

/-- Most entries of a stream queue (R93). -/
abbrev queueLimit : Nat := 512

/-- Most notices of a lane's queue (R71). -/
abbrev noticeLimit : Nat := 32

/-- Most places of a path's window and of its backlog (R108, R112). -/
abbrev windowLimit : Nat := 1024
abbrev backlogLimit : Nat := 256

/-- Pending credit at which a batch is taken, and the time after which it is taken (R69). -/
abbrev batchCells : Nat := 16
abbrev batchTime : Nat := 20000

/-- Greatest sum of the five quotas (R70). -/
abbrev quotaSum : Nat := 16384

/-- Every counter stops here (R182). -/
abbrev counterMax : Nat := 4294967295

/-- The margin of the start frame (R6). -/
abbrev startMargin : Nat := 1000000

/-- Spacing of the module polls and the wait for a module's answer (R126). -/
abbrev pollSpacing : Nat := 100000000
abbrev pollWait : Nat := 1000000

/-- The greatest pulse second (R151). -/
abbrev pulseSecondMax : Nat := 18446744072

/-- Small errors reach this (R152). -/
abbrev smallError : Nat := 10000

/-- The early-pulse guard (R152), the first and the further miss expiries (R152, R158). -/
abbrev earlyGuard : Nat := 500000000
abbrev firstMiss : Nat := 1500000000
abbrev nextMiss : Nat := 1000000000

/-- The bound of the trim, ppb (R149). -/
abbrev trimMax : Int := 200000

/-- Spacing of a long slew's adjustments (R150). -/
abbrev longSlewSpacing : Nat := 100000

/-- Bounds of the silences of the port, in local elapsed time (log entry 48): STORE (R176), RECALL (R177), the power-on
load (R179). -/
abbrev storeBound : Nat := 25000000
abbrev recallBound : Nat := 2000000
abbrev loadBound : Nat := 2000000

/-- What a byte of cell or pattern memory reads as while nothing has written it.
DESIGN CHOICE (log entry 6): R164 and R90 give no content at power-on. -/
abbrev blankByte : Byte := 0

end Sys2Proof.Config
end

