-- ==== Sys2Proof/Machine/State.lean ====
section
/-!
DEFINITION. The state of the NZ4160 as plain data, block by block, the reasons a step can stop, and the state
right after power-on. INVENTORY.md lists every field with the rule that names it.
-/

namespace Sys2Proof.Machine

open Sys2Proof

/-! ## Stream Table, Pacer and Intake (chapters 1, 2 and 5) -/

/-- Slot states (1.2). -/
inductive SlotState where
  | free
  | armed
  | running
  | draining
deriving DecidableEq, Repr

/-- Closure reasons (1.1); absence is "none". -/
inductive ClosureReason where
  | requested
  | drained
  | abandoned
  | host
  | laneReset
  | cleared
deriving DecidableEq, Repr

/-- A set of carriage paths: a path set or a fan-out set. -/
structure PathSet where
  a : Bool
  b : Bool
deriving DecidableEq, Repr

/-- The head of a stream's queue as the Pacer has formed it (R25, R26). -/
structure Head where
  frame : Nat
  index : Nat
  scheduled : Nat
  eligible : Nat
deriving DecidableEq, Repr

/-- The last-frame record a frame close writes (R34). -/
structure FrameRecord where
  frame : Nat
  released : Nat
  late : Nat
  discarded : Nat
  arrived : Nat
  missing : Nat
deriving DecidableEq, Repr

/-- The intake record of a slot (R77). -/
structure IntakeRecord where
  lastAccepted : Option (Nat × Nat)
  isOpen : Bool
  pendingFull : Bool
  pendingSkipped : Bool
deriving DecidableEq, Repr

/-- A stream context with its intake record and its stream queue (1.1, R77, R93). -/
structure Slot where
  state : SlotState
  owner : Owner
  tag : Nat
  pathSet : PathSet
  n : Nat
  d : Nat
  lt : Nat
  la : Nat
  lf : Nat
  k : Nat
  s : Nat
  h : Nat
  delta : Nat
  nn : Nat
  dd : Nat
  q : Nat
  r : Nat
  o : Nat
  fs : Nat
  fc : Nat
  requestedStart : Option Nat
  patternRegion : Option (Nat × Nat)
  stepIndex : Nat
  stepOffset : Nat
  stepRemainder : Nat
  head : Option Head
  aPrev : Nat
  lambdaPrev : Nat
  indexPrev : Nat
  codePrev : Nat
  sameFrame : Bool
  loadA : Nat
  loadB : Nat
  idle : Nat
  released : Nat
  late : Nat
  discarded : Nat
  arrived : Nat
  lastFrame : FrameRecord
  lastReason : Option ClosureReason
  intake : IntakeRecord
  queue : List Nat
deriving DecidableEq, Repr

/-! ## Launch Arbiter (chapter 3) -/

/-- Ring modes (3.1). -/
inductive RingMode where
  | auto
  | fixed
deriving DecidableEq, Repr

/-- The in-service record of the launcher (3.1). -/
structure Service where
  slot : Fin 16
  entry : Nat
  frame : Nat
  index : Nat
  payload : Nat
  grantedAt : Nat
  busyUntil : Nat
  fanOut : PathSet
  tag : Nat
deriving DecidableEq, Repr

/-! ## Cell Memory (chapter 6) -/

/-- The six condition flags of an entry (R87). -/
structure ConditionFlags where
  gap : Bool
  restart : Bool
  count : Bool
  cut : Bool
  full : Bool
  skipped : Bool
deriving DecidableEq, Repr

/-- The places that can hold an entry (6.4). -/
inductive Holder where
  | queued
  | service
  | window (p : PathId)
  | backlog (p : PathId)
deriving DecidableEq, Repr

/-- The holder set of an entry (6.2). -/
structure Holders where
  queued : Bool
  service : Bool
  windowA : Bool
  windowB : Bool
  backlogA : Bool
  backlogB : Bool
deriving DecidableEq, Repr

/-- A live entry (6.2). A free entry is one whose number no live entry carries (R91). -/
structure Entry where
  number : Nat
  slot : Fin 16
  owner : Owner
  frame : Nat
  index : Nat
  payload : Nat
  cells : List Nat
  flags : ConditionFlags
  stamp : Option Nat
  holders : Holders
deriving DecidableEq, Repr

/-! ## Feed Lanes (chapter 4) -/

/-- Codes of a refused OPEN (R2). -/
inductive OpenRefusal where
  | badParam
  | noSlot
  | capacity
deriving DecidableEq, Repr

/-- The notices of a lane (4.5). -/
inductive Notice where
  | opened (tag : Nat) (slot : Fin 16) (start loadA loadB : Nat)
  | refused (tag : Nat) (code : OpenRefusal)
  | closed (tag : Nat) (slot : Fin 16) (reason : ClosureReason)
  | credit (count : Nat)
  | laneReady (count : Nat)
deriving DecidableEq, Repr

/-- The kinds of a lane's last fault (4.1). -/
inductive LaneFault where
  | badRecord
  | noticeLost
deriving DecidableEq, Repr

/-- A lane's credit account, but for its quota, which is a parameter (R68, R69). `oldest` is the instant the oldest
pending cell was freed; `expired` says that 20,000 ns have passed since. -/
structure Account where
  outstanding : Nat
  pending : Nat
  oldest : Option Nat
  expired : Bool
deriving DecidableEq, Repr

/-- A notice on the return direction, with the elapsed time at which its last byte goes (R72). -/
structure Sending where
  notice : Notice
  until_ : Nat
deriving DecidableEq, Repr

/-- A feed lane (4.1). -/
structure Lane where
  expectation : Option LaneSeq
  account : Account
  queue : List Notice
  sending : Option Sending
  lastFault : Option LaneFault
  ready : Bool
deriving DecidableEq, Repr

/-! ## Path Senders (chapters 7 and 8) -/

/-- States of a path sender (7.1). -/
inductive PathState where
  | disabled
  | probing
  | sending
  | finishing
  | marking
  | replaying
  | failed
deriving DecidableEq, Repr

/-- Failure reasons (7.1); absence is "none". -/
inductive FailReason where
  | silent
  | attempts
  | moduleRestart
  | moduleAbsent
deriving DecidableEq, Repr

/-- A place of a window (7.1). -/
structure WindowPlace where
  entry : Nat
  seq : PathSeq
  tag : Nat
  repeats : Nat
deriving DecidableEq, Repr

/-- A place of a backlog (7.1). -/
structure BacklogPlace where
  entry : Nat
  tag : Nat
deriving DecidableEq, Repr

/-- The frame on a path's line, with the elapsed time at which it ends (R109 to R111). -/
inductive Line where
  | fill
  | data (place : WindowPlace) (until_ : Nat)
  | mark (ordinal : Byte) (resume : PathSeq) (time : Nat) (until_ : Nat)
deriving DecidableEq, Repr

/-- The latest status (R117). -/
structure StatusRecord where
  ack : PathSeq
  repeats : Bool
  counter : Byte
deriving DecidableEq, Repr

/-- The step of a module poll that waits for its answer, and the elapsed time until which it waits (R126).
The settings write carries the block being written. -/
inductive Poll where
  | idle
  | reading (until_ : Nat)
  | writing (block : Vector Byte 16) (until_ : Nat)
  | clearing (until_ : Nat)
deriving DecidableEq, Repr

/-- A path sender (7.1, 8.1). Timers hold the elapsed time at which they expire. `holdoffOwed` is the model's own: a
FAILED path whose module answers again with its indicator set starts its holdoff once the settings are written (R127;
log entry 24). -/
structure Path where
  state : PathState
  failure : Option FailReason
  nextSeq : PathSeq
  ackThrough : PathSeq
  sentThrough : PathSeq
  window : List WindowPlace
  backlog : List BacklogPlace
  line : Line
  latest : Option StatusRecord
  reportRef : Option Byte
  goodRun : Nat
  markOrdinal : Byte
  silence : Option Nat
  holdoff : Option Nat
  holdoffOwed : Bool
  unanswered : Nat
  moduleAbsent : Bool
  lastIndicator : Bool
  nextPoll : Nat
  poll : Poll
  repeatTimer : Option Nat
  attempts : Nat
  burstOrdinal : Nat
  burstLength : Nat
  replayEnd : PathSeq
  replayCursor : PathSeq
deriving DecidableEq, Repr

/-! ## House Time (chapter 9) -/

/-- Lock states (9.4). -/
inductive LockState where
  | freeRun
  | locked
  | holdover
deriving DecidableEq, Repr

/-- The slew in progress (R150). Ordinary: adjustment k falls floor(k × 10⁹ / total) ns after `start`, and `made`
are made. Long: the next falls at `next`, and `left` are still to make. `back` is the sign of −1 adjustments. -/
inductive Slew where
  | none
  | ordinary (back : Bool) (start total made : Nat)
  | long (back : Bool) (next left : Nat)
deriving DecidableEq, Repr

/-- The last taken pulse (R152). -/
structure PulseRecord where
  time : Nat
  elapsed : Nat
  error : Int
deriving DecidableEq, Repr

/-- House Time (9.1). `withheld` counts the nanoseconds of elapsed time for which house time stands still (R148);
`markers` are the second markers raised and not yet taken (R160). -/
structure House where
  time : Nat
  lock : LockState
  trim : Int
  trimNext : Option Nat
  slew : Slew
  withheld : Nat
  pulseSecond : Nat
  labelWritten : Bool
  lastPulse : Option PulseRecord
  bigErrors : Nat
  misses : Nat
  missExpiry : Option Nat
  lastStep : Option Int
  markers : List Nat
deriving DecidableEq, Repr

/-! ## Pattern Source (chapter 10) -/

/-- The Pattern Source, but for its memory and its quota (10.3, R170). -/
structure PatternSource where
  slot : Option (Fin 16)
  nextFrame : Nat
  nextIndex : Nat
  waitEntry : Bool
  offered : Bool
  outstanding : Nat
deriving DecidableEq, Repr

/-! ## Management Port and parameters (chapter 11) -/

/-- The stored parameters of one path (R128). -/
structure PathParams where
  silenceTime : Nat
  holdoff : Nat
  nGood : Nat
  settings : Vector Byte 16
  enabled : Bool
deriving DecidableEq, Repr

/-- The stored parameters (R178). -/
structure Params where
  rate : Nat
  reserve : Nat
  idleLimit : Nat
  urgent : Nat
  repeatTime : Nat
  nMark : Nat
  attemptLimit : Nat
  stepEnable : Bool
  catchUp : Vector Nat 32
  laneQuota : Vector Nat 4
  patternQuota : Nat
  pathA : PathParams
  pathB : PathParams
deriving DecidableEq, Repr

/-- The nonvolatile store (R178, R185): the bytes of its image, the check word behind them (log entry 7). -/
structure Store where
  bytes : List Byte
deriving DecidableEq, Repr

/-- Result statuses (R175). -/
inductive ResultStatus where
  | none
  | busy
  | done
  | refused
deriving DecidableEq, Repr

/-- Refusal codes of commands and of writes (R175). -/
inductive RefusalCode where
  | badParam
  | noSlot
  | capacity
  | notOpen
  | patternBusy
  | pathDisabled
  | badCommand
  | storeFailed
  | storeInvalid
  | streamsOpen
  | entriesLive
  | quotaSum
  | noticeRoom
  | badValue
deriving DecidableEq, Repr

/-- What an accepted PATTERN OPEN puts in the result row (R165). -/
structure OpenResult where
  slot : Fin 16
  start : Nat
  loadA : Nat
  loadB : Nat
deriving DecidableEq, Repr

/-- The command result (R175). -/
structure CommandResult where
  status : ResultStatus
  refusal : Option RefusalCode
  code : Byte
  opened : Option OpenResult
deriving DecidableEq, Repr

/-- A STORE (with the image it writes) or a RECALL in progress, with the elapsed time of its beginning (R176, R177; log
entry 48). -/
inductive LongCommand where
  | store (image : Params) (since : Nat)
  | recall (since : Nat)
deriving DecidableEq, Repr

/-- A read transaction in progress: the captured page, and the row being read as its first byte found it (R174). -/
structure ReadProgress where
  capture : Option (List Byte)
  row : Option (Nat × List Byte)
deriving DecidableEq, Repr

/-- The causes (R180). -/
inductive Cause where
  | streamClosed
  | pathChange
  | referenceChange
  | step
  | marker
  | laneFault
  | storeDone
  | storeInvalid
deriving DecidableEq, Repr

/-- The Management Port's own state (R172 to R182). -/
structure Port where
  addressPins : BitVec 2
  page : Nat
  offset : Nat
  extension : Bool
  reading : Option ReadProgress
  readOut : List Byte
  args : Vector Byte 39
  result : CommandResult
  writeStatus : ResultStatus
  writeRefusal : Option RefusalCode
  busy : Option LongCommand
  lastLong : Option CommandResult
  storeState : Bool
  causes : BitVec 8
  mask : BitVec 8
  slotDetail : BitVec 16
  pathDetail : BitVec 2
  laneDetail : BitVec 4
  slotSelector : Nat
  groupSelector : Nat
deriving DecidableEq, Repr

/-- Counters per slot, in the order of R42, R58 and R88. -/
inductive SlotCounter where
  | released
  | late
  | horizon
  | overrun
  | missing
  | framesClosed
  | urgent
  | lateArrival
  | ahead
  | overlong
  | order
  | gap
  | restart
  | count
  | cut
  | full
  | skipped
deriving DecidableEq, Repr

/-- Counters per lane, in the order of R76. -/
inductive LaneCounter where
  | records
  | badRecord
  | stale
  | seqGap
  | noticeFull
  | noticeLost
  | owner
  | accepted
  | notOpen
  | oversize
  | noCredit
  | noEntry
  | queueFull
  | creditsReturned
deriving DecidableEq, Repr

/-- Counters per path, in the order of R131 and R147. -/
inductive PathCounter where
  | dataSent
  | marksSent
  | statusGood
  | badStatus
  | ackBeyond
  | ackStale
  | statusLost
  | retired
  | pathReleased
  | shedDown
  | shedFull
  | failures
  | pollsUnanswered
  | moduleRestarts
  | repeats
  | remarks
  | resent
  | repeatIgnored
deriving DecidableEq, Repr

/-- Counters of the part, in the order of R58, R106, R162 and R171. -/
inductive PartCounter where
  | launches
  | filled
  | freedUnlaunched
  | freedShed
  | freedRetired
  | freedReleased
  | peakEntries
  | peakCells
  | pulses
  | pulsesEarly
  | pulsesUnlabelled
  | pulsesMissed
  | bigErrors
  | stepsForward
  | stepsBackward
  | stepsWithheld
  | generated
  | noEntry
  | framesSkipped
deriving DecidableEq, Repr

/-- A counter bank (R182): every counter named in the counting rules, in their order. -/
structure Bank where
  slots : Vector (Vector Nat 17) 16
  lanes : Vector (Vector Nat 14) 4
  pathA : Vector Nat 18
  pathB : Vector Nat 18
  part : Vector Nat 19
deriving DecidableEq, Repr

/-- Power: off, on with the store load in progress, or on (R176, R179). -/
inductive Power where
  | off
  | loading
  | on
deriving DecidableEq, Repr

/-- The state of the part. -/
structure State where
  power : Power
  elapsed : Nat
  params : Params
  store : Store
  slots : Vector Slot 16
  sumA : Nat
  sumB : Nat
  due : Vector Bool 16
  held : Vector Bool 16
  ring : List (Fin 16)
  ringMode : RingMode
  launcher : Option Service
  entries : List Entry
  cellMem : List Host.Cell
  lanes : Vector Lane 4
  pathA : Path
  pathB : Path
  house : House
  pattern : PatternSource
  patternMem : List Host.Cell
  port : Port
  active : Bank
  frozen : Bank
  frozenLabel : Option Nat
  freeCount : Nat
  pending : List Instr
deriving DecidableEq, Repr

/-! ## Reasons to stop -/

/-- Why the machine stops. The spec stops it nowhere; one state that no run reaches has no effect in the spec. -/
inductive Fault where
  /-- Raised by PACKET_RECORD and PATTERN_GENERATION when a packet passes every test of R65 and fewer free cells are
  left than it needs; a generation that resumes within another event stops there instead. R90 shows from the credit
  law that no run reaches this. Safe: the model stops where the spec gives no effect (log entry 29). -/
  | cellPoolExhausted
deriving DecidableEq, Repr

/-- Why a command is refused by the model. -/
inductive Refusal where
  /-- The command has no meaning yet. Raised by no arm of `exec`. Safe: the model stops. -/
  | notModelled (mnemonic : String)
deriving DecidableEq, Repr

/-! ## The state after power-on (R179 steps 1 and 2) -/

/-- A FREE slot at power-on (R1, R77): every other field zero. -/
def Slot.blank : Slot where
  state := .free
  owner := .lane 0
  tag := 0
  pathSet := ⟨false, false⟩
  n := 0
  d := 0
  lt := 0
  la := 0
  lf := 0
  k := 0
  s := 0
  h := 0
  delta := 0
  nn := 0
  dd := 0
  q := 0
  r := 0
  o := 0
  fs := 0
  fc := 0
  requestedStart := none
  patternRegion := none
  stepIndex := 0
  stepOffset := 0
  stepRemainder := 0
  head := none
  aPrev := 0
  lambdaPrev := 0
  indexPrev := 0
  codePrev := 0
  sameFrame := false
  loadA := 0
  loadB := 0
  idle := 0
  released := 0
  late := 0
  discarded := 0
  arrived := 0
  lastFrame := ⟨0, 0, 0, 0, 0, 0⟩
  lastReason := none
  intake := ⟨none, false, false, false⟩
  queue := []

/-- A lane at power-on (R75); the account takes its quota at the load. -/
def Lane.blank : Lane where
  expectation := none
  account := ⟨0, 0, none, false⟩
  queue := []
  sending := none
  lastFault := none
  ready := false

/-- A path sender at power-on (R107, R132); its state follows the enable flag at the load. -/
def Path.blank : Path where
  state := .disabled
  failure := none
  nextSeq := 1
  ackThrough := 0
  sentThrough := 0
  window := []
  backlog := []
  line := .fill
  latest := none
  reportRef := none
  goodRun := 0
  markOrdinal := 0
  silence := none
  holdoff := none
  holdoffOwed := false
  unanswered := 0
  moduleAbsent := false
  lastIndicator := false
  nextPoll := Config.pollSpacing
  poll := .idle
  repeatTimer := none
  attempts := 0
  burstOrdinal := 0
  burstLength := 0
  replayEnd := 0
  replayCursor := 0

/-- House Time at power-on (R148). -/
def House.blank : House where
  time := 0
  lock := .freeRun
  trim := 0
  trimNext := none
  slew := .none
  withheld := 0
  pulseSecond := 0
  labelWritten := false
  lastPulse := none
  bigErrors := 0
  misses := 0
  missExpiry := none
  lastStep := none
  markers := []

/-- The default of the five parameters of a path (R128). -/
def PathParams.default : PathParams where
  silenceTime := 1000
  holdoff := 10
  nGood := 4
  settings := Vector.replicate 16 0
  enabled := true

/-- The default catch-up table (R29). -/
def Params.defaultCatchUp : Vector Nat 32 :=
  #v[0, 1, 1, 1, 1, 1, 1, 1, 1, 1, 1, 1, 1, 1, 1, 1, 2, 2, 2, 2, 2, 2, 2, 2, 3, 3, 3, 3, 3, 3, 3, 3]

/-- The defaults of the stored parameters (R178). -/
def Params.default : Params where
  rate := 25
  reserve := 100
  idleLimit := 50
  urgent := 16
  repeatTime := 500
  nMark := 16
  attemptLimit := 8
  stepEnable := true
  catchUp := Params.defaultCatchUp
  laneQuota := Vector.replicate 4 3584
  patternQuota := 2048
  pathA := PathParams.default
  pathB := PathParams.default

/-- The port at power-on (R172, R175, R179, R182). -/
def Port.blank : Port where
  addressPins := 0
  page := 0
  offset := 0
  extension := false
  reading := none
  readOut := []
  args := Vector.replicate 39 0
  result := ⟨.none, none, 0, none⟩
  writeStatus := .done
  writeRefusal := none
  busy := none
  lastLong := none
  storeState := false
  causes := 0
  mask := 255
  slotDetail := 0
  pathDetail := 0
  laneDetail := 0
  slotSelector := 0
  groupSelector := 0

/-- A zeroed bank (R182). -/
def Bank.zero : Bank where
  slots := Vector.replicate 16 (Vector.replicate 17 0)
  lanes := Vector.replicate 4 (Vector.replicate 14 0)
  pathA := Vector.replicate 18 0
  pathB := Vector.replicate 18 0
  part := Vector.replicate 19 0

/-- The store of a part before its first STORE: erased, so that its check word fails (log entry 5). -/
def Store.blank : Store where
  bytes := List.replicate 100 0xFF

/-- The state right after power-on (R179 steps 1 and 2), the store load in progress. What the spec leaves open here
is named in log entries 4, 5, 6, 13 and 28. -/
def State.reset : State where
  power := .loading
  elapsed := 0
  params := Params.default
  store := Store.blank
  slots := Vector.replicate 16 Slot.blank
  sumA := 0
  sumB := 0
  due := Vector.replicate 16 false
  held := Vector.replicate 16 false
  ring := [0, 1, 2, 3, 4, 5, 6, 7, 8, 9, 10, 11, 12, 13, 14, 15]
  ringMode := .auto
  launcher := none
  entries := []
  cellMem := []
  lanes := Vector.replicate 4 Lane.blank
  pathA := Path.blank
  pathB := Path.blank
  house := House.blank
  pattern := ⟨none, 0, 0, false, false, 0⟩
  patternMem := []
  port := Port.blank
  active := Bank.zero
  frozen := Bank.zero
  frozenLabel := none
  freeCount := 0
  pending := []

end Sys2Proof.Machine
end

