-- ==== Sys2Proof/Machine/Ops.lean ====
section
/-!
DEFINITION. The named operations over the state that every block shares: reading and updating a slot, a lane, a
path; byte memories; counters; interrupt causes; sequence comparison; the advance of house time.
-/

namespace Sys2Proof.Machine

open Sys2Proof

/-- What a step answers. -/
abbrev Result := Host.Outcome State Fault Refusal

/-! ## Parts of the state -/

/-- The context of slot `i`. -/
def State.slot (s : State) (i : Fin 16) : Slot := s.slots[i]

/-- Update the context of slot `i`. -/
def State.updSlot (s : State) (i : Fin 16) (f : Slot → Slot) : State :=
  { s with slots := s.slots.set i (f s.slots[i]) }

/-- Lane `l`. -/
def State.lane (s : State) (l : Fin 4) : Lane := s.lanes[l]

/-- Update lane `l`. -/
def State.updLane (s : State) (l : Fin 4) (f : Lane → Lane) : State :=
  { s with lanes := s.lanes.set l (f s.lanes[l]) }

/-- The sender of path `p`. -/
def State.path (s : State) : PathId → Path
  | .a => s.pathA
  | .b => s.pathB

/-- Update the sender of path `p`. -/
def State.updPath (s : State) (p : PathId) (f : Path → Path) : State :=
  match p with
  | .a => { s with pathA := f s.pathA }
  | .b => { s with pathB := f s.pathB }

/-- Update House Time. -/
def State.updHouse (s : State) (f : House → House) : State := { s with house := f s.house }

/-- Update the port. -/
def State.updPort (s : State) (f : Port → Port) : State := { s with port := f s.port }

/-- Update the Pattern Source. -/
def State.updPattern (s : State) (f : PatternSource → PatternSource) : State := { s with pattern := f s.pattern }

/-- Update the parameters in use. -/
def State.updParams (s : State) (f : Params → Params) : State := { s with params := f s.params }

/-- The stored parameters of path `p` (R128). -/
def Params.path (q : Params) : PathId → PathParams
  | .a => q.pathA
  | .b => q.pathB

/-- Update the stored parameters of path `p`. -/
def Params.updPath (q : Params) (p : PathId) (f : PathParams → PathParams) : Params :=
  match p with
  | .a => { q with pathA := f q.pathA }
  | .b => { q with pathB := f q.pathB }

/-- Is path `p` in the set? -/
def PathSet.has (t : PathSet) : PathId → Bool
  | .a => t.a
  | .b => t.b

/-- House time, the instant at which the command is taken (0.5). -/
def State.now (s : State) : Nat := s.house.time

/-- The part runs (R176: loss of power ends all activity). -/
def State.powered (s : State) : Bool := decide (s.power ≠ .off)

/-- The lanes take records (R179 step 5). -/
def State.up (s : State) : Bool := decide (s.power = .on)

/-- The port does not acknowledge its address: power off, the power-on load, STORE, RECALL (R172, R176, R177, R179). -/
def State.silent (s : State) : Bool := !s.up || s.port.busy.isSome

/-- Take an event of the part if its condition holds; an event whose condition does not hold does not occur
(log entry 3), and without power nothing does. -/
def whenDue (due : Bool) (f : State → State) (s : State) : Result :=
  .next (if s.powered && due then f s else s)

/-! ## Streams that are open -/

/-- ARMED, RUNNING or DRAINING. -/
def SlotState.isOpen : SlotState → Bool
  | .free => false
  | _ => true

/-- RUNNING or DRAINING: the Pacer forms heads and takes expiries (1.2). -/
def SlotState.isPaced : SlotState → Bool
  | .running => true
  | .draining => true
  | _ => false

/-- ARMED or RUNNING: packets are accepted (1.2). -/
def SlotState.takesPackets : SlotState → Bool
  | .armed => true
  | .running => true
  | _ => false

/-- All sixteen slot numbers, lowest first. -/
def allSlots : List (Fin 16) := List.finRange 16

/-- All four lanes. -/
def allLanes : List (Fin 4) := List.finRange 4

/-- Number of open slots (R184). -/
def State.openCount (s : State) : Nat := (allSlots.filter fun i => (s.slot i).state.isOpen).length

/-- Every slot is FREE (R10). -/
def State.allFree (s : State) : Bool := allSlots.all fun i => !(s.slot i).state.isOpen

/-- The lowest FREE slot (R2). -/
def State.lowestFree (s : State) : Option (Fin 16) := allSlots.find? fun i => !(s.slot i).state.isOpen

/-! ## Byte memories: canonical lists of (address, byte)

Addresses strictly rising, no entry equal to `Config.blankByte`, which is what an unlisted address reads as. -/

/-- The byte at an address. -/
def readMem : List Host.Cell → Nat → Byte
  | [], _ => Config.blankByte
  | (k, v) :: rest, a => if a = k then v else readMem rest a

/-- Write one byte, keeping the canonical form. -/
def writeMem : List Host.Cell → Nat → Byte → List Host.Cell
  | [], a, b => if b = Config.blankByte then [] else [(a, b)]
  | (k, v) :: rest, a, b =>
    if a < k then (if b = Config.blankByte then (k, v) :: rest else (a, b) :: (k, v) :: rest)
    else if a = k then (if b = Config.blankByte then rest else (a, b) :: rest)
    else (k, v) :: writeMem rest a b

/-- Write bytes at consecutive addresses. -/
def writeBytes (m : List Host.Cell) (a : Nat) : List Byte → List Host.Cell
  | [] => m
  | b :: bs => writeBytes (writeMem m a b) (a + 1) bs

/-- Read `n` bytes at consecutive addresses. -/
def readBytes (m : List Host.Cell) (a : Nat) : Nat → List Byte
  | 0 => []
  | n + 1 => readMem m a :: readBytes m (a + 1) n

/-- The canonical form from a lower bound of the addresses on. -/
def memWfFrom : Nat → List Host.Cell → Bool
  | _, [] => true
  | lo, (k, v) :: rest => decide (lo ≤ k) && decide (v ≠ Config.blankByte) && memWfFrom (k + 1) rest

/-- The canonical form holds. -/
def memWf (m : List Host.Cell) : Bool := memWfFrom 0 m

/-! ## Counters (R182) -/

/-- Add to a counter; it stops at 4,294,967,295. -/
def capAdd (a n : Nat) : Nat := min (a + n) Config.counterMax

/-- Place of a slot counter in the order of its counting rules. -/
def SlotCounter.pos : SlotCounter → Fin 17
  | .released => 0
  | .late => 1
  | .horizon => 2
  | .overrun => 3
  | .missing => 4
  | .framesClosed => 5
  | .urgent => 6
  | .lateArrival => 7
  | .ahead => 8
  | .overlong => 9
  | .order => 10
  | .gap => 11
  | .restart => 12
  | .count => 13
  | .cut => 14
  | .full => 15
  | .skipped => 16

/-- Place of a lane counter. -/
def LaneCounter.pos : LaneCounter → Fin 14
  | .records => 0
  | .badRecord => 1
  | .stale => 2
  | .seqGap => 3
  | .noticeFull => 4
  | .noticeLost => 5
  | .owner => 6
  | .accepted => 7
  | .notOpen => 8
  | .oversize => 9
  | .noCredit => 10
  | .noEntry => 11
  | .queueFull => 12
  | .creditsReturned => 13

/-- Place of a path counter. -/
def PathCounter.pos : PathCounter → Fin 18
  | .dataSent => 0
  | .marksSent => 1
  | .statusGood => 2
  | .badStatus => 3
  | .ackBeyond => 4
  | .ackStale => 5
  | .statusLost => 6
  | .retired => 7
  | .pathReleased => 8
  | .shedDown => 9
  | .shedFull => 10
  | .failures => 11
  | .pollsUnanswered => 12
  | .moduleRestarts => 13
  | .repeats => 14
  | .remarks => 15
  | .resent => 16
  | .repeatIgnored => 17

/-- Place of a part counter. -/
def PartCounter.pos : PartCounter → Fin 19
  | .launches => 0
  | .filled => 1
  | .freedUnlaunched => 2
  | .freedShed => 3
  | .freedRetired => 4
  | .freedReleased => 5
  | .peakEntries => 6
  | .peakCells => 7
  | .pulses => 8
  | .pulsesEarly => 9
  | .pulsesUnlabelled => 10
  | .pulsesMissed => 11
  | .bigErrors => 12
  | .stepsForward => 13
  | .stepsBackward => 14
  | .stepsWithheld => 15
  | .generated => 16
  | .noEntry => 17
  | .framesSkipped => 18

/-- Update the active bank. -/
def State.updActive (s : State) (f : Bank → Bank) : State := { s with active := f s.active }

/-- Count `n` on a slot's counter in the active bank. -/
def State.countSlot (s : State) (i : Fin 16) (c : SlotCounter) (n : Nat) : State :=
  s.updActive fun b =>
    { b with slots := b.slots.set i ((b.slots[i]).set c.pos (capAdd ((b.slots[i])[c.pos]) n)) }

/-- Count `n` on a lane's counter. -/
def State.countLane (s : State) (l : Fin 4) (c : LaneCounter) (n : Nat) : State :=
  s.updActive fun b =>
    { b with lanes := b.lanes.set l ((b.lanes[l]).set c.pos (capAdd ((b.lanes[l])[c.pos]) n)) }

/-- Count `n` on a path's counter. -/
def State.countPath (s : State) (p : PathId) (c : PathCounter) (n : Nat) : State :=
  s.updActive fun b =>
    match p with
    | .a => { b with pathA := b.pathA.set c.pos (capAdd (b.pathA[c.pos]) n) }
    | .b => { b with pathB := b.pathB.set c.pos (capAdd (b.pathB[c.pos]) n) }

/-- Count `n` on a counter of the part. -/
def State.countPart (s : State) (c : PartCounter) (n : Nat) : State :=
  s.updActive fun b => { b with part := b.part.set c.pos (capAdd (b.part[c.pos]) n) }

/-- Raise a peak counter of the part to `v` if it is below (R182). -/
def State.peakPart (s : State) (c : PartCounter) (v : Nat) : State :=
  s.updActive fun b => { b with part := b.part.set c.pos (min (max (b.part[c.pos]) v) Config.counterMax) }

/-! ## Interrupt causes (R180, R181) -/

/-- The bit of a cause in the cause row (12.5). -/
def Cause.bit : Cause → Nat
  | .streamClosed => 0
  | .pathChange => 1
  | .referenceChange => 2
  | .step => 3
  | .marker => 4
  | .laneFault => 5
  | .storeDone => 6
  | .storeInvalid => 7

/-- Set one bit of a row. -/
def setBit {w : Nat} (v : BitVec w) (n : Nat) : BitVec w := v ||| (1#w <<< n)

/-- Latch a cause that has no detail flag. -/
def State.latch (s : State) (c : Cause) : State :=
  s.updPort fun p => { p with causes := setBit p.causes c.bit }

/-- Latch STREAM_CLOSED for a slot. -/
def State.latchSlot (s : State) (i : Fin 16) : State :=
  s.updPort fun p =>
    { p with causes := setBit p.causes Cause.streamClosed.bit, slotDetail := setBit p.slotDetail i.val }

/-- The code of a path: 0 for A, 1 for B (12.4). -/
def pathCode : PathId → Nat
  | .a => 0
  | .b => 1

/-- Latch PATH_CHANGE for a path. -/
def State.latchPath (s : State) (p : PathId) : State :=
  s.updPort fun q =>
    { q with causes := setBit q.causes Cause.pathChange.bit, pathDetail := setBit q.pathDetail (pathCode p) }

/-- Latch LANE_FAULT for a lane. -/
def State.latchLane (s : State) (l : Fin 4) : State :=
  s.updPort fun p =>
    { p with causes := setBit p.causes Cause.laneFault.bit, laneDetail := setBit p.laneDetail l.val }

/-- The interrupt line: asserted while at least one cause is latched with its mask flag clear (R181). -/
def State.interruptLine (s : State) : Bool := decide (s.port.causes &&& ~~~s.port.mask ≠ 0)

/-! ## Sequence comparison by half range (R108) -/

/-- `x` is after `y`. -/
def seqAfter (x y : PathSeq) : Bool :=
  decide (1 ≤ (x - y).toNat) && decide ((x - y).toNat < 2 ^ 31)

/-- `x` is at or before `y`. -/
def seqAtOrBefore (x y : PathSeq) : Bool := !seqAfter x y

/-- The later of two sequences. -/
def seqLater (x y : PathSeq) : PathSeq := if seqAfter x y then x else y

/-! ## Arithmetic -/

/-- Division rounded up. -/
def ceilDiv (a b : Nat) : Nat := (a + b - 1) / b

/-- Clamp to a range (R128, R133). -/
def clampTo (lo hi v : Nat) : Nat := max lo (min hi v)

/-- Cells a payload needs (R65, R90). -/
def cellsFor (len : Nat) : Nat := ceilDiv len Config.cellBytes

/-- Time a DATA frame with a payload of `len` bytes occupies the line and the launcher (R53, R109). -/
def wireTime (rate len : Nat) : Nat := ceilDiv ((len + 40) * 8) rate

/-- Time a MARK frame occupies the line (R109). -/
def markTime (rate : Nat) : Nat := ceilDiv 512 rate

/-! ## The advance of house time (R148, R160) -/

/-- House time moves forward by `d`; a second marker is raised when it reaches or passes a whole second, one for the
last of them (R160). Past 2⁶⁴ − 1 it reads a free value (log entry 10). -/
def advanceHouse (d : Nat) (s : State) : State :=
  s.updHouse fun h =>
    let sum := h.time + d
    let t := if sum < Config.houseTimeEnd then sum else (Config.houseTimePastEnd sum).toNat
    { h with
      time := t
      markers := if h.time / Config.second < sum / Config.second then h.markers ++ [sum / Config.second] else h.markers }

/-- One nanosecond of local elapsed time: house time advances by one, or stands still for a −1 adjustment (R148). -/
def passNanosecond (s : State) : State :=
  let s := { s with elapsed := s.elapsed + 1 }
  if 0 < s.house.withheld then s.updHouse fun h => { h with withheld := h.withheld - 1 }
  else advanceHouse 1 s

end Sys2Proof.Machine
end

