-- ==== Sys2Proof/Machine/Operands.lean ====
section
/-!
DEFINITION. The byte layouts of chapter 12: byte order, check word, the fields of records and STATUS frames as the
part takes them, and the notices and carriage frames as it sends them.
-/

namespace Sys2Proof.Machine

open Sys2Proof

/-! ## Byte order (R185): least significant byte first -/

/-- The value of a run of bytes, least significant first. -/
def leNat : List Byte → Nat
  | [] => 0
  | b :: bs => b.toNat + 256 * leNat bs

/-- `n` bytes of a value, least significant first. -/
def leBytes : Nat → Nat → List Byte
  | 0, _ => []
  | n + 1, v => BitVec.ofNat 8 v :: leBytes n (v / 256)

/-- `n` bytes of a signed value, two's complement. -/
def leInt (n : Nat) (v : Int) : List Byte := leBytes n (v % (256 ^ n : Nat)).toNat

/-- The field of `len` bytes at offset `off`. -/
def field (bytes : List Byte) (off len : Nat) : Nat := leNat ((bytes.drop off).take len)

/-- The byte at offset `off`, zero past the end. -/
def byteAt (bytes : List Byte) (off : Nat) : Byte := bytes.getD off 0

/-- One flag as a byte (11.2: clear or absent 0, set or present 1). -/
def flagByte (b : Bool) : Byte := if b then 1 else 0

/-! ## The check word (R185) -/

/-- The bits of a run of bytes, each byte least significant bit first. -/
def messageBits (bytes : List Byte) : List Bool :=
  bytes.flatMap fun b =>
    [b.getLsbD 0, b.getLsbD 1, b.getLsbD 2, b.getLsbD 3, b.getLsbD 4, b.getLsbD 5, b.getLsbD 6, b.getLsbD 7]

/-- The register after the bits of a message. -/
def crcRun : List Bool → BitVec 32 → BitVec 32
  | [], reg => reg
  | bit :: rest, reg =>
    if (reg.msb != bit) then crcRun rest ((reg <<< 1) ^^^ 0x04C11DB7#32) else crcRun rest (reg <<< 1)

/-- The check word of a run of bytes: start 0xFFFFFFFF, result bit-reversed and complemented. -/
def crc (bytes : List Byte) : BitVec 32 := ~~~ (crcRun (messageBits bytes) 0xFFFFFFFF#32).reverse

/-- The check range of an item whose check word stands at offset `off`: every other byte (R185). -/
def checkRange (bytes : List Byte) (off : Nat) : List Byte := bytes.take off ++ bytes.drop (off + 4)

/-- The check word at offset `off` matches the item. -/
def checkGood (bytes : List Byte) (off : Nat) : Bool := decide (field bytes off 4 = (crc (checkRange bytes off)).toNat)

/-- An item with its check word: `front` before it, `back` after it. -/
def sealItem (front back : List Byte) : List Byte := front ++ leBytes 4 (crc (front ++ back)).toNat ++ back

/-! ## The image of the parameter store (R178, R185)

The fields in the order of R178, path A's before path B's, 96 bytes, and the check word behind them (log entry 7). -/

/-- Length of the image without its check word, and so the offset of the check word. -/
abbrev imageLength : Nat := 96

/-- The parameters of one path in the image, 22 bytes. -/
def pathImage (q : PathParams) : List Byte :=
  leBytes 2 q.silenceTime ++ leBytes 2 q.holdoff ++ leBytes 1 q.nGood ++ q.settings.toList ++ [flagByte q.enabled]

/-- The image of the stored parameters. -/
def imageBody (q : Params) : List Byte :=
  leBytes 1 q.rate ++ leBytes 2 q.reserve ++ leBytes 1 q.idleLimit ++ leBytes 1 q.urgent ++ leBytes 2 q.repeatTime
    ++ leBytes 1 q.nMark ++ leBytes 1 q.attemptLimit ++ [flagByte q.stepEnable]
    ++ (q.catchUp.toList.flatMap (leBytes 1)) ++ (q.laneQuota.toList.flatMap (leBytes 2)) ++ leBytes 2 q.patternQuota
    ++ pathImage q.pathA ++ pathImage q.pathB

/-- The parameters of one path, read from an image at an offset. -/
def parsePathImage (bytes : List Byte) (off : Nat) : PathParams where
  silenceTime := field bytes off 2
  holdoff := field bytes (off + 2) 2
  nGood := field bytes (off + 4) 1
  settings := ⟨((List.range 16).map fun k => byteAt bytes (off + 5 + k)).toArray, by simp⟩
  enabled := decide (byteAt bytes (off + 21) ≠ 0)

/-- The stored parameters, read from an image. -/
def parseImage (bytes : List Byte) : Params where
  rate := field bytes 0 1
  reserve := field bytes 1 2
  idleLimit := field bytes 3 1
  urgent := field bytes 4 1
  repeatTime := field bytes 5 2
  nMark := field bytes 7 1
  attemptLimit := field bytes 8 1
  stepEnable := decide (byteAt bytes 9 ≠ 0)
  catchUp := ⟨((List.range 32).map fun k => field bytes (10 + k) 1).toArray, by simp⟩
  laneQuota := #v[field bytes 42 2, field bytes 44 2, field bytes 46 2, field bytes 48 2]
  patternQuota := field bytes 50 2
  pathA := parsePathImage bytes 52
  pathB := parsePathImage bytes 74

/-- The store after a STORE of an image: with its check word, or with one that fails (R176). -/
def Store.holding (image : Params) (good : Bool) : Store :=
  let body := imageBody image
  ⟨body ++ leBytes 4 (if good then crc body else ~~~(crc body)).toNat⟩

/-- The check word of the image holds (R176, R177, R179). -/
def Store.valid (s : Store) : Bool := checkGood s.bytes imageLength

/-- The parameters the image holds. -/
def Store.image (s : Store) : Params := parseImage s.bytes

/-! ## Lane records (12.2) -/

/-- Offset of the check word in a record. -/
abbrev recordCheckAt : Nat := 4

/-- Kind bytes of records. -/
abbrev kindOpen : Byte := 0x01
abbrev kindPacket : Byte := 0x02
abbrev kindClose : Byte := 0x03
abbrev kindLaneReset : Byte := 0x0F

/-- The kind byte of a record. -/
def recordKind (bytes : List Byte) : Byte := byteAt bytes 0

/-- The lane sequence of a record. -/
def recordSeq (bytes : List Byte) : LaneSeq := BitVec.ofNat 16 (field bytes 2 2)

/-- The parameters of an OPEN (12.2), in a record from offset 8 and on the command page from offset 16. -/
structure OpenParams where
  tag : Nat
  pathSet : PathSet
  presence : Byte
  startField : Nat
  n : Nat
  d : Nat
  lt : Nat
  la : Nat
  lf : Nat
  k : Nat
  s : Nat
  h : Nat
  delta : Nat
deriving DecidableEq, Repr

/-- Read an OPEN body (12.2). Bits 2 to 7 of the path-set byte are ignored (R186). -/
def parseOpen (body : List Byte) : OpenParams where
  tag := field body 0 2
  pathSet := ⟨(byteAt body 2).getLsbD 0, (byteAt body 2).getLsbD 1⟩
  presence := byteAt body 3
  startField := field body 28 6
  n := field body 4 4
  d := field body 8 2
  lt := field body 10 2
  la := field body 12 2
  lf := field body 14 2
  k := field body 16 2
  s := field body 18 2
  h := field body 20 4
  delta := field body 24 4

/-- The body of an OPEN (12.2). -/
def openBody (o : OpenParams) : List Byte :=
  leBytes 2 o.tag
    ++ [BitVec.ofNat 8 ((if o.pathSet.a then 1 else 0) + (if o.pathSet.b then 2 else 0)), o.presence]
    ++ leBytes 4 o.n ++ leBytes 2 o.d ++ leBytes 2 o.lt ++ leBytes 2 o.la ++ leBytes 2 o.lf ++ leBytes 2 o.k
    ++ leBytes 2 o.s ++ leBytes 4 o.h ++ leBytes 4 o.delta ++ leBytes 6 o.startField

/-- The start frame an OPEN record names: present, or absent with its bytes ignored (R186). -/
def recordStart (o : OpenParams) : Option Nat := if o.presence = 1 then some o.startField else none

/-- The start frame a PATTERN OPEN names; a presence byte other than 0 and 1 is a free value (log entry 20). -/
def patternStart (o : OpenParams) : Option Nat :=
  if o.presence = 1 then some o.startField
  else if o.presence = 0 then none
  else if Config.patternPresence o.presence then some o.startField else none

/-- The form of an OPEN record (R61, R186): length 42, check word, kind, presence. -/
def openForm (bytes : List Byte) : Bool :=
  decide (bytes.length = 42) && decide (recordKind bytes = kindOpen) && checkGood bytes recordCheckAt
    && (decide (byteAt bytes 11 = 0) || decide (byteAt bytes 11 = 1))

/-- An OPEN record of a lane sequence. -/
def openRecordBytes (seq : LaneSeq) (o : OpenParams) : List Byte :=
  sealItem ([kindOpen, 0] ++ leBytes 2 seq.toNat) (openBody o)

/-- The header of a PACKET record, with its payload (12.2). Bits 3 to 7 of the markers byte are ignored (R186). -/
structure PacketRecord where
  first : Bool
  last : Bool
  cut : Bool
  slot : Nat
  tag : Nat
  frameField : Nat
  index : Nat
  payload : List Byte
deriving DecidableEq, Repr

/-- Read a PACKET record. -/
def parsePacket (bytes : List Byte) : PacketRecord where
  first := (byteAt bytes 1).getLsbD 0
  last := (byteAt bytes 1).getLsbD 1
  cut := (byteAt bytes 1).getLsbD 2
  slot := (byteAt bytes 8).toNat
  tag := field bytes 10 2
  frameField := field bytes 12 2
  index := field bytes 14 2
  payload := bytes.drop 18

/-- The form of a PACKET record (R61): check word, kind, payload length 1 to 1,440, length, slot. -/
def packetForm (bytes : List Byte) : Bool :=
  decide (18 ≤ bytes.length) && decide (recordKind bytes = kindPacket) && checkGood bytes recordCheckAt
    && decide (1 ≤ field bytes 16 2) && decide (field bytes 16 2 ≤ 1440)
    && decide (bytes.length = 18 + field bytes 16 2) && decide ((byteAt bytes 8).toNat ≤ 15)

/-- A PACKET record of a lane sequence. -/
def packetRecordBytes (seq : LaneSeq) (p : PacketRecord) : List Byte :=
  sealItem
    ([kindPacket, BitVec.ofNat 8 ((if p.first then 1 else 0) + (if p.last then 2 else 0) + (if p.cut then 4 else 0))]
      ++ leBytes 2 seq.toNat)
    ([BitVec.ofNat 8 p.slot, 0] ++ leBytes 2 p.tag ++ leBytes 2 p.frameField ++ leBytes 2 p.index
      ++ leBytes 2 p.payload.length ++ p.payload)

/-- A CLOSE record (12.2): slot, whether the mode is NOW, tag. -/
structure CloseRecord where
  slot : Nat
  now : Bool
  tag : Nat
deriving DecidableEq, Repr

/-- Read a CLOSE record: mode 0 DRAIN, 1 NOW. -/
def parseClose (bytes : List Byte) : CloseRecord where
  slot := (byteAt bytes 8).toNat
  now := decide (byteAt bytes 9 = 1)
  tag := field bytes 10 2

/-- The form of a CLOSE record (R61): length 12, check word, kind, slot, mode. -/
def closeForm (bytes : List Byte) : Bool :=
  decide (bytes.length = 12) && decide (recordKind bytes = kindClose) && checkGood bytes recordCheckAt
    && decide ((byteAt bytes 8).toNat ≤ 15) && (decide (byteAt bytes 9 = 0) || decide (byteAt bytes 9 = 1))

/-- A CLOSE record of a lane sequence. -/
def closeRecordBytes (seq : LaneSeq) (c : CloseRecord) : List Byte :=
  sealItem ([kindClose, 0] ++ leBytes 2 seq.toNat) ([BitVec.ofNat 8 c.slot, flagByte c.now] ++ leBytes 2 c.tag)

/-- The form of a LANE RESET record (R61): length 8, check word, kind. -/
def laneResetForm (bytes : List Byte) : Bool :=
  decide (bytes.length = 8) && decide (recordKind bytes = kindLaneReset) && checkGood bytes recordCheckAt

/-- A LANE RESET record of a lane sequence. -/
def laneResetRecordBytes (seq : LaneSeq) : List Byte := sealItem ([kindLaneReset, 0] ++ leBytes 2 seq.toNat) []

/-! ## STATUS frames (12.4) -/

/-- The form of a STATUS on a path (R114, R186). -/
def statusForm (p : PathId) (bytes : List Byte) : Bool :=
  decide (bytes.length = 32) && decide (byteAt bytes 0 = 0x5A) && decide ((byteAt bytes 1).toNat = pathCode p)
    && checkGood bytes 28

/-- Read a STATUS. Bits 1 to 7 of the REPEAT byte are ignored (R186). -/
def parseStatus (bytes : List Byte) : StatusRecord where
  ack := BitVec.ofNat 32 (field bytes 4 4)
  repeats := (byteAt bytes 2).getLsbD 0
  counter := byteAt bytes 3

/-- A STATUS frame of a path. -/
def statusBytes (p : PathId) (t : StatusRecord) : List Byte :=
  sealItem ([0x5A, BitVec.ofNat 8 (pathCode p), flagByte t.repeats, t.counter] ++ leBytes 4 t.ack.toNat
    ++ List.replicate 20 0) []

/-! ## Codes of enumerated fields (11.2, 12.3) -/

/-- Closure reason codes; 0 stands for none. -/
def reasonCode : Option ClosureReason → Nat
  | none => 0
  | some .requested => 1
  | some .drained => 2
  | some .abandoned => 3
  | some .host => 4
  | some .laneReset => 5
  | some .cleared => 6

/-- Refusal codes; 0 when none (R175). -/
def refusalCode : Option RefusalCode → Nat
  | none => 0
  | some .badParam => 1
  | some .noSlot => 2
  | some .capacity => 3
  | some .notOpen => 4
  | some .patternBusy => 5
  | some .pathDisabled => 6
  | some .badCommand => 7
  | some .storeFailed => 8
  | some .storeInvalid => 9
  | some .streamsOpen => 10
  | some .entriesLive => 11
  | some .quotaSum => 12
  | some .noticeRoom => 13
  | some .badValue => 14

/-- Codes of a refused OPEN in its notice (12.3). -/
def openRefusalCode : OpenRefusal → Nat
  | .badParam => 1
  | .noSlot => 2
  | .capacity => 3

/-- A path set as flags: bit 0 A, bit 1 B. -/
def pathSetCode (t : PathSet) : Nat := (if t.a then 1 else 0) + (if t.b then 2 else 0)

/-- The condition flags as a byte (12.4). -/
def flagsCode (f : ConditionFlags) : Nat :=
  (if f.gap then 1 else 0) + (if f.restart then 2 else 0) + (if f.count then 4 else 0) + (if f.cut then 8 else 0)
    + (if f.full then 16 else 0) + (if f.skipped then 32 else 0)

/-! ## Notices (12.3) -/

/-- The kind byte of a notice. -/
def noticeKind : Notice → Byte
  | .opened .. => 0x81
  | .refused .. => 0x82
  | .closed .. => 0x83
  | .credit .. => 0x84
  | .laneReady .. => 0x85

/-- The body of a notice, from offset 6. -/
def noticeBody : Notice → List Byte
  | .opened tag slot start a b =>
    leBytes 2 tag ++ [BitVec.ofNat 8 slot.val, 0] ++ leBytes 6 start ++ leBytes 2 a ++ leBytes 2 b
  | .refused tag code => leBytes 2 tag ++ leBytes 1 (openRefusalCode code)
  | .closed tag slot reason => leBytes 2 tag ++ [BitVec.ofNat 8 slot.val] ++ leBytes 1 (reasonCode (some reason))
  | .credit n => leBytes 2 n
  | .laneReady n => leBytes 2 n

/-- The bytes of a notice on a lane. -/
def noticeBytes (l : Fin 4) (t : Notice) : List Byte :=
  sealItem [noticeKind t, BitVec.ofNat 8 l.val] (noticeBody t)

/-- Length of a notice (12.3). -/
def noticeLength : Notice → Nat
  | .opened .. => 20
  | .refused .. => 9
  | .closed .. => 10
  | .credit .. => 8
  | .laneReady .. => 8

/-- Time a notice occupies the return direction: 10 ns for each byte (R72). -/
def noticeTime (t : Notice) : Nat := 10 * noticeLength t

/-! ## Carriage frames (12.4) -/

/-- The payload of an entry, read from its cells (R90). -/
def payloadFrom (mem : List Host.Cell) : List Nat → Nat → List Byte
  | [], _ => []
  | c :: cs, len =>
    readBytes mem (c * Config.cellBytes) (min len Config.cellBytes) ++ payloadFrom mem cs (len - Config.cellBytes)

/-- A DATA frame (R110): the entry's description, the window place and the payload bytes. -/
def dataFrameBytes (p : PathId) (e : Entry) (w : WindowPlace) (payload : List Byte) : List Byte :=
  sealItem
    ([0xD1, BitVec.ofNat 8 (pathCode p), BitVec.ofNat 8 e.slot.val, BitVec.ofNat 8 w.repeats]
      ++ leBytes 2 w.tag ++ leBytes 2 e.payload ++ leBytes 4 w.seq.toNat ++ leBytes 4 e.frame ++ leBytes 2 e.index
      ++ leBytes 1 (flagsCode e.flags) ++ List.replicate 5 0 ++ payload ++ leBytes 4 (e.stamp.getD 0)) []

/-- A MARK frame (R111): `time` is the house time at its beginning. -/
def markFrameBytes (p : PathId) (ordinal : Byte) (resume : PathSeq) (time : Nat) : List Byte :=
  sealItem
    ([0xA5, BitVec.ofNat 8 (pathCode p), ordinal, 0] ++ leBytes 4 resume.toNat ++ leBytes 4 time
      ++ List.replicate 40 0) []

end Sys2Proof.Machine
end

