-- ==== Sys2Proof/Machine/Flags.lean ====
section
/-!
DEFINITION. The pure computations on a packet and on a stream: the extension of a frame number, Intake's checks and
condition flags, the schedule arithmetic, the lateness index, the spacing floors, the load and the OPEN checks.
-/

namespace Sys2Proof.Machine

open Sys2Proof

/-! ## Placing a packet (R78, R79) -/

/-- Extend a 16-bit frame field against fc (R78). The result may lie below 0. -/
def extendFrame (fc fieldValue : Nat) : Int :=
  let d := (fieldValue + 65536 - fc % 65536) % 65536
  if d ≤ 32767 then (fc : Int) + d else (fc : Int) + d - 65536

/-- Why Intake refuses a packet (R79). -/
inductive IntakeDrop where
  | lateArrival
  | ahead
  | overlong
  | order
deriving DecidableEq, Repr

/-- The counter of a refusal (R88). -/
def intakeDropCounter : IntakeDrop → SlotCounter
  | .lateArrival => .lateArrival
  | .ahead => .ahead
  | .overlong => .overlong
  | .order => .order

/-- (f, i) is after the last accepted packet: frame first, index second (R79). -/
def afterLast (last : Option (Nat × Nat)) (f i : Nat) : Bool :=
  match last with
  | none => true
  | some (lf, li) => decide (lf < f) || (decide (lf = f) && decide (li < i))

/-- Intake's four checks, in order: the full frame number, or why the packet is refused (R79). -/
def judgePacket (t : Slot) (frameField index : Nat) : Except IntakeDrop Nat :=
  let f := extendFrame t.fc frameField
  if f < (t.fc : Int) then .error .lateArrival
  else if (t.fc : Int) + 3 < f then .error .ahead
  else if t.k ≤ index then .error .overlong
  else if !afterLast t.intake.lastAccepted f.toNat index then .error .order
  else .ok f.toNat

/-! ## Condition flags at acceptance (R81 to R85) -/

/-- The packet begins a new frame: F differs from the previous packet's frame, or there is none (R80). -/
def newFrame (last : Option (Nat × Nat)) (f : Nat) : Bool :=
  match last with
  | none => true
  | some (lf, _) => decide (lf ≠ f)

/-- GAP (R81). -/
def gapFlag (r : IntakeRecord) (f index : Nat) (first : Bool) : Bool :=
  (match r.lastAccepted with
    | none => false
    | some (lf, li) => decide (lf = f) && (decide (index ≠ li + 1) || !r.isOpen))
  || (first && decide (index ≠ 0))
  || (newFrame r.lastAccepted f && !first)

/-- RESTART (R82). -/
def restartFlag (r : IntakeRecord) (f : Nat) (first : Bool) : Bool :=
  r.isOpen && (first || newFrame r.lastAccepted f)

/-- COUNT (R83). -/
def countFlag (k index : Nat) (last cut : Bool) : Bool := last && !cut && decide (index + 1 ≠ k)

/-- The flags an entry takes at acceptance; FULL comes from pending FULL (R85), SKIPPED is clear (R80). -/
def acceptFlags (t : Slot) (f index : Nat) (first last cut : Bool) : ConditionFlags where
  gap := gapFlag t.intake f index first
  restart := restartFlag t.intake f first
  count := countFlag t.k index last cut
  cut := cut
  full := t.intake.pendingFull
  skipped := false

/-- The intake record after an acceptance (R80, R85). -/
def acceptRecord (r : IntakeRecord) (f index : Nat) (last : Bool) : IntakeRecord :=
  { r with lastAccepted := some (f, index), isOpen := !last, pendingFull := false }

/-! ## The schedule (R20 to R24) -/

/-- The beginning of frame `f` (R20). -/
def boundary (n d f : Nat) : Nat := f * d * Config.second / n

/-- The scheduled instant of packet `i` of frame `f` in closed form (R22). -/
def scheduledInstant (t : Slot) (f i : Nat) : Nat := boundary t.n t.d f + t.o + t.delta + i * t.nn / t.dd

/-- The close instant of frame `f`: t(f + 1, 0) (R24). -/
def closeInstant (t : Slot) (f : Nat) : Nat := boundary t.n t.d (f + 1) + t.o + t.delta

/-- One step of the Pacer's step state: index, offset, remainder (R23). -/
def stepOnce (q r dd : Nat) (st : Nat × Nat × Nat) : Nat × Nat × Nat :=
  let offset := st.2.1 + q
  let remainder := st.2.2 + r
  if dd ≤ remainder then (st.1 + 1, offset + 1, remainder - dd) else (st.1 + 1, offset, remainder)

/-- `n` steps (R23). -/
def stepTimes (q r dd : Nat) : Nat → Nat × Nat × Nat → Nat × Nat × Nat
  | 0, st => st
  | n + 1, st => stepTimes q r dd n (stepOnce q r dd st)

/-- The lateness index of a lateness (R28). -/
def latenessIndex (x : Nat) : Nat :=
  if x < 1000 then x / 125
  else if x < 9000 then 8 + (x - 1000) / 1000
  else if x < 73000 then 16 + (x - 9000) / 8000
  else if x < 585000 then 24 + (x - 73000) / 64000
  else 31

/-- The spacing floor of a catch-up code (R26); code 0 has none. -/
def spacing (q code : Nat) : Nat :=
  if code = 1 then q - q / 8 else if code = 2 then q - q / 4 else q - q / 2

/-- The eligibility instant of a head scheduled at `t` (R26). -/
def eligibility (c : Slot) (t : Nat) : Nat :=
  if c.sameFrame && decide (0 < c.lambdaPrev) && decide (c.codePrev ≠ 0) then max t (c.aPrev + spacing c.q c.codePrev)
  else t

/-! ## OPEN: derived terms, checks, clamps, load and start frame (R3 to R8) -/

/-- Interval numerator and denominator, window offset (R5). -/
def openNn (o : OpenParams) : Nat := o.d * Config.second * o.la
def openDd (o : OpenParams) : Nat := o.n * o.lt * o.k
def openO (o : OpenParams) : Nat := o.lf * o.d * Config.second / (o.n * o.lt)

/-- A check of R3 fails. -/
def badOpen (o : OpenParams) : Bool :=
  (!o.pathSet.a && !o.pathSet.b)
  || decide (o.n = 0) || decide (240000 < o.n)
  || decide (o.d = 0) || decide (1001 < o.d)
  || decide (o.lt = 0) || decide (4500 < o.lt)
  || decide (o.la = 0) || decide (o.lt < o.la)
  || decide (o.lt < o.lf + o.la)
  || decide (o.k = 0)
  || decide (o.s < 64) || decide (1440 < o.s)
  || decide (o.d * Config.second < 4000000 * o.n) || decide (50000000 * o.n < o.d * Config.second)
  || decide (openNn o / openDd o < 100)

/-- The discard horizon after the clamp of R4. -/
def clampHorizon (h : Nat) : Nat := if h = 0 then 0 else clampTo 1000 1000000 h

/-- The launch offset after the clamp of R4. -/
def clampDelta (d : Nat) : Nat := min d 1000000

/-- The load of a stream in permille of a path's rate (R8). -/
def openLoad (rate : Nat) (o : OpenParams) : Nat :=
  ceilDiv ((o.s + 40) * 8 * 1000 * openDd o) (openNn o * rate)

/-- The smallest frame whose boundary is at or after `bound` (R6). -/
def firstFrameAt (n d bound : Nat) : Nat := ceilDiv (bound * n) (d * Config.second)

/-- The start frame (R6): the named frame if its boundary is at or after the bound and its first close instant is at
most 2⁶⁴ − 1, else the first frame at or after the bound. -/
def chooseStart (o : OpenParams) (requested : Option Nat) (now : Nat) : Nat :=
  let bound := now + Config.startMargin
  let first := firstFrameAt o.n o.d bound
  match requested with
  | none => first
  | some f =>
    if bound ≤ boundary o.n o.d f
        ∧ boundary o.n o.d (f + 1) + openO o + clampDelta o.delta < Config.houseTimeEnd then f
    else first

end Sys2Proof.Machine
end

