-- ==== Sys2Proof/Machine/Cells.lean ====
section
/-!
DEFINITION. Cell Memory and the credit accounts: the entry and cell pools, the holder set, freeing, filling, the
credit that a free or a refund gives back (chapter 6, R66, R68).
-/

namespace Sys2Proof.Machine

open Sys2Proof

/-! ## Entries -/

/-- The live entry of a number. -/
def State.entry? (s : State) (n : Nat) : Option Entry := s.entries.find? fun e => decide (e.number = n)

/-- Update the live entry of a number. -/
def State.updEntry (s : State) (n : Nat) (f : Entry → Entry) : State :=
  { s with entries := s.entries.map fun e => if e.number = n then f e else e }

/-- No holder is left. -/
def Holders.isEmpty (h : Holders) : Bool :=
  !h.queued && !h.service && !h.windowA && !h.windowB && !h.backlogA && !h.backlogB

/-- No holder at all. -/
def Holders.nobody : Holders := ⟨false, false, false, false, false, false⟩

/-- Set or clear one holder. -/
def Holders.put (h : Holders) (x : Holder) (v : Bool) : Holders :=
  match x with
  | .queued => { h with queued := v }
  | .service => { h with service := v }
  | .window .a => { h with windowA := v }
  | .window .b => { h with windowB := v }
  | .backlog .a => { h with backlogA := v }
  | .backlog .b => { h with backlogB := v }

/-- Does the set hold this place? -/
def Holders.has (h : Holders) : Holder → Bool
  | .queued => h.queued
  | .service => h.service
  | .window .a => h.windowA
  | .window .b => h.windowB
  | .backlog .a => h.backlogA
  | .backlog .b => h.backlogB

/-- The lowest-numbered free entry (R91), for entries rising in number from `k` on. -/
def freeNumber : List Entry → Nat → Option Nat
  | [], k => if k < Config.entryCount then some k else none
  | e :: es, k => if e.number = k then freeNumber es (k + 1) else if k < Config.entryCount then some k else none

/-- The lowest-numbered free entry of the part. -/
def State.freeEntry (s : State) : Option Nat := freeNumber s.entries 0

/-- Put a live entry in its place by number. -/
def insertEntry (e : Entry) : List Entry → List Entry
  | [] => [e]
  | x :: xs => if e.number < x.number then e :: x :: xs else x :: insertEntry e xs

/-- Cells listed in live entries (R90). -/
def State.heldCells (s : State) : List Nat := s.entries.flatMap fun e => e.cells

/-- Cells held by the live entries of an account (R68, R104). -/
def State.heldBy (s : State) (o : Owner) : Nat :=
  ((s.entries.filter fun e => decide (e.owner = o)).map fun e => e.cells.length).sum

/-- Free cells (R90). -/
def State.freeCells (s : State) : Nat := Config.cellCount - s.heldCells.length

/-- The `need` lowest-numbered cells from `cell` on that are not held, in increasing number (R90). -/
def lowestCells (held : List Nat) : Nat → Nat → Nat → List Nat
  | 0, _, _ => []
  | _ + 1, _, 0 => []
  | fuel + 1, cell, need + 1 =>
    if held.contains cell then lowestCells held fuel (cell + 1) (need + 1)
    else cell :: lowestCells held fuel (cell + 1) need

/-- The cells a filling takes (R90). -/
def State.takeCells (s : State) (c : Nat) : List Nat := lowestCells s.heldCells Config.cellCount 0 c

/-- Write a payload into the cells of a list: byte k at offset k mod 256 of the cell at position floor(k / 256) (R90). -/
def writePayload (mem : List Host.Cell) : List Nat → List Byte → List Host.Cell
  | [], _ => mem
  | c :: cs, bytes =>
    writePayload (writeBytes mem (c * Config.cellBytes) (bytes.take Config.cellBytes)) cs (bytes.drop Config.cellBytes)

/-! ## Credit (R66, R68) -/

/-- Update a lane's account. -/
def State.updAccount (s : State) (l : Fin 4) (f : Account → Account) : State :=
  s.updLane l fun x => { x with account := f x.account }

/-- Add cells to a lane account's pending credit; the first pending cell starts the 20,000 ns timer (R68, R69). -/
def Account.addPending (a : Account) (c now : Nat) : Account :=
  { a with
    pending := a.pending + c
    oldest := match a.oldest with
      | some t => some t
      | none => if c = 0 then none else some now }

/-- Report `c` freed cells to an account (R68, R100): a lane's become pending credit, PATTERN's are outstanding at once. -/
def State.returnCells (s : State) (o : Owner) (c : Nat) : State :=
  match o with
  | .lane l => s.updAccount l fun a => a.addPending c s.now
  | .pattern => s.updPattern fun p => { p with outstanding := p.outstanding + c }

/-- Charge and refund a dropped PACKET of `c` cells: they move from outstanding to pending if there are so many (R66). -/
def State.refund (s : State) (l : Fin 4) (c : Nat) : State :=
  if c ≤ (s.lane l).account.outstanding then
    s.updAccount l fun a => { a with outstanding := a.outstanding - c }.addPending c s.now
  else s

/-! ## Freeing (R99, R100, R106) -/

/-- Free an entry: it leaves the live entries, its cells go to its owner account, the free is counted by its cause,
and an entry pause of the Pattern Source ends (R100, R106, R167). -/
def State.freeOne (s : State) (e : Entry) (cause : PartCounter) : State :=
  let s := { s with entries := s.entries.filter fun x => decide (x.number ≠ e.number) }
  let s := s.returnCells e.owner e.cells.length
  (s.updPattern fun p => { p with waitEntry := false }).countPart cause 1

/-- Remove a holder from an entry; an entry left with none is freed in the same event. A holder the entry does not
carry changes nothing (R99, R100). -/
def State.dropHolder (s : State) (n : Nat) (x : Holder) (cause : PartCounter) : State :=
  match s.entry? n with
  | none => s
  | some e =>
    if e.holders.has x then
      let h := e.holders.put x false
      if h.isEmpty then s.freeOne e cause else s.updEntry n fun e => { e with holders := h }
    else s

/-- Remove the same holder from several entries, in order. -/
def State.dropAll (s : State) (x : Holder) (cause : PartCounter) : List Nat → State
  | [] => s
  | n :: ns => (s.dropHolder n x cause).dropAll x cause ns

/-! ## Filling (R90, R92) -/

/-- Fill the free entry `n` with a packet, QUEUED, at the tail of its stream's queue; its cells take the payload.
FILLED and the peaks are counted (R106). The owner account's outstanding credits fall by the cells it takes. -/
def State.fill (s : State) (n : Nat) (i : Fin 16) (o : Owner) (frame index : Nat) (payload : List Byte)
    (flags : ConditionFlags) : State :=
  let c := cellsFor payload.length
  let cells := s.takeCells c
  let e : Entry :=
    { number := n, slot := i, owner := o, frame, index, payload := payload.length, cells, flags, stamp := none,
      holders := Holders.nobody.put .queued true }
  let s := { s with entries := insertEntry e s.entries, cellMem := writePayload s.cellMem cells payload }
  let s := s.updSlot i fun t => { t with queue := t.queue ++ [n] }
  let s := match o with
    | .lane l => s.updAccount l fun a => { a with outstanding := a.outstanding - c }
    | .pattern => s.updPattern fun p => { p with outstanding := p.outstanding - c }
  ((s.countPart .filled 1).peakPart .peakEntries s.entries.length).peakPart .peakCells s.heldCells.length

end Sys2Proof.Machine
end

