-- ==== Sys2Proof/Machine/Streams.lean ====
section
/-!
DEFINITION. The notice queue of a lane, the opening of a stream and its closure (R71, R2 to R11).
-/

namespace Sys2Proof.Machine

open Sys2Proof

/-! ## Notices (R71) -/

/-- The notice is a CREDIT. -/
def Notice.isCredit : Notice → Bool
  | .credit _ => true
  | _ => false

/-- The lane's queue has room for a notice. -/
def Lane.hasRoom (l : Lane) : Bool := decide (l.queue.length < Config.noticeLimit)

/-- The lane's queue holds a CREDIT. -/
def Lane.hasCredit (l : Lane) : Bool := l.queue.any Notice.isCredit

/-- A notice joins the tail of a lane's queue, where room has been assured. -/
def State.queueNotice (s : State) (l : Fin 4) (t : Notice) : State :=
  s.updLane l fun x => { x with queue := x.queue ++ [t] }

/-- LANE READY joins a lane's queue; a CREDIT in the queue is removed first (R71). -/
def State.queueLaneReady (s : State) (l : Fin 4) (count : Nat) : State :=
  s.updLane l fun x => { x with queue := (x.queue.filter fun t => !t.isCredit) ++ [.laneReady count] }

/-- A CLOSED notice is offered to a lane's queue: with 32 queued it is lost, counted NOTICE_LOST, and LANE_FAULT is
latched (R71). -/
def State.offerClosed (s : State) (l : Fin 4) (t : Notice) : State :=
  if (s.lane l).hasRoom then s.queueNotice l t
  else
    ((s.updLane l fun x => { x with lastFault := some .noticeLost }).countLane l .noticeLost 1).latchLane l

/-! ## Opening (R2, R5, R9) -/

/-- The context of an accepted OPEN (R5), ARMED. -/
def openedSlot (own : Owner) (o : OpenParams) (requested : Option Nat) (region : Option (Nat × Nat))
    (load start : Nat) : Slot :=
  { Slot.blank with
    state := .armed
    owner := own
    tag := o.tag
    pathSet := o.pathSet
    n := o.n
    d := o.d
    lt := o.lt
    la := o.la
    lf := o.lf
    k := o.k
    s := o.s
    h := clampHorizon o.h
    delta := clampDelta o.delta
    nn := openNn o
    dd := openDd o
    q := openNn o / openDd o
    r := openNn o % openDd o
    o := openO o
    fs := start
    fc := start
    requestedStart := requested
    patternRegion := region
    loadA := if o.pathSet.a then load else 0
    loadB := if o.pathSet.b then load else 0 }

/-- The budget of a path: 1,000 minus the reserve (R9). -/
def State.budget (s : State) : Nat := 1000 - s.params.reserve

/-- The load fits every path of the path set (R9). -/
def State.admits (s : State) (t : PathSet) (load : Nat) : Bool :=
  (!t.a || decide (s.sumA + load ≤ s.budget)) && (!t.b || decide (s.sumB + load ≤ s.budget))

/-- The Stream Table takes an OPEN (R2): lowest FREE slot, checks of R3 (and, for a pattern stream, of its length:
`extraBad`), clamps, admission. A refusal changes nothing. -/
def State.takeOpen (s : State) (own : Owner) (o : OpenParams) (requested : Option Nat) (region : Option (Nat × Nat))
    (extraBad : Bool) : State × Except OpenRefusal OpenResult :=
  match s.lowestFree with
  | none => (s, .error .noSlot)
  | some i =>
    if badOpen o || extraBad then (s, .error .badParam)
    else
      let load := openLoad s.params.rate o
      if !s.admits o.pathSet load then (s, .error .capacity)
      else
        let start := chooseStart o requested s.now
        let t := openedSlot own o requested region load start
        let s := s.updSlot i fun _ => t
        ({ s with sumA := s.sumA + t.loadA, sumB := s.sumB + t.loadB }, .ok ⟨i, start, t.loadA, t.loadB⟩)

/-! ## Closure (R11) -/

/-- The context after a closure: FREE, loads and idle count 0, the queue empty, the intake record cleared; every
other field stays (R1, R11, R77). -/
def closedSlot (reason : ClosureReason) (t : Slot) : Slot :=
  { t with
    state := .free
    lastReason := some reason
    loadA := 0
    loadB := 0
    idle := 0
    queue := []
    intake := ⟨none, false, false, false⟩ }

/-- The Pattern Source without a stream (R166). -/
def PatternSource.stopped (p : PatternSource) : PatternSource :=
  { p with slot := none, nextFrame := 0, nextIndex := 0, waitEntry := false, offered := false }

/-- The closure latches STREAM_CLOSED (R11): reasons REQUESTED, DRAINED and ABANDONED, and LANE_RESET when the reset
came from a record. -/
def closureLatches (reason : ClosureReason) (fromRecord : Bool) : Bool :=
  match reason with
  | .requested => true
  | .drained => true
  | .abandoned => true
  | .laneReset => fromRecord
  | .host => false
  | .cleared => false

/-- Close the stream of slot `i` (R11). `fromRecord` says that a LANE_RESET closure comes from a record. -/
def State.closeStream (s : State) (i : Fin 16) (reason : ClosureReason) (fromRecord : Bool) : State :=
  let t := s.slot i
  let s := s.dropAll .queued .freedUnlaunched t.queue
  let s := s.updSlot i (closedSlot reason)
  let s := { s with
    sumA := s.sumA - t.loadA
    sumB := s.sumB - t.loadB
    due := s.due.set i false
    held := s.held.set i false }
  let s := match t.owner with
    | .lane l => if reason = .laneReset then s else s.offerClosed l (.closed t.tag i reason)
    | .pattern => s.updPattern PatternSource.stopped
  if closureLatches reason fromRecord then s.latchSlot i else s

/-- A DRAINING stream whose queue is empty closes with reason DRAINED (R14). -/
def State.closeIfDrained (s : State) (i : Fin 16) : State :=
  if (s.slot i).state = .draining ∧ (s.slot i).queue = [] then s.closeStream i .drained false else s

end Sys2Proof.Machine
end

