-- ==== Sys2Proof/Machine/Pacer.lean ====
section
/-!
DEFINITION. The Pacer: forming heads, the due set, discards at the horizon, frame closes, the run of instants that a
forward step of house time passes (chapter 2).
-/

namespace Sys2Proof.Machine

open Sys2Proof

/-! ## The head (R23, R25, R26) -/

/-- The context with its head formed for an entry (frame, index) of fc: the Pacer takes the steps from the present
step index to the entry's (R23), and forms the scheduled and the eligibility instant (R25, R26). -/
def Slot.withHead (t : Slot) (index : Nat) : Slot :=
  let st := stepTimes t.q t.r t.dd (index - t.stepIndex) (t.stepIndex, t.stepOffset, t.stepRemainder)
  let sched := boundary t.n t.d t.fc + t.o + t.delta + st.2.1
  { t with
    stepIndex := st.1
    stepOffset := st.2.1
    stepRemainder := st.2.2
    head := some ⟨t.fc, index, sched, eligibility t sched⟩ }

/-- The first entry of a stream's queue. -/
def State.headEntry (s : State) (i : Fin 16) : Option Entry :=
  match (s.slot i).queue with
  | [] => none
  | n :: _ => s.entry? n

/-- Form the head of slot `i` if the slot is RUNNING or DRAINING and its first entry is of frame fc; else there is
no formed head (R25). -/
def State.formHead (s : State) (i : Fin 16) : State :=
  s.updSlot i fun t =>
    match s.headEntry i with
    | some e => if t.state.isPaced && decide (e.frame = t.fc) then t.withHead e.index else { t with head := none }
    | none => { t with head := none }

/-- The stream of slot `i` is due (R27, R45). -/
def State.isDue (s : State) (i : Fin 16) : Bool :=
  (s.slot i).state.isPaced && !s.held[i] &&
    match (s.slot i).head with
    | none => false
    | some hd => decide (hd.frame = (s.slot i).fc) && decide (hd.eligible ≤ s.now)

/-- The Pacer puts slot `i` in the due set or withdraws it (R27, R45). -/
def State.refreshDue (s : State) (i : Fin 16) : State := { s with due := s.due.set i (s.isDue i) }

/-- The same for every slot (R38, R40). -/
def State.refreshAll (s : State) : State := allSlots.foldl State.refreshDue s

/-! ## Discard at the horizon (R31) -/

/-- The discard instant of a context's head: t(head) + H, if H is above 0 and it lies before the close of fc (R31). A
head stands for an entry of the queue. -/
def discardInstant (t : Slot) : Option Nat :=
  if t.state.isPaced && decide (0 < t.h) && !t.queue.isEmpty then
    match t.head with
    | none => none
    | some hd => if hd.scheduled + t.h < closeInstant t t.fc then some (hd.scheduled + t.h) else none
  else none

/-- The discard expiry of slot `i` is pending and its instant is reached. -/
def State.discardPassed (s : State) (i : Fin 16) : Bool :=
  match discardInstant (s.slot i) with
  | none => false
  | some x => decide (x ≤ s.now)

/-- Discard the head of slot `i` (R31): it leaves the queue and loses QUEUED, the discarded tally and HORIZON grow,
pending SKIPPED is set, and pending FULL if the entry carried FULL (R85); the next head is formed. -/
def State.discardHead (s : State) (i : Fin 16) : State :=
  match (s.slot i).queue with
  | [] => s
  | n :: rest =>
    let full := ((s.entry? n).map fun e => e.flags.full).getD false
    let s := s.dropHolder n .queued .freedUnlaunched
    let s := s.updSlot i fun t =>
      { t with
        queue := rest
        discarded := t.discarded + 1
        intake := { t.intake with
          pendingSkipped := true
          pendingFull := t.intake.pendingFull || full } }
    (s.countSlot i .horizon 1).formHead i

/-- Discard heads until one remains whose discard instant lies ahead, or the queue holds no entry of fc (R31). -/
def State.discardRun (s : State) (i : Fin 16) : Nat → State
  | 0 => s
  | fuel + 1 => if s.discardPassed i then (s.discardHead i).discardRun i fuel else s

/-! ## Frame close (R33 to R37) -/

/-- The entry of a number is of frame `f`. -/
def State.isOfFrame (s : State) (f n : Nat) : Bool :=
  match s.entry? n with
  | none => false
  | some e => decide (e.frame = f)

/-- The context after the close of frame fc: `n` entries discarded, one of them FULL or not, the rest of the queue,
and how many of it are of the new fc (R34 steps 1 to 5, R33, R85). Missing is K − released − discarded, as R34 step 2
gives it, also for an arrival that the close turns into LATE_ARRIVAL (log entry 44). -/
def Slot.afterClose (t : Slot) (n : Nat) (full : Bool) (rest : List Nat) (arrived : Nat) : Slot :=
  let discarded := t.discarded + n
  { t with
    lastFrame := ⟨t.fc, t.released, t.late, discarded, t.arrived, t.k - t.released - discarded⟩
    idle := if t.released = 0 then min (t.idle + 1) 255 else 0
    fc := t.fc + 1
    released := 0
    late := 0
    discarded := 0
    arrived := arrived
    sameFrame := false
    stepIndex := 0
    stepOffset := 0
    stepRemainder := 0
    queue := rest
    intake := { t.intake with
      pendingSkipped := t.intake.pendingSkipped || decide (0 < n)
      pendingFull := t.intake.pendingFull || full } }

/-- The close of the current frame of slot `i` (R34), with the new head formed. -/
def State.closeFrame (s : State) (i : Fin 16) : State :=
  let t := s.slot i
  let gone := t.queue.filter (s.isOfFrame t.fc)
  let rest := t.queue.filter fun n => !s.isOfFrame t.fc n
  let full := gone.any fun n => ((s.entry? n).map fun e => e.flags.full).getD false
  let arrived := (rest.filter (s.isOfFrame (t.fc + 1))).length
  let missing := t.k - t.released - (t.discarded + gone.length)
  let s := s.dropAll .queued .freedUnlaunched gone
  let s := s.updSlot i fun t => t.afterClose gone.length full rest arrived
  let s := ((s.countSlot i .overrun gone.length).countSlot i .missing missing).countSlot i .framesClosed 1
  s.formHead i

/-- The tests at the end of a frame close: DRAINED, else ABANDONED at the idle limit (R35, R17). Within a forward step
ABANDONED is not tested (R38). -/
def State.closeTests (s : State) (i : Fin 16) (testIdle : Bool) : State :=
  if (s.slot i).state = .draining ∧ (s.slot i).queue = [] then s.closeStream i .drained false
  else if testIdle ∧ s.params.idleLimit ≠ 0 ∧ s.params.idleLimit ≤ (s.slot i).idle then s.closeStream i .abandoned false
  else s

/-- The close instant of slot `i` is reached (R34). -/
def State.closePassed (s : State) (i : Fin 16) : Bool :=
  (s.slot i).state.isPaced && decide (closeInstant (s.slot i) (s.slot i).fc ≤ s.now)

/-- Frame closes in turn until a close instant lies ahead of house time or the stream closes (R37). Before each close
the discard expiries of heads of fc that have passed are taken, in the order of their instants (R37, R38). -/
def State.closeRun (s : State) (i : Fin 16) : Nat → State
  | 0 => s
  | fuel + 1 =>
    if s.discardPassed i then ((s.discardHead i).closeIfDrained i).closeRun i fuel
    else if s.closePassed i then ((s.closeFrame i).closeTests i true).closeRun i fuel
    else s

/-- A bound on the run of slot `i`: each frame close moves its instant on by at least one nanosecond, each discard
removes an entry. -/
def State.closeFuel (s : State) (i : Fin 16) : Nat := s.now + 1 + (s.slot i).queue.length

/-! ## Arming (R7) -/

/-- The arming expiry of slot `i` is reached (R7). -/
def State.armingPassed (s : State) (i : Fin 16) : Bool :=
  decide ((s.slot i).state = .armed) && decide (boundary (s.slot i).n (s.slot i).d (s.slot i).fs ≤ s.now)

/-- The slot becomes RUNNING and its head instants are formed (R7, R25). -/
def State.arm (s : State) (i : Fin 16) : State :=
  (s.updSlot i fun t => { t with state := .running }).formHead i

/-! ## What a forward step passes over (R38) -/

/-- The earliest instant of slot `i` that house time has reached: arming, discard of the head, close of fc. -/
def State.nextPassed (s : State) (i : Fin 16) : Option Nat :=
  if s.armingPassed i then some (boundary (s.slot i).n (s.slot i).d (s.slot i).fs)
  else if s.discardPassed i then discardInstant (s.slot i)
  else if s.closePassed i then some (closeInstant (s.slot i) (s.slot i).fc)
  else none

/-- Of two slots with passed instants, the one with the earlier; the first on a tie (log entry 23). -/
def earlierOf (x : Option (Nat × Fin 16)) (y : Option (Nat × Fin 16)) : Option (Nat × Fin 16) :=
  match x, y with
  | none, y => y
  | x, none => x
  | some a, some b => if b.1 < a.1 then some b else some a

/-- The slot whose passed instant is the earliest. -/
def State.earliestPassed (s : State) : Option (Fin 16) :=
  (allSlots.foldl (fun acc i => earlierOf acc ((s.nextPassed i).map fun x => (x, i))) none).map Prod.snd

/-- Take the earliest passed instant of slot `i` (R38): arming, one discard, or one frame close without the test for
ABANDONED. -/
def State.takePassed (s : State) (i : Fin 16) : State :=
  if s.armingPassed i then s.arm i
  else if s.discardPassed i then (s.discardHead i).closeIfDrained i
  else (s.closeFrame i).closeTests i false

/-- Take every instant that house time has passed, in the order of the instants (R38). -/
def State.passRun (s : State) : Nat → State
  | 0 => s
  | fuel + 1 => s.earliestPassed.elim s fun i => (s.takePassed i).passRun fuel

/-- A bound on how many instants house time can have passed: each frame close moves its instant on by at least one
nanosecond, each discard removes an entry, each slot arms once. -/
def State.passFuel (s : State) : Nat := 16 * (s.now + 2) + s.entries.length

end Sys2Proof.Machine
end

