-- ==== Sys2Proof/Machine/Arbiter.lean ====
section
/-!
DEFINITION. The Launch Arbiter: classes, the priority ring, the choice and the grant (chapter 3).
-/

namespace Sys2Proof.Machine

open Sys2Proof

/-- A due slot grades URGENT: the lateness index of its waiting time is at or above U (R48). -/
def State.isUrgent (s : State) (i : Fin 16) : Bool :=
  match (s.slot i).head with
  | none => false
  | some hd => decide (s.params.urgent ≤ latenessIndex (s.now - hd.scheduled))

/-- Move a slot to the lowest position of the ring (R49, R50). -/
def lowestOnRing (ring : List (Fin 16)) (i : Fin 16) : List (Fin 16) := (ring.filter fun x => decide (x ≠ i)) ++ [i]

/-- The URGENT candidate highest on the ring (R51). -/
def State.urgentWinner (s : State) : Option (Fin 16) := s.ring.find? fun i => s.due[i] && s.isUrgent i

/-- The candidate highest on the ring (R51). -/
def State.normalWinner (s : State) : Option (Fin 16) := s.ring.find? fun i => s.due[i]

/-- The Pacer's record of a grant at instant `a` of a head scheduled at `t` (R30). -/
def Slot.granted (c : Slot) (catchUp : Vector Nat 32) (a t : Nat) : Slot :=
  let li := latenessIndex (a - t)
  { c with
    aPrev := a
    lambdaPrev := a - t
    indexPrev := li
    codePrev := catchUp.getD li 0
    sameFrame := true
    released := c.released + 1
    late := if 8 ≤ li then c.late + 1 else c.late }

/-- Grant the head of slot `i` at the present instant (R52), in the URGENT class or not: the entry goes from the queue
into service, takes its launch stamp and a pending SKIPPED; the Pacer records the grant; in AUTO mode the ring moves;
the next head is formed, and a drained stream closes. -/
def State.grant (s : State) (i : Fin 16) (urgent : Bool) : State :=
  match (s.slot i).queue, s.headEntry i, (s.slot i).head with
  | n :: rest, some e, some hd =>
    let t := s.slot i
    let a := s.now
    let skipped := t.intake.pendingSkipped
    let s := s.updEntry n fun e =>
      { e with
        holders := (e.holders.put .queued false).put .service true
        stamp := some (a % 2 ^ 32)
        flags := { e.flags with skipped := e.flags.skipped || skipped } }
    let s := s.updSlot i fun c =>
      { c.granted s.params.catchUp a hd.scheduled with
        queue := rest
        intake := { c.intake with pendingSkipped := false } }
    let s := { s with
      due := s.due.set i false
      launcher := some ⟨i, n, e.frame, e.index, e.payload, a, a + wireTime s.params.rate e.payload, t.pathSet, t.tag⟩
      ring := match s.ringMode with
        | .auto => lowestOnRing s.ring i
        | .fixed => s.ring }
    let s := (s.countSlot i .released 1).countPart .launches 1
    let s := if 8 ≤ latenessIndex (a - hd.scheduled) then s.countSlot i .late 1 else s
    let s := if urgent then s.countSlot i .urgent 1 else s
    let s := if skipped then s.countSlot i .skipped 1 else s
    ((s.formHead i).refreshDue i).closeIfDrained i
  | _, _, _ => s

/-- A choice: taken when the launcher is free and the due set is not empty; the highest URGENT candidate wins, else
the highest candidate, and its head is granted (R51). -/
def State.choice (s : State) : State :=
  match s.launcher with
  | some _ => s
  | none =>
    match s.urgentWinner with
    | some i => s.grant i true
    | none =>
      match s.normalWinner with
      | some i => s.grant i false
      | none => s

/-- The Pacer has moved slot `i`: its place in the due set follows, and a choice is taken if the launcher is free. -/
def State.settleSlot (s : State) (i : Fin 16) : State := (s.refreshDue i).choice

end Sys2Proof.Machine
end

