-- ==== Sys2Proof/Machine/Paths.lean ====
section
/-!
DEFINITION. The operations of a path sender: the line, the window and the backlog, probing, failing, release, the
repeat procedure, what a STATUS does (chapters 7 and 8).
-/

namespace Sys2Proof.Machine

open Sys2Proof

/-! ## Frames on the line (R109 to R111) -/

/-- The line carries FILL. -/
def Path.idleLine (x : Path) : Bool := decide (x.line = .fill)

/-- A DATA frame of a window place begins on the line; it lasts the wire time of its entry (R109). DESIGN CHOICE (log
entry 46): the path rate in use as the frame begins times it to its end, whatever the rate was at the grant. -/
def State.beginData (s : State) (p : PathId) (w : WindowPlace) : State :=
  let len := ((s.entry? w.entry).map fun e => e.payload).getD 0
  s.updPath p fun x => { x with line := .data w (s.elapsed + wireTime s.params.rate len) }

/-- A MARK frame begins on the line and is counted (R111). DESIGN CHOICE (log entry 46): the path rate in use as the
frame begins times it to its end. -/
def State.beginMark (s : State) (p : PathId) (ordinal : Byte) (resume : PathSeq) : State :=
  (s.updPath p fun x =>
    { x with line := .mark ordinal resume (s.now % 2 ^ 32) (s.elapsed + markTime s.params.rate) }).countPath p .marksSent 1

/-- The bytes of the frame on a path's line; none while it carries FILL (R185). -/
def State.lineFrameBytes (s : State) (p : PathId) : Option (List Byte) :=
  match (s.path p).line with
  | .fill => none
  | .mark ordinal resume time _ => some (markFrameBytes p ordinal resume time)
  | .data w _ => (s.entry? w.entry).map fun e => dataFrameBytes p e w (payloadFrom s.cellMem e.cells e.payload)

/-! ## Backlog and first sendings (R110, R113) -/

/-- The oldest backlog entry moves to the tail of the window: it takes the next sequence and repeat count 0, and its
BACKLOG holder becomes WINDOW (R113, R98). -/
def State.moveBacklog (s : State) (p : PathId) : State :=
  match (s.path p).backlog with
  | [] => s
  | b :: rest =>
    let s := s.updPath p fun x =>
      { x with
        backlog := rest
        window := x.window ++ [⟨b.entry, x.nextSeq, b.tag, 0⟩]
        nextSeq := x.nextSeq + 1 }
    s.updEntry b.entry fun e => { e with holders := (e.holders.put (.backlog p) false).put (.window p) true }

/-- The drain of the backlog into the window while it has room (R113). -/
def State.drainMoves (s : State) (p : PathId) : Nat → State
  | 0 => s
  | fuel + 1 =>
    if (s.path p).window.length < Config.windowLimit ∧ (s.path p).backlog ≠ [] then (s.moveBacklog p).drainMoves p fuel
    else s

/-- In SENDING the backlog drains (R113). -/
def State.drain (s : State) (p : PathId) : State :=
  if (s.path p).state = .sending then s.drainMoves p (s.path p).backlog.length else s

/-- In SENDING a free line takes the first sending of the window entry with sequence sent-through + 1 (R110). -/
def State.serveSending (s : State) (p : PathId) : State :=
  match (s.path p).window.find? fun w => decide (w.seq = (s.path p).sentThrough + 1) with
  | none => s
  | some w =>
    ((s.updPath p fun x => { x with sentThrough := x.sentThrough + 1 }).countPath p .dataSent 1).beginData p w

/-- The return to SENDING: the backlog drains, and the line takes the next first sending (R138, R140). -/
def State.returnToSending (s : State) (p : PathId) : State :=
  ((s.updPath p fun x => { x with state := .sending }).drain p).serveSending p

/-! ## The repeat procedure (R136 to R140) -/

/-- The sequence a replay seeks (R139). -/
def Path.sought (x : Path) : PathSeq := seqLater x.replayCursor (x.ackThrough + 1)

/-- A window place with its repeat count raised, saturating at 15 (R139). -/
def WindowPlace.raised (w : WindowPlace) : WindowPlace := { w with repeats := min (w.repeats + 1) 15 }

/-- In REPLAYING a free line takes the resend the replay seeks, or the replay is over (R139, R140). -/
def State.serveReplaying (s : State) (p : PathId) : State :=
  let seek := (s.path p).sought
  if seqAtOrBefore seek (s.path p).replayEnd then
    match (s.path p).window.find? fun w => decide (w.seq = seek) with
    | none => s
    | some w =>
      let s := s.updPath p fun x =>
        { x with
          window := x.window.map fun y => if y.seq = seek then y.raised else y
          replayCursor := seek + 1 }
      (s.countPath p .resent 1).beginData p w.raised
  else s.returnToSending p

/-- The end of a burst: REPLAYING if the window holds an entry at or before sent-through, else SENDING (R138). -/
def State.endBurst (s : State) (p : PathId) : State :=
  if seqAfter (s.path p).sentThrough (s.path p).ackThrough then
    (s.updPath p fun x =>
      { x with state := .replaying, replayEnd := x.sentThrough, replayCursor := x.ackThrough + 1 }).serveReplaying p
  else s.returnToSending p

/-- In MARKING a free line takes the next MARK of the burst, or the burst ends (R137, R138). -/
def State.serveMarking (s : State) (p : PathId) : State :=
  let x := s.path p
  if x.burstOrdinal < x.burstLength then
    (s.updPath p fun x => { x with burstOrdinal := x.burstOrdinal + 1 }).beginMark p (BitVec.ofNat 8 x.burstOrdinal)
      (x.ackThrough + 1)
  else s.endBurst p

/-- Entry into MARKING (R137): the repeat timer starts, the burst begins with ordinal 0 and the present N_mark. -/
def State.enterMarking (s : State) (p : PathId) : State :=
  (s.updPath p fun x =>
    { x with
      state := .marking
      repeatTimer := some (s.elapsed + s.params.repeatTime * 1000)
      burstOrdinal := 0
      burstLength := s.params.nMark }).serveMarking p

/-- In PROBING a free line takes the next MARK, back to back (R111, R120). -/
def State.serveProbing (s : State) (p : PathId) : State :=
  let x := s.path p
  (s.updPath p fun x => { x with markOrdinal := x.markOrdinal + 1 }).beginMark p x.markOrdinal x.nextSeq

/-- What the line takes next when it is free, by state (R109, R136 to R140). -/
def State.serveLine (s : State) (p : PathId) : State :=
  if (s.path p).idleLine then
    match (s.path p).state with
    | .disabled => s
    | .failed => s
    | .probing => s.serveProbing p
    | .sending => s.serveSending p
    | .finishing => s.enterMarking p
    | .marking => s.serveMarking p
    | .replaying => s.serveReplaying p
  else s

/-! ## Release, probing, failing, disabling (R120, R121, R124, R125) -/

/-- The path releases its window and backlog; acknowledged-through and sent-through become next sequence − 1
(R121 steps 2 and 3). -/
def State.releasePath (s : State) (p : PathId) : State :=
  let x := s.path p
  let s := s.dropAll (.window p) .freedReleased (x.window.map fun w => w.entry)
  let s := s.dropAll (.backlog p) .freedReleased (x.backlog.map fun b => b.entry)
  let s := s.countPath p .pathReleased (x.window.length + x.backlog.length)
  s.updPath p fun x =>
    { x with window := [], backlog := [], ackThrough := x.nextSeq - 1, sentThrough := x.nextSeq - 1 }

/-- A path starts PROBING (R120): timers stopped, good run, MARK ordinal and report reference start over, the line
begins MARK frames; the frame on the line is cut off unless the path was already PROBING. -/
def State.startProbing (s : State) (p : PathId) : State :=
  (s.updPath p fun x =>
    { x with
      state := .probing
      silence := none
      holdoff := none
      holdoffOwed := false
      goodRun := 0
      markOrdinal := 0
      reportRef := none
      ackThrough := x.nextSeq - 1
      sentThrough := x.nextSeq - 1
      line := if x.state = .probing then x.line else .fill }).serveLine p

/-- Entry into PROBING latches PATH_CHANGE (R130). -/
def State.enterProbing (s : State) (p : PathId) : State := (s.startProbing p).latchPath p

/-- Entry into FAILED (R121). -/
def State.failPath (s : State) (p : PathId) (reason : FailReason) : State :=
  let s := (s.countPath p .failures 1).releasePath p
  let s := s.updPath p fun x =>
    { x with
      state := .failed
      failure := some reason
      silence := none
      repeatTimer := none
      line := .fill
      holdoff :=
        if 0 < (s.params.path p).holdoff ∧ x.moduleAbsent = false then
          some (s.elapsed + (s.params.path p).holdoff * 1000000)
        else none }
  s.latchPath p

/-- A path enters DISABLED (R124). -/
def State.disablePath (s : State) (p : PathId) : State :=
  let s := s.releasePath p
  (s.updPath p fun x =>
    { x with
      state := .disabled
      silence := none
      holdoff := none
      holdoffOwed := false
      repeatTimer := none
      line := .fill }).latchPath p

/-- A path restarts (R125). -/
def State.restartPath (s : State) (p : PathId) : State :=
  ((s.releasePath p).updPath p fun x => { x with repeatTimer := none }).enterProbing p

/-- FINISHING, MARKING, REPLAYING or SENDING: the window is in use and the silence timer runs (R119). -/
def PathState.isSending : PathState → Bool
  | .sending => true
  | .finishing => true
  | .marking => true
  | .replaying => true
  | _ => false

/-! ## Taking a launched entry (R112) -/

/-- Path `p` is handed an entry with its tag: where it puts it, or none when it sheds it (R112). -/
def State.takeEntry (s : State) (p : PathId) (n tag : Nat) : State × Option Holder :=
  let x := s.path p
  match x.state with
  | .sending =>
    if x.backlog = [] ∧ x.window.length < Config.windowLimit then
      (s.updPath p fun x =>
        { x with window := x.window ++ [⟨n, x.nextSeq, tag, 0⟩], nextSeq := x.nextSeq + 1 }, some (.window p))
    else if x.backlog.length < Config.backlogLimit then
      (s.updPath p fun x => { x with backlog := x.backlog ++ [⟨n, tag⟩] }, some (.backlog p))
    else (s.countPath p .shedFull 1, none)
  | .finishing | .marking | .replaying =>
    if x.backlog.length < Config.backlogLimit then
      (s.updPath p fun x => { x with backlog := x.backlog ++ [⟨n, tag⟩] }, some (.backlog p))
    else (s.countPath p .shedFull 1, none)
  | .disabled | .probing | .failed => (s.countPath p .shedDown 1, none)

/-- Path `p` takes the entry if it is in the fan-out set (R54). -/
def State.handTo (s : State) (p : PathId) (fan : PathSet) (n tag : Nat) : State × Option Holder :=
  if fan.has p then s.takeEntry p n tag else (s, none)

/-- Add a holder, if there is one. -/
def Holders.add (h : Holders) : Option Holder → Holders
  | none => h
  | some x => h.put x true

/-- Cell Memory replaces SERVICE with the holders of the paths that took the entry, as one event; with none it is
freed, counted FREED_SHED (R54, R97, R106). -/
def State.replaceService (s : State) (n : Nat) (ha hb : Option Holder) : State :=
  match s.entry? n with
  | none => s
  | some e =>
    let h := ((e.holders.put .service false).add ha).add hb
    if h.isEmpty then s.freeOne e .freedShed else s.updEntry n fun e => { e with holders := h }

/-- A path sender of the fan-out set goes on after the hand-over: in SENDING its backlog drains, and a free line takes
the next frame (R109, R113). -/
def State.goOn (s : State) (p : PathId) (fan : PathSet) : State := if fan.has p then (s.drain p).serveLine p else s

/-- Each path sender of the fan-out set takes the entry or sheds it, A first; the holders change; the launcher becomes
free; the paths go on (R54, R97, R112). -/
def State.fanOut (s : State) (v : Service) : State :=
  let (s, ha) := s.handTo .a v.fanOut v.entry v.tag
  let (s, hb) := s.handTo .b v.fanOut v.entry v.tag
  let s := { s.replaceService v.entry ha hb with launcher := none }
  (s.goOn .a v.fanOut).goOn .b v.fanOut

/-! ## STATUS frames (R114 to R118, R120, R134, R135, R142) -/

/-- The frame on the line is the DATA frame of one of these sequences. -/
def Line.isOf (l : Line) (gone : List PathSeq) : Bool :=
  match l with
  | .data w _ => gone.contains w.seq
  | _ => false

/-- The acknowledgement of a good STATUS (R118): entries at or before `a` are retired, and a DATA frame of a retired
entry on the line is cut off (R141). -/
def State.acknowledge (s : State) (p : PathId) (a : PathSeq) : State :=
  let x := s.path p
  if seqAfter a x.ackThrough then
    let gone := x.window.take (a - x.ackThrough).toNat
    let s := s.dropAll (.window p) .freedRetired (gone.map fun w => w.entry)
    let s := s.countPath p .retired gone.length
    s.updPath p fun x =>
      { x with
        window := x.window.drop (a - x.ackThrough).toNat
        ackThrough := a
        line := if x.line.isOf (gone.map fun w => w.seq) then .fill else x.line }
  else if a = x.ackThrough then s
  else s.countPath p .ackStale 1

/-- The good run after a STATUS that was discarded (R114, R115, R120). -/
def State.breakRun (s : State) (p : PathId) : State :=
  if (s.path p).state = .probing then s.updPath p fun x => { x with goodRun := 0 } else s

/-- Reports lost before a good STATUS (R116). -/
def reportsLost (ref : Option Byte) (counter : Byte) : Nat :=
  match ref with
  | none => 0
  | some r => (counter - r - 1).toNat

/-- The silence timer starts again with the present silence time (R119). -/
def State.restartSilence (s : State) (p : PathId) : State :=
  s.updPath p fun x => { x with silence := some (s.elapsed + (s.params.path p).silenceTime * 1000) }

/-- A path enters SENDING from PROBING (R120): the silence timer starts, the repeat timer is stopped, the attempt
count is 0, PATH_CHANGE is latched (R130); the MARK on the line runs to its end. -/
def State.leaveProbing (s : State) (p : PathId) : State :=
  (((s.updPath p fun x => { x with state := .sending, repeatTimer := none, attempts := 0 }).restartSilence p).latchPath p).serveLine p

/-- A good STATUS taken in PROBING: the good run, and SENDING when it reaches N_good (R120). -/
def State.probeStatus (s : State) (p : PathId) (t : StatusRecord) (lost : Nat) : State :=
  if t.repeats then s.updPath p fun x => { x with goodRun := 0 }
  else
    let s := s.updPath p fun x => { x with goodRun := if 0 < lost then 1 else min (x.goodRun + 1) 15 }
    if (s.params.path p).nGood ≤ (s.path p).goodRun then s.leaveProbing p else s

/-- A good STATUS taken in SENDING: acknowledgement, then by its REPEAT flag (R134, R135). -/
def State.sendingStatus (s : State) (p : PathId) (t : StatusRecord) : State :=
  let s := (s.restartSilence p).acknowledge p t.ack
  if t.repeats then
    match (s.path p).repeatTimer with
    | none =>
      ((s.updPath p fun x => { x with attempts := min (x.attempts + 1) 15, state := .finishing }).countPath p .repeats
        1).serveLine p
    | some _ => ((s.countPath p .repeatIgnored 1).drain p).serveLine p
  else ((s.updPath p fun x => { x with repeatTimer := none, attempts := 0 }).drain p).serveLine p

/-- A good STATUS taken in FINISHING, MARKING or REPLAYING (R142). -/
def State.repeatingStatus (s : State) (p : PathId) (t : StatusRecord) : State :=
  let s := (s.restartSilence p).acknowledge p t.ack
  (if t.repeats then s.countPath p .repeatIgnored 1 else s).serveLine p

/-- A good STATUS (R116, R117): reports lost are counted, the reference and the latest status follow, and the rest is
by the path's state. -/
def State.goodStatus (s : State) (p : PathId) (t : StatusRecord) : State :=
  let lost := reportsLost (s.path p).reportRef t.counter
  let s := (s.countPath p .statusLost lost).countPath p .statusGood 1
  let s := s.updPath p fun x => { x with reportRef := some t.counter, latest := some t }
  match (s.path p).state with
  | .disabled => s
  | .failed => s
  | .probing => s.probeStatus p t lost
  | .sending => s.sendingStatus p t
  | .finishing => s.repeatingStatus p t
  | .marking => s.repeatingStatus p t
  | .replaying => s.repeatingStatus p t

/-- A STATUS taken whole on a path (R114, R115, R117). -/
def State.takeStatus (s : State) (p : PathId) (bytes : List Byte) : State :=
  if statusForm p bytes then
    let t := parseStatus bytes
    if seqAfter t.ack (s.path p).sentThrough then (s.countPath p .ackBeyond 1).breakRun p else s.goodStatus p t
  else (s.countPath p .badStatus 1).breakRun p

end Sys2Proof.Machine
end

