-- ==== Sys2Proof/Machine/Lanes.lean ====
section
/-!
DEFINITION. The feed lanes: record checks and sequencing, dispatch of each record kind, credit batches, notices,
lane reset; and the part of Intake that PACKET records and pattern packets share (chapters 4 and 5).
-/

namespace Sys2Proof.Machine

open Sys2Proof

/-! ## Record checks (R61, R62) -/

/-- A record whose form fails: BAD_RECORD, the last fault, LANE_FAULT (R61). -/
def State.badRecord (s : State) (l : Fin 4) : State :=
  ((s.updLane l fun x => { x with lastFault := some .badRecord }).countLane l .badRecord 1).latchLane l

/-- A record is taken: the expectation becomes its sequence + 1 (R62), and it is counted (R76). -/
def State.noteTaken (s : State) (l : Fin 4) (seq : LaneSeq) : State :=
  (s.updLane l fun x => { x with expectation := some (seq + 1) }).countLane l .records 1

/-- The state in which a record's dispatch is judged, or none when the record is not taken (R62). -/
def State.sequenced (s : State) (l : Fin 4) (seq : LaneSeq) : Option State :=
  match (s.lane l).expectation with
  | none => some (s.noteTaken l seq)
  | some e =>
    let d := (seq - e).toNat
    if d = 0 then some (s.noteTaken l seq)
    else if d ≤ 32767 then some ((s.noteTaken l seq).countLane l .seqGap 1)
    else none

/-! ## OPEN and CLOSE (R63, R64, R12 to R15) -/

/-- The result notice of an OPEN (R2, R63). -/
def openNotice (tag : Nat) : Except OpenRefusal OpenResult → Notice
  | .ok r => .opened tag r.slot r.start r.loadA r.loadB
  | .error e => .refused tag e

/-- A taken OPEN: dropped as NOTICE_FULL, or taken by the Stream Table with its notice queued (R63). -/
def State.dispatchOpen (s : State) (l : Fin 4) (o : OpenParams) : State :=
  if (s.lane l).hasRoom then
    let (s, result) := s.takeOpen (.lane l) o (recordStart o) none false
    s.queueNotice l (openNotice o.tag result)
  else s.countLane l .noticeFull 1

/-- The Stream Table takes a CLOSE on slot `i` whose owner and tag fit (R13 to R15). -/
def State.takeClose (s : State) (i : Fin 16) (now : Bool) : State :=
  match (s.slot i).state with
  | .free => s
  | .armed => s.closeStream i .requested false
  | .running =>
    if now then s.closeStream i .requested false
    else (s.updSlot i fun t => { t with state := .draining }).closeIfDrained i
  | .draining => if now then s.closeStream i .requested false else s

/-- A taken CLOSE: dropped as NOTICE_FULL, ignored and counted OWNER, or taken (R64, R12). -/
def State.dispatchClose (s : State) (l : Fin 4) (c : CloseRecord) : State :=
  if (s.lane l).hasRoom then
    if h : c.slot < 16 then
      let i : Fin 16 := ⟨c.slot, h⟩
      let t := s.slot i
      if t.state.isOpen ∧ t.owner = .lane l ∧ t.tag = c.tag then s.takeClose i c.now else s.countLane l .owner 1
    else s
  else s.countLane l .noticeFull 1

/-! ## PACKET (R65, R66, R79 to R85) -/

/-- Drop a PACKET of `c` cells under a lane counter, charged and refunded (R65, R66). -/
def State.dropPacket (s : State) (l : Fin 4) (c : Nat) (counter : LaneCounter) : State :=
  (s.countLane l counter 1).refund l c

/-- QUEUE_FULL marks FULL on the tail of the stream's queue, counted if it was not set (R84). -/
def State.markTailFull (s : State) (i : Fin 16) : State :=
  match (s.slot i).queue.getLast? with
  | none => s
  | some n =>
    match s.entry? n with
    | none => s
    | some e =>
      if e.flags.full then s
      else (s.updEntry n fun e => { e with flags := { e.flags with full := true } }).countSlot i .full 1

/-- Count a flag if it is set. -/
def State.countIf (s : State) (i : Fin 16) (flag : Bool) (c : SlotCounter) : State :=
  if flag then s.countSlot i c 1 else s

/-- Count the flags an accepted entry takes (R88). -/
def State.countFlags (s : State) (i : Fin 16) (f : ConditionFlags) : State :=
  ((((s.countIf i f.gap .gap).countIf i f.restart .restart).countIf i f.count .count).countIf i f.cut .cut).countIf i
    f.full .full

/-- Intake accepts a packet of full frame number `f` for slot `i` (R80, R92): the entry `n` is filled and joins the
queue, the record and the tally follow, the flags are counted; accepted into an empty queue it may become the head
(R25), be due, and be chosen (R51). -/
def State.accept (s : State) (n : Nat) (i : Fin 16) (own : Owner) (f index : Nat) (payload : List Byte)
    (first last cut : Bool) : State :=
  let t := s.slot i
  let flags := acceptFlags t f index first last cut
  let s := s.fill n i own f index payload flags
  let s := s.updSlot i fun t =>
    { t with
      intake := acceptRecord t.intake f index last
      arrived := if f = t.fc then t.arrived + 1 else t.arrived }
  let s := s.countFlags i flags
  if t.queue = [] then (s.formHead i).settleSlot i else s

/-- The outcome of steps 1 to 6 of R65 for a PACKET on a lane. -/
inductive PacketVerdict where
  | drop (counter : LaneCounter)
  | noCredit
  | queueFull
  | intake (why : IntakeDrop)
  | accept (entry frame : Nat)
deriving DecidableEq, Repr

/-- Steps 1 to 6 of R65, in order. -/
def State.judgeRecord (s : State) (l : Fin 4) (i : Fin 16) (p : PacketRecord) : PacketVerdict :=
  let t := s.slot i
  if !(t.state.takesPackets && decide (t.owner = .lane l) && decide (t.tag = p.tag)) then .drop .notOpen
  else if t.s < p.payload.length then .drop .oversize
  else if (s.lane l).account.outstanding < cellsFor p.payload.length then .noCredit
  else
    match s.freeEntry with
    | none => .drop .noEntry
    | some n =>
      if Config.queueLimit ≤ t.queue.length then .queueFull
      else
        match judgePacket t p.frameField p.index with
        | .error e => .intake e
        | .ok f => .accept n f

/-- What a verdict does (R65 step 7, R66, R84). -/
def State.applyVerdict (s : State) (l : Fin 4) (i : Fin 16) (p : PacketRecord) : PacketVerdict → State
  | .drop counter => s.dropPacket l (cellsFor p.payload.length) counter
  | .noCredit => s.countLane l .noCredit 1
  | .queueFull => (s.dropPacket l (cellsFor p.payload.length) .queueFull).markTailFull i
  | .intake e => (s.countSlot i (intakeDropCounter e) 1).refund l (cellsFor p.payload.length)
  | .accept n f => (s.countLane l .accepted 1).accept n i (.lane l) f p.index p.payload p.first p.last p.cut

/-- The verdict is an acceptance. -/
def PacketVerdict.isAccept : PacketVerdict → Bool
  | .accept .. => true
  | _ => false

/-- A taken PACKET goes through the steps of R65. A packet that passes every test while fewer cells are free than it
needs has no effect in the spec: R90 shows that no run reaches this (log entry 29). -/
def State.dispatchPacket (s : State) (l : Fin 4) (p : PacketRecord) : Result :=
  if h : p.slot < 16 then
    let i : Fin 16 := ⟨p.slot, h⟩
    let v := s.judgeRecord l i p
    if v.isAccept && decide (s.freeCells < cellsFor p.payload.length) then .fault .cellPoolExhausted
    else .next (s.applyVerdict l i p v)
  else .next s

/-! ## Credit batches (R69) -/

/-- Merge a batch into a queued CREDIT. -/
def mergeCredit (p : Nat) : List Notice → List Notice
  | [] => []
  | .credit n :: ts => .credit (n + p) :: ts
  | t :: ts => t :: mergeCredit p ts

/-- The 20,000 ns since the oldest pending cell was freed have passed (R69), in house time (log entry 11). -/
def State.creditTimerDue (s : State) (l : Fin 4) : Bool :=
  match (s.lane l).account.oldest with
  | none => false
  | some t => !(s.lane l).account.expired && decide (t + Config.batchTime ≤ s.now)

/-- A batch can be taken: one of its conditions has been met, and the queue has room or holds a CREDIT (R69). -/
def State.batchDue (s : State) (l : Fin 4) : Bool :=
  let a := (s.lane l).account
  decide (0 < a.pending) && (decide (Config.batchCells ≤ a.pending) || a.expired)
    && ((s.lane l).hasRoom || (s.lane l).hasCredit)

/-- Take a batch (R69). -/
def State.takeBatch (s : State) (l : Fin 4) : State :=
  let p := (s.lane l).account.pending
  (s.updLane l fun x =>
    { x with
      account := ⟨x.account.outstanding + p, 0, none, false⟩
      queue := if x.hasCredit then mergeCredit p x.queue else x.queue ++ [.credit p] }).countLane l .creditsReturned p

/-! ## Sending notices (R72) -/

/-- A notice can begin sending: the return direction idle, the queue not empty, the ready indication asserted. -/
def State.sendDue (s : State) (l : Fin 4) : Bool :=
  (s.lane l).ready && (s.lane l).sending.isNone && !(s.lane l).queue.isEmpty

/-- The oldest notice leaves the queue and becomes the sending notice. -/
def State.beginSend (s : State) (l : Fin 4) : State :=
  match (s.lane l).queue with
  | [] => s
  | t :: rest =>
    s.updLane l fun x => { x with queue := rest, sending := some ⟨t, s.elapsed + noticeTime t⟩ }

/-- The sending notice's last byte has gone. -/
def State.sendOver (s : State) (l : Fin 4) : Bool :=
  match (s.lane l).sending with
  | none => false
  | some x => decide (x.until_ ≤ s.elapsed)

/-! ## Lane reset (R73) -/

/-- Close every open stream owned by lane `l` with reason LANE_RESET (R18). -/
def State.closeLaneStreams (s : State) (l : Fin 4) (fromRecord : Bool) : State :=
  allSlots.foldl
    (fun s i =>
      if (s.slot i).state.isOpen ∧ (s.slot i).owner = .lane l then s.closeStream i .laneReset fromRecord else s) s

/-- A lane reset (R73). -/
def State.resetLane (s : State) (l : Fin 4) (fromRecord : Bool) : State :=
  let s := s.closeLaneStreams l fromRecord
  let credits := s.params.laneQuota[l] - s.heldBy (.lane l)
  (s.updLane l fun x => { x with expectation := none, queue := [], account := ⟨credits, 0, none, false⟩ }).queueLaneReady l
    credits

/-- An account takes a quota as its outstanding credits, with no pending credit (R70, R75). -/
def Account.atQuota (q : Nat) : Account := ⟨q, 0, none, false⟩

end Sys2Proof.Machine
end

