-- ==== Sys2Proof/Machine/HouseTime.lean ====
section
/-!
DEFINITION. House Time: slews, trim, steps, what a reference pulse and a missed pulse do (chapter 9), and the end of
service, which a step can bring (R54, R56).
-/

namespace Sys2Proof.Machine

open Sys2Proof

/-! ## End of service (R54) -/

/-- The busy-until instant is reached (R54). -/
def State.serviceOver (s : State) : Bool :=
  match s.launcher with
  | none => false
  | some v => decide (v.busyUntil ≤ s.now)

/-- The end of service: the entry is handed to the paths of its fan-out set, the launcher becomes free, and a choice
is taken if any slot is due (R54). -/
def State.endService (s : State) : State :=
  match s.launcher with
  | none => s
  | some v => (s.fanOut v).choice

/-! ## Slew and trim (R148 to R150) -/

/-- An ordinary slew of an error; an error of 0 ends any slew and starts none (R150). -/
def ordinarySlew (elapsed : Nat) (e : Int) : Slew :=
  if e = 0 then .none else .ordinary (decide (e < 0)) elapsed e.natAbs 0

/-- A long slew of an error: one adjustment every 100,000 ns (R150). -/
def longSlew (elapsed : Nat) (e : Int) : Slew := .long (decide (e < 0)) (elapsed + Config.longSlewSpacing) e.natAbs

/-- A big error replaces what a long slew has left; it goes on at the same rate (R157). -/
def Slew.retarget (v : Slew) (e : Int) : Slew :=
  match v with
  | .long _ next _ => .long (decide (e < 0)) next e.natAbs
  | v => v

/-- A long slew is in progress. -/
def Slew.isLong : Slew → Bool
  | .long .. => true
  | _ => false

/-- Elapsed time of the slew's next adjustment (R150). -/
def Slew.nextAt : Slew → Option Nat
  | .none => Option.none
  | .ordinary _ start total made => some (start + (made + 1) * Config.second / total)
  | .long _ next _ => some next

/-- The sign of the slew is −1. -/
def Slew.isBack : Slew → Bool
  | .none => false
  | .ordinary back .. => back
  | .long back .. => back

/-- The slew after one adjustment; it ends when its last is made (R150). -/
def Slew.afterOne : Slew → Slew
  | .none => .none
  | .ordinary back start total made => if made + 1 < total then .ordinary back start total (made + 1) else .none
  | .long back next left => if 1 < left then .long back (next + Config.longSlewSpacing) (left - 1) else .none

/-- Signed number of adjustments still to make (R161). -/
def Slew.remaining : Slew → Int
  | .none => 0
  | .ordinary back _ total made => if back then -((total - made : Nat) : Int) else ((total - made : Nat) : Int)
  | .long back _ left => if back then -(left : Int) else (left : Int)

/-- The spacing of a trim's adjustments in elapsed time; none with the trim at 0 (R148). -/
def trimSpacing (t : Int) : Option Nat := if t = 0 then none else some (Config.second / t.natAbs)

/-- The trim after a small pulse in LOCKED: ε / 8 truncated toward zero, clamped (R149). -/
def trimAfter (t e : Int) : Int := max (-Config.trimMax) (min Config.trimMax (t + e.tdiv 8))

/-- Change the trim; a new trim takes effect at once (R149), an unchanged one keeps its schedule (log entry 25). -/
def House.setTrim (h : House) (elapsed : Nat) (t : Int) : House :=
  if t = h.trim then h else { h with trim := t, trimNext := (trimSpacing t).map fun x => elapsed + x }

/-- One adjustment of house time: +1 advances it by one nanosecond at once, −1 holds it for one nanosecond of elapsed
time (R148). -/
def adjustHouse (back : Bool) (s : State) : State :=
  if back then s.updHouse fun h => { h with withheld := h.withheld + 1 } else advanceHouse 1 s

/-- The trim adjustment is reached (R148). -/
def State.trimDue (s : State) : Bool :=
  match s.house.trimNext with
  | none => false
  | some x => decide (x ≤ s.elapsed)

/-- Take one trim adjustment: the next follows floor(10⁹ / |trim|) ns after it (R148). -/
def State.takeTrim (s : State) : State :=
  adjustHouse (decide (s.house.trim < 0))
    (s.updHouse fun h =>
      { h with
        trimNext := match h.trimNext, trimSpacing h.trim with
          | some x, some d => some (x + d)
          | _, _ => none })

/-- The slew adjustment is reached (R150). -/
def State.slewDue (s : State) : Bool :=
  match s.house.slew.nextAt with
  | none => false
  | some x => decide (x ≤ s.elapsed)

/-- Take one slew adjustment (R150). -/
def State.takeSlew (s : State) : State :=
  adjustHouse s.house.slew.isBack (s.updHouse fun h => { h with slew := h.slew.afterOne })

/-! ## Steps (R156, R38 to R40) -/

/-- The STEP event sets every stream's idle count to 0 (R39). -/
def State.stepEvent (s : State) : State := { s with slots := s.slots.map fun t => { t with idle := 0 } }

/-- After a forward step: every instant it passed is taken in order (R38), the STEP event is raised (R39), the due set
follows, and the launcher's end of service is taken if passed, else a choice (R56; log entry 23). -/
def State.afterForward (s : State) : State :=
  let s := ((s.passRun s.passFuel).stepEvent).refreshAll
  if s.serviceOver then s.endService else s.choice

/-- After a backward step: the STEP event is raised, and a stream whose eligibility instant is ahead again leaves the
due set (R39, R40). -/
def State.afterBackward (s : State) : State := s.stepEvent.refreshAll

/-- The house-time part of a step by ε at a pulse (R156): house time becomes the pulse second, the slew is dropped, the
step is recorded, counted and latched; a forward step raises one marker for the last second it reaches (R160). -/
def State.stepHouse (s : State) (e : Int) : State :=
  let target := s.house.pulseSecond * Config.second
  let s := s.updHouse fun h =>
    { h with
      time := target
      slew := .none
      bigErrors := 0
      lastStep := some e
      markers := if 0 < e ∧ h.time / Config.second < target / Config.second then h.markers ++ [target / Config.second]
        else h.markers }
  (s.countPart (if 0 < e then .stepsForward else .stepsBackward) 1).latch .step

/-- A withheld step: a long slew in its place, STEP latched, STEPS_WITHHELD counted, no STEP event (R157). -/
def State.withholdStep (s : State) (e : Int) : State :=
  let s := s.updHouse fun h =>
    { h with slew := longSlew s.elapsed e, bigErrors := 0, lastStep := some e }
  (s.countPart .stepsWithheld 1).latch .step

/-! ## The reference pulse (R152 to R157, R159) -/

/-- What a taken pulse does. -/
inductive PulseAction where
  | ordinary (trimToo : Bool)
  | countBig
  | retarget
  | step
  | withhold
deriving DecidableEq, Repr

/-- A big error that is believed: step, or a long slew in its place (R153, R155, R157, R159). -/
def bigAction (stepEnable : Bool) : PulseAction := if stepEnable then .step else .withhold

/-- The handling of a taken pulse by lock state, slew in progress, big-error count and error (9.4). -/
def pulseAction (h : House) (stepEnable : Bool) (e : Int) : PulseAction :=
  if e.natAbs ≤ Config.smallError then .ordinary (decide (h.lock = .locked))
  else
    match h.lock with
    | .freeRun => bigAction stepEnable
    | .holdover => bigAction stepEnable
    | .locked =>
      if h.slew.isLong then (if stepEnable then .step else .retarget)
      else if h.bigErrors + 1 < 3 then .countBig else bigAction stepEnable

/-- A pulse counts a big error toward a step (R155). -/
def countsBig (h : House) (e : Int) : Bool :=
  decide (Config.smallError < e.natAbs) && decide (h.lock = .locked) && !h.slew.isLong

/-- A pulse is early: one has been taken less than 500,000,000 ns of elapsed time before (R152). -/
def State.pulseEarly (s : State) : Bool :=
  match s.house.lastPulse with
  | none => false
  | some x => decide (s.elapsed - x.elapsed < Config.earlyGuard)

/-- The error of a pulse taken now (R152). -/
def State.pulseError (s : State) : Int := (s.house.pulseSecond * Config.second : Nat) - (s.house.time : Int)

/-- The pulse second after one more pulse or miss; it stops growing at its greatest value (R151). -/
def nextPulseSecond (v : Nat) : Nat := if v < Config.pulseSecondMax then v + 1 else v

/-- The bookkeeping of a taken pulse (R152): the last pulse, the miss count and the miss expiry. -/
def State.notePulse (s : State) : State :=
  let e := s.pulseError
  (s.updHouse fun h =>
    { h with
      lastPulse := some ⟨h.time, s.elapsed, e⟩
      misses := 0
      missExpiry := some (s.elapsed + Config.firstMiss) }).countPart .pulses 1

/-- What the action of a pulse with error ε does to House Time. -/
def State.applyPulse (s : State) (e : Int) : PulseAction → State
  | .ordinary trimToo =>
    s.updHouse fun h =>
      let h := { h with slew := ordinarySlew s.elapsed e, bigErrors := 0 }
      if trimToo then h.setTrim s.elapsed (trimAfter h.trim e) else h
  | .countBig => s.updHouse fun h => { h with bigErrors := h.bigErrors + 1 }
  | .retarget => s.updHouse fun h => { h with slew := h.slew.retarget e }
  | .step => s.stepHouse e
  | .withhold => s.withholdStep e

/-- A taken pulse locks House Time; a change of lock state latches REFERENCE_CHANGE (R153, R159). -/
def State.lockOnPulse (s : State) : State :=
  if s.house.lock = .locked then s else (s.updHouse fun h => { h with lock := .locked }).latch .referenceChange

/-- A pulse that is taken (R152). -/
def State.takePulse (s : State) : State :=
  let e := s.pulseError
  let action := pulseAction s.house s.params.stepEnable e
  let big := countsBig s.house e
  let s := s.notePulse.applyPulse e action
  let s := if big then s.countPart .bigErrors 1 else s
  let s := s.lockOnPulse.updHouse fun h => { h with pulseSecond := nextPulseSecond h.pulseSecond }
  if action = .step then (if 0 < e then s.afterForward else s.afterBackward) else s

/-- A pulse on the reference input (R152). -/
def State.pulse (s : State) : State :=
  if !s.house.labelWritten then s.countPart .pulsesUnlabelled 1
  else if s.pulseEarly then s.countPart .pulsesEarly 1
  else s.takePulse

/-! ## Missed pulses (R158) -/

/-- The miss expiry is reached. -/
def State.missDue (s : State) : Bool :=
  match s.house.missExpiry with
  | none => false
  | some x => decide (x ≤ s.elapsed)

/-- The expected pulse is counted missed (R158). -/
def State.takeMiss (s : State) : State :=
  let s := (s.updHouse fun h =>
    { h with
      misses := min (h.misses + 1) 255
      pulseSecond := nextPulseSecond h.pulseSecond
      missExpiry := h.missExpiry.map fun x => x + Config.nextMiss }).countPart .pulsesMissed 1
  if s.house.lock = .locked ∧ 3 ≤ s.house.misses then
    (s.updHouse fun h => { h with lock := .holdover, bigErrors := 0 }).latch .referenceChange
  else s

/-! ## Second markers (R160, R182) -/

/-- The oldest raised marker is taken: MARKER is latched and the banks are swapped (R160, R182). -/
def State.takeMarker (s : State) : State :=
  match s.house.markers with
  | [] => s
  | second :: rest =>
    let s := (s.updHouse fun h => { h with markers := rest }).latch .marker
    { s with frozen := s.active, active := Bank.zero, frozenLabel := some second }

end Sys2Proof.Machine
end

