-- ==== Sys2Proof/Machine/Pattern.lean ====
section
/-!
DEFINITION. The Pattern Source: opening, closing, pauses and the generation of a packet (chapter 10).
-/

namespace Sys2Proof.Machine

open Sys2Proof

/-- The slot ARMED or RUNNING with owner PATTERN, if there is one (R165, R166). -/
def State.patternSlot (s : State) : Option (Fin 16) :=
  allSlots.find? fun i => (s.slot i).state.takesPackets && decide ((s.slot i).owner = .pattern)

/-- Addresses of the pattern memory wrap at 65,536 (R168). -/
abbrev patternSize : Nat := 65536

/-- One byte of the pattern region (R168). -/
def regionByte (mem : List Host.Cell) (offset length j : Nat) : Byte :=
  readMem mem ((offset + j % length) % patternSize)

/-- The payload of packet `index` of frame `f`: the region's bytes, with the frame number and the index stamped into
the first six (R168). -/
def patternPayload (mem : List Host.Cell) (offset length size f index : Nat) : List Byte :=
  leBytes 4 f ++ leBytes 2 index
    ++ ((List.range size).drop 6).map fun k => regionByte mem offset length (index * size + k)

/-! ## Pauses (R167) -/

/-- The pauses that hold while a pattern stream is open: credit, queue, ahead, entry (R167, R171). -/
structure Pauses where
  credit : Bool
  queue : Bool
  ahead : Bool
  entry : Bool
deriving DecidableEq, Repr

/-- No pause. -/
def Pauses.none : Pauses := ⟨false, false, false, false⟩

/-- The conditions of R167 that fail. -/
def State.pauses (s : State) : Pauses :=
  match s.pattern.slot with
  | .none => Pauses.none
  | some i =>
    let t := s.slot i
    { credit := decide (s.pattern.outstanding < cellsFor t.s)
      queue := decide (Config.queueLimit ≤ t.queue.length)
      ahead := decide (t.fc + 1 < s.pattern.nextFrame)
      entry := s.pattern.waitEntry }

/-- A pattern stream is ARMED or RUNNING and all four conditions of R167 hold. -/
def State.canGenerate (s : State) : Bool :=
  match s.pattern.slot with
  | none => false
  | some i => (s.slot i).state.takesPackets && decide (s.pauses = Pauses.none)

/-- The next packet, moved to (fc, 0) if its frame has closed, with the frames skipped (R167). -/
def State.nextPacket (s : State) (i : Fin 16) : Nat × Nat × Nat :=
  let fc := (s.slot i).fc
  if s.pattern.nextFrame < fc then (fc, 0, fc - s.pattern.nextFrame) else (s.pattern.nextFrame, s.pattern.nextIndex, 0)

/-- The next packet advances by one (R167). -/
def PatternSource.advance (p : PatternSource) (k f index : Nat) : PatternSource :=
  if index + 1 < k then { p with nextFrame := f, nextIndex := index + 1 } else { p with nextFrame := f + 1, nextIndex := 0 }

/-- Generate the next packet of the pattern stream of slot `i` and offer it (R167 to R169). -/
def State.generateNext (s : State) (i : Fin 16) : State :=
  let t := s.slot i
  let (f, index, skipped) := s.nextPacket i
  let s := (s.updPattern fun p => { p with nextFrame := f, nextIndex := index }).countPart .framesSkipped skipped
  match s.freeEntry with
  | none => (s.updPattern fun p => { p with offered := true, waitEntry := true }).countPart .noEntry 1
  | some n =>
    let region := t.patternRegion.getD (0, 0)
    let payload := patternPayload s.patternMem region.1 region.2 t.s f index
    let advanced := s.updPattern fun p => { p.advance t.k f index with offered := false }
    match judgePacket t (f % 65536) index with
    | .error e => advanced.countSlot i (intakeDropCounter e) 1
    | .ok full =>
      (advanced.countPart .generated 1).accept n i .pattern full index payload (decide (index = 0))
        (decide (index + 1 = t.k)) false

/-- The next packet would be accepted with fewer cells free than it needs, which the spec shows no run to reach (R90;
log entry 29). A stamped payload is S bytes, and six at least. -/
def State.generationStuck (s : State) (i : Fin 16) : Bool :=
  let (f, index, _) := s.nextPacket i
  s.freeEntry.isSome && (judgePacket (s.slot i) (f % 65536) index).isOk
    && decide (s.freeCells < cellsFor (max 6 (s.slot i).s))

/-- One generation as an event (R167 to R169). -/
def State.generate (s : State) (i : Fin 16) : Result :=
  if s.generationStuck i then .fault .cellPoolExhausted else .next (s.generateNext i)

/-! ## The end of the last pause (R167) -/

/-- Packet after packet is generated until a condition fails (R167). -/
def State.generateRun (s : State) (i : Fin 16) : Nat → State
  | 0 => s
  | fuel + 1 => if s.canGenerate && !s.generationStuck i then (s.generateNext i).generateRun i fuel else s

/-- A bound on the packets of one run for slot `i`: the frames fc and fc + 1, and one that finds no entry. -/
def State.generateFuel (s : State) (i : Fin 16) : Nat := 2 * (s.slot i).k + 2

/-- A pattern stream is ARMED or RUNNING in slot `i`, and a pause of R167 holds. -/
def State.isPaused (s : State) (i : Fin 16) : Bool :=
  decide (s.pattern.slot = some i) && (s.slot i).state.takesPackets && decide (s.pauses ≠ Pauses.none)

/-- An event that has led from `s` to `t` is over: if it has ended the last pause of the pattern stream, generation
resumes in that event (R167; log entry 14). -/
def State.resumed (s t : State) : State :=
  match s.pattern.slot with
  | none => t
  | some i => if s.isPaused i && decide (t.pattern.slot = some i) then t.generateRun i (t.generateFuel i) else t

/-- Take an event of the part if its condition holds, and let a pattern stream whose last pause it ends go on. -/
def whenDueResuming (due : Bool) (f : State → State) (s : State) : Result := whenDue due (fun s => s.resumed (f s)) s

end Sys2Proof.Machine
end

