-- ==== Sys2Proof/Machine/Commands.lean ====
section
/-!
DEFINITION. The host's commands: what each does when its code byte is taken, the result row, and the ends of STORE,
RECALL and the power-on load (R175 to R179, R183).
-/

namespace Sys2Proof.Machine

open Sys2Proof

/-- What a command answers: DONE, with a result row for PATTERN OPEN, or REFUSED with a code (R175). -/
abbrev CommandAnswer := State × Except RefusalCode (Option OpenResult)

/-- DONE with no result row. -/
def answerDone (s : State) : CommandAnswer := (s, .ok none)

/-- REFUSED; nothing changes. -/
def answerRefused (s : State) (c : RefusalCode) : CommandAnswer := (s, .error c)

/-- The one-byte argument, page 1 offset 16 (11.2). -/
def State.argByte (s : State) : Nat := (s.port.args[0]).toNat

/-- The slot the argument names; a number above 15 gives BAD_PARAM (R16, R46, R47, R50). -/
def State.withArgSlot (s : State) (f : Fin 16 → CommandAnswer) : CommandAnswer :=
  if h : s.argByte < 16 then f ⟨s.argByte, h⟩ else answerRefused s .badParam

/-- The path the argument names, 0 for A and 1 for B; another value gives BAD_PARAM (7.9). -/
def State.withArgPath (s : State) (f : PathId → CommandAnswer) : CommandAnswer :=
  if s.argByte = 0 then f .a else if s.argByte = 1 then f .b else answerRefused s .badParam

/-! ## CLEAR (R183) -/

/-- CLEAR at a path sender (R129). -/
def State.clearPath (s : State) (p : PathId) : State :=
  let s := s.updPath p fun x =>
    { x with
      window := []
      backlog := []
      ackThrough := x.nextSeq - 1
      sentThrough := x.nextSeq - 1
      repeatTimer := none
      attempts := 0
      holdoff := none }
  if (s.path p).state = .disabled then s else s.enterProbing p

/-- Every lane's queue is emptied and its expectation unset, at the power-on load and at CLEAR, before the closures (R75). -/
def State.clearQueues (s : State) : State :=
  { s with lanes := s.lanes.map fun x => { x with queue := [], expectation := none } }

/-- CLEAR closes every open slot with reason CLEARED, in increasing slot number (R19). -/
def State.clearStreams (s : State) : State :=
  allSlots.foldl (fun s i => if (s.slot i).state.isOpen then s.closeStream i .cleared false else s) s

/-- CLEAR at Cell Memory, the launcher and the accounts (R56, R75, R102): every entry free, the launcher free without
hand-over, the hold set empty, every account at its quota, LANE READY behind the CLOSED notices. -/
def State.clearCells (s : State) : State :=
  let s := { s with
    entries := []
    launcher := none
    due := Vector.replicate 16 false
    held := Vector.replicate 16 false
    sumA := 0
    sumB := 0 }
  let s := s.updPattern fun p => { p with outstanding := s.params.patternQuota, waitEntry := false }
  allLanes.foldl
    (fun s l =>
      (s.updLane l fun x => { x with account := Account.atQuota s.params.laneQuota[l] }).queueLaneReady l
        s.params.laneQuota[l]) s

/-- CLEAR zeroes both banks, and the label becomes none (R182). -/
def State.clearBanks (s : State) : State := { s with active := Bank.zero, frozen := Bank.zero, frozenLabel := none }

/-- CLEAR (R183), as one event. -/
def State.clearAll (s : State) : State :=
  ((((s.clearQueues.clearStreams).clearCells).clearPath .a).clearPath .b).clearBanks

/-- The command CLEAR. -/
def cmdClear (s : State) : CommandAnswer := answerDone s.clearAll

/-! ## Paths (R123 to R125) -/

/-- Set a path's enable flag. -/
def State.setEnable (s : State) (p : PathId) (v : Bool) : State :=
  s.updParams fun q => q.updPath p fun x => { x with enabled := v }

/-- A path follows a set enable flag: from DISABLED it enters PROBING (R123). -/
def State.followEnable (s : State) (p : PathId) : State :=
  if (s.path p).state = .disabled then s.enterProbing p else s

/-- A path follows a clear enable flag: it enters DISABLED (R124). -/
def State.followDisable (s : State) (p : PathId) : State :=
  if (s.path p).state = .disabled then s else s.disablePath p

/-- PATH ENABLE (R123). -/
def cmdPathEnable (s : State) : CommandAnswer := s.withArgPath fun p => answerDone ((s.setEnable p true).followEnable p)

/-- PATH DISABLE (R124). -/
def cmdPathDisable (s : State) : CommandAnswer :=
  s.withArgPath fun p => answerDone ((s.setEnable p false).followDisable p)

/-- PATH RESTART (R125). -/
def cmdPathRestart (s : State) : CommandAnswer :=
  s.withArgPath fun p =>
    if (s.path p).state = .disabled then answerRefused s .pathDisabled else answerDone (s.restartPath p)

/-! ## Streams and the arbiter (R16, R46, R47, R50) -/

/-- STREAM HOLD (R46). -/
def cmdStreamHold (s : State) : CommandAnswer :=
  s.withArgSlot fun i =>
    if (s.slot i).state.isOpen then
      answerDone { s with held := s.held.set i true, due := s.due.set i false }
    else answerRefused s .notOpen

/-- STREAM UNHOLD (R47): the slot leaves the hold set, is due at once if its head is eligible, and a choice follows if
the launcher is free (R59). -/
def cmdStreamUnhold (s : State) : CommandAnswer :=
  s.withArgSlot fun i =>
    if s.held[i] then answerDone (({ s with held := s.held.set i false } : State).settleSlot i) else answerDone s

/-- STREAM CLOSE (R16). -/
def cmdStreamClose (s : State) : CommandAnswer :=
  s.withArgSlot fun i =>
    if (s.slot i).state.isOpen then answerDone (s.closeStream i .host false) else answerRefused s .notOpen

/-- SET LOWEST (R50). -/
def cmdSetLowest (s : State) : CommandAnswer :=
  s.withArgSlot fun i => answerDone { s with ring := lowestOnRing s.ring i }

/-- ROTATION MODE (R50): 0 for AUTO, 1 for FIXED. -/
def cmdRotationMode (s : State) : CommandAnswer :=
  if s.argByte = 0 then answerDone { s with ringMode := .auto }
  else if s.argByte = 1 then answerDone { s with ringMode := .fixed }
  else answerRefused s .badParam

/-- LANE RESET (R74). -/
def cmdLaneReset (s : State) : CommandAnswer :=
  if h : s.argByte < 4 then answerDone (s.resetLane ⟨s.argByte, h⟩ false) else answerRefused s .badParam

/-! ## Pattern stream (R165, R166) -/

/-- The pattern offset and length among the arguments, offsets 50 and 52 of the command page (12.2). -/
def patternArgs (args : List Byte) : Nat × Nat := (field args 34 2, field args 36 3)

/-- The refusal code of a refused OPEN. -/
def openRefusal : OpenRefusal → RefusalCode
  | .badParam => .badParam
  | .noSlot => .noSlot
  | .capacity => .capacity

/-- PATTERN OPEN (R165): PATTERN_BUSY, NO_SLOT, BAD_PARAM, CAPACITY in that order; accepted, the Pattern Source takes
the slot and sets its next packet to (fs, 0). -/
def cmdPatternOpen (s : State) : CommandAnswer :=
  match s.patternSlot with
  | some _ => answerRefused s .patternBusy
  | none =>
    let args := s.port.args.toList
    let o := parseOpen args
    let region := patternArgs args
    match s.takeOpen .pattern o (patternStart o) (some region)
        (decide (region.2 < o.s) || decide (patternSize < region.2)) with
    | (s, .error e) => answerRefused s (openRefusal e)
    | (s, .ok r) =>
      (s.updPattern fun p =>
        { p with slot := some r.slot, nextFrame := r.start, nextIndex := 0, waitEntry := false, offered := false },
        .ok (some r))

/-- PATTERN CLOSE (R166). -/
def cmdPatternClose (s : State) : CommandAnswer :=
  match s.patternSlot with
  | none => answerRefused s .notOpen
  | some i => answerDone (s.closeStream i .host false)

/-! ## The result row (R175) -/

/-- Write the result of a command that has ended. -/
def State.finishCommand (code : Byte) : CommandAnswer → State
  | (s, .ok opened) => s.updPort fun p => { p with result := ⟨.done, none, code, opened⟩ }
  | (s, .error e) => s.updPort fun p => { p with result := ⟨.refused, some e, code, none⟩ }

/-- STORE or RECALL begins: the result reads BUSY (R176, R177). -/
def State.beginLong (s : State) (code : Byte) (c : LongCommand) : State :=
  s.updPort fun p => { p with busy := some c, result := ⟨.busy, none, code, none⟩ }

/-- The code byte is taken (R175). Code 0 is not a command; a code that meets a STORE or RECALL begun in the same
transaction is not taken (log entry 18). -/
def State.takeCommand (s : State) (code : Byte) : State :=
  if s.port.busy.isSome then s
  else if code = 0x00 then s
  else if code = 0x01 then State.finishCommand code (cmdClear s)
  else if code = 0x02 then s.beginLong code (.store s.params s.elapsed)
  else if code = 0x03 then s.beginLong code (.recall s.elapsed)
  else if code = 0x10 then State.finishCommand code (cmdPathEnable s)
  else if code = 0x11 then State.finishCommand code (cmdPathDisable s)
  else if code = 0x12 then State.finishCommand code (cmdPathRestart s)
  else if code = 0x20 then State.finishCommand code (cmdStreamHold s)
  else if code = 0x21 then State.finishCommand code (cmdStreamUnhold s)
  else if code = 0x22 then State.finishCommand code (cmdStreamClose s)
  else if code = 0x23 then State.finishCommand code (cmdSetLowest s)
  else if code = 0x24 then State.finishCommand code (cmdRotationMode s)
  else if code = 0x30 then State.finishCommand code (cmdLaneReset s)
  else if code = 0x40 then State.finishCommand code (cmdPatternOpen s)
  else if code = 0x41 then State.finishCommand code (cmdPatternClose s)
  else State.finishCommand code (answerRefused s .badCommand)

/-- A STORE or RECALL ends with a result, which page 0 keeps (R176, R177, R184). -/
def State.endLong (s : State) (code : Byte) (refusal : Option RefusalCode) : State :=
  let r : CommandResult := ⟨if refusal.isSome then .refused else .done, refusal, code, none⟩
  s.updPort fun p => { p with busy := none, result := r, lastLong := some r }

/-- The end of a STORE (R176): the image and what the read-back check finds. -/
def State.finishStore (s : State) (image : Params) (readsBack : Bool) : State :=
  let s := { s with store := .holding image readsBack }
  (s.endLong 0x02 (if readsBack then none else some .storeFailed)).latch .storeDone

/-! ## Quotas (R70) -/

/-- The quota of an account. -/
def Params.quota (q : Params) : Owner → Nat
  | .lane l => q.laneQuota[l]
  | .pattern => q.patternQuota

/-- Set the quota of an account. -/
def Params.setQuota (q : Params) (o : Owner) (v : Nat) : Params :=
  match o with
  | .lane l => { q with laneQuota := q.laneQuota.set l v }
  | .pattern => { q with patternQuota := v }

/-- The sum of the five quotas. -/
def Params.quotaTotal (q : Params) : Nat := q.laneQuota.toList.sum + q.patternQuota

/-- The lane's queue can take a LANE READY: it has room or holds a CREDIT (R70). -/
def State.readyRoom (s : State) (l : Fin 4) : Bool := (s.lane l).hasRoom || (s.lane l).hasCredit

/-- An account takes a quota: outstanding credits equal it, nothing is pending, and a lane announces it (R70). -/
def State.takeQuota (s : State) (o : Owner) (v : Nat) : State :=
  let s := s.updParams fun q => q.setQuota o v
  match o with
  | .lane l => (s.updLane l fun x => { x with account := Account.atQuota v }).queueLaneReady l v
  | .pattern => s.updPattern fun p => { p with outstanding := v }

/-- A quota of the image differs from the one in use, and its lane has no room for the announcement. -/
def State.quotaBlocked (s : State) (image : Params) : Bool :=
  allLanes.any fun l => decide (image.laneQuota[l] ≠ s.params.laneQuota[l]) && !s.readyRoom l

/-- Take the image's quota of an account if it differs. -/
def State.reloadQuota (s : State) (image : Params) (o : Owner) : State :=
  if image.quota o = s.params.quota o then s else s.takeQuota o (image.quota o)

/-- RECALL reloads the quotas when no entry is live and every lane whose quota changes has room; else it keeps every
quota (R70). -/
def State.reloadQuotas (s : State) (image : Params) : State :=
  if s.entries ≠ [] ∨ s.quotaBlocked image then s
  else
    let s := allLanes.foldl (fun s l => s.reloadQuota image (.lane l)) s
    s.reloadQuota image .pattern

/-! ## RECALL (R177) -/

/-- A path follows a reloaded enable flag (R128). -/
def State.followFlag (s : State) (p : PathId) : State :=
  if (s.params.path p).enabled then s.followEnable p else s.followDisable p

/-- The reload of a valid image (R177): path rate and reserve only while every slot is FREE (R10), the quotas under
R70, the enable flags followed (R128). -/
def State.reload (s : State) (image : Params) : State :=
  let keep := !s.allFree
  let s := s.updParams fun q =>
    { image with
      rate := if keep then q.rate else image.rate
      reserve := if keep then q.reserve else image.reserve
      laneQuota := q.laneQuota
      patternQuota := q.patternQuota }
  ((s.reloadQuotas image).followFlag .a).followFlag .b

/-- The end of a RECALL (R177). -/
def State.finishRecall (s : State) : State :=
  let s := s.updPort fun p => { p with storeState := s.store.valid }
  if s.store.valid then (s.reload s.store.image).endLong 0x03 none
  else (s.endLong 0x03 (some .storeInvalid)).latch .storeInvalid

/-! ## Power (R176, R179) -/

/-- The store as a loss of power leaves it: a STORE in progress leaves its image with a failing check word (R176). -/
def State.storeAfterLoss (s : State) : Store :=
  match s.port.busy with
  | some (.store image _) => .holding image false
  | _ => s.store

/-- The power-on state of every block and of the port (R179 steps 1 and 2), the load in progress; the store, the
pattern memory, the cells' bytes and the address pins are not set by power-on. -/
def State.powerUp (s : State) : State :=
  { State.reset with
    store := s.storeAfterLoss
    patternMem := s.patternMem
    cellMem := s.cellMem
    port := { Port.blank with addressPins := s.port.addressPins }
    freeCount := s.freeCount
    pending := s.pending }

/-- A path starts by its enable flag (R107); this start latches nothing (log entry 21). -/
def State.startPath (s : State) (p : PathId) : State :=
  if (s.params.path p).enabled then s.startProbing p else s

/-- The end of the power-on load (R179 steps 3 to 5). -/
def State.finishLoad (s : State) : State :=
  let s := { s with params := if s.store.valid then s.store.image else Params.default }
  let s := s.updPort fun p => { p with storeState := s.store.valid }
  let s := if s.store.valid then s else s.latch .storeInvalid
  let s := allLanes.foldl (fun s l => s.takeQuota (.lane l) s.params.laneQuota[l]) s.clearQueues
  let s := s.takeQuota .pattern s.params.patternQuota
  let s := (s.startPath .a).startPath .b
  { s with power := .on }

end Sys2Proof.Machine
end

