-- ==== Sys2Proof/Machine/Pages.lean ====
section
/-!
DEFINITION. The page space as the host reads it: what stands at each offset of each page (11.2, 12.5, R41, R57, R76,
R89, R104, R105, R130, R147, R161, R164, R171, R175, R180 to R182, R184).
-/

namespace Sys2Proof.Machine

open Sys2Proof

/-- An item of a page: its offset and its bytes. -/
abbrev Item := Nat × List Byte

/-- A number as an item of `n` bytes. -/
def numItem (off n v : Nat) : Item := (off, leBytes n v)

/-- A flag as an item. -/
def flagItem (off : Nat) (v : Bool) : Item := (off, [flagByte v])

/-- A signed number as an item of `n` bytes. -/
def intItem (off n : Nat) (v : Int) : Item := (off, leInt n v)

/-- Items one after another from an offset on, each with its size and value. -/
def packed : Nat → List (Nat × Nat) → List Item
  | _, [] => []
  | off, (n, v) :: rest => numItem off n v :: packed (off + n) rest

/-- The byte at an offset of a page; an offset with no item reads zero (R172). -/
def itemsByte : List Item → Nat → Byte
  | [], _ => 0
  | (a, bytes) :: rest, off => if a ≤ off ∧ off < a + bytes.length then byteAt bytes (off - a) else itemsByte rest off

/-! ## Codes of the enumerated items (11.2) -/

def slotStateCode : SlotState → Nat
  | .free => 0
  | .armed => 1
  | .running => 2
  | .draining => 3

def ownerCode : Owner → Nat
  | .lane n => n.val
  | .pattern => 4

def pathStateCode : PathState → Nat
  | .disabled => 0
  | .probing => 1
  | .sending => 2
  | .finishing => 3
  | .marking => 4
  | .replaying => 5
  | .failed => 6

def failCode : Option FailReason → Nat
  | none => 0
  | some .silent => 1
  | some .attempts => 2
  | some .moduleRestart => 3
  | some .moduleAbsent => 4

def lockCode : LockState → Nat
  | .freeRun => 0
  | .locked => 1
  | .holdover => 2

def ringModeCode : RingMode → Nat
  | .auto => 0
  | .fixed => 1

def slewCode : Slew → Nat
  | .none => 0
  | .ordinary .. => 1
  | .long .. => 2

def laneFaultCode : Option LaneFault → Nat
  | none => 0
  | some .badRecord => 1
  | some .noticeLost => 2

def statusCode : ResultStatus → Nat
  | .none => 0
  | .busy => 1
  | .done => 2
  | .refused => 3

/-- A truth value as a number. -/
def bit (b : Bool) : Nat := if b then 1 else 0

/-- Sixteen flags, slot 0 least significant. -/
def flags16 (v : Vector Bool 16) : Nat := ((allSlots.filter fun i => v[i]).map fun i => 2 ^ i.val).sum

/-! ## Pages 0 to 6 -/

/-- Live entries with a holder. -/
def State.holding (s : State) (x : Holder) : Nat := (s.entries.filter fun e => e.holders.has x).length

/-- Page 0: identity, last write result, pool figures (R104), global status (R184). DESIGN CHOICE (log entry 42): status and
refusal code of the last STORE or RECALL read zero while none has ended. -/
def State.pageZero (s : State) : List Item :=
  [ numItem 0 1 0x4E, numItem 1 2 0x4160, numItem 3 1 1, flagItem 4 s.port.storeState,
    numItem 5 1 (statusCode s.port.writeStatus), numItem 6 1 (refusalCode s.port.writeRefusal),
    flagItem 7 s.port.extension,
    numItem 16 2 (Config.entryCount - s.entries.length), numItem 18 2 s.freeCells,
    numItem 20 2 (s.holding .queued), numItem 22 1 (s.holding .service),
    numItem 24 2 (s.holding (.window .a)), numItem 26 2 (s.holding (.backlog .a)),
    numItem 28 2 (s.holding (.window .b)), numItem 30 2 (s.holding (.backlog .b)),
    numItem 32 2 (s.heldBy (.lane 0)), numItem 34 2 (s.heldBy (.lane 1)), numItem 36 2 (s.heldBy (.lane 2)),
    numItem 38 2 (s.heldBy (.lane 3)), numItem 40 2 (s.heldBy .pattern),
    numItem 48 1 s.openCount, numItem 50 2 s.entries.length ]
  ++ match s.port.lastLong with
    | none => []
    | some r => [(52, [r.code]), numItem 53 1 (statusCode r.status), numItem 54 1 (refusalCode r.refusal)]

/-- Page 1: command row, arguments and result. The code byte reads back as the code the result belongs to.
DESIGN CHOICE (log entry 38): R175 shows that code at offset 3 and does not say what offset 0 reads. DESIGN CHOICE (log
entry 42): after a refused PATTERN OPEN row 4 reads zero, and the result's code while the status is NONE. -/
def State.pageOne (s : State) : List Item :=
  let r := s.port.result
  [ (0, [r.code]), numItem 1 1 (statusCode r.status), numItem 2 1 (refusalCode r.refusal), (3, [r.code]),
    (16, s.port.args.toList) ]
  ++ match r.opened with
    | none => []
    | some o => [numItem 64 1 o.slot.val, numItem 66 6 o.start, numItem 72 2 o.loadA, numItem 74 2 o.loadB]

/-- Page 2: global parameters. -/
def State.pageTwo (s : State) : List Item :=
  [ numItem 0 1 s.params.rate, numItem 2 2 s.params.reserve, numItem 4 2 s.params.repeatTime,
    numItem 6 1 s.params.nMark, numItem 7 1 s.params.attemptLimit ]

/-- Page 3: catch-up table and idle limit (R29, R35). -/
def State.pageThree (s : State) : List Item :=
  [(0, s.params.catchUp.toList.map fun v => BitVec.ofNat 8 v), numItem 32 1 s.params.idleLimit]

/-- Page 4: the arbiter page (R57). -/
def State.pageFour (s : State) : List Item :=
  [ numItem 0 2 (flags16 s.due), numItem 2 2 (flags16 s.held),
    numItem 4 2 (flags16 (Vector.ofFn fun i => s.due[i] && s.isUrgent i)),
    numItem 6 1 (ringModeCode s.ringMode), numItem 7 1 s.params.urgent,
    (48, s.ring.map fun i => BitVec.ofNat 8 i.val) ]
  ++ match s.launcher with
    | none => []
    | some v =>
      [ numItem 16 1 1, numItem 17 1 v.slot.val, numItem 18 1 (pathSetCode v.fanOut), numItem 20 6 v.frame,
        numItem 26 2 v.index, numItem 32 8 v.grantedAt, numItem 40 8 v.busyUntil ]

/-- Page 5: the house time page (R161). DESIGN CHOICE (log entry 42): the last pulse's house time and error and the last
step read zero while there is none. -/
def State.pageFive (s : State) : List Item :=
  let h := s.house
  [ numItem 0 8 h.time, numItem 8 1 (lockCode h.lock), flagItem 9 s.params.stepEnable, numItem 10 1 (slewCode h.slew),
    flagItem 11 h.labelWritten, intItem 12 4 h.trim, numItem 16 8 h.pulseSecond, intItem 24 8 h.slew.remaining,
    numItem 32 8 ((h.lastPulse.map fun x => x.time).getD 0), intItem 40 8 ((h.lastPulse.map fun x => x.error).getD 0),
    numItem 48 1 h.bigErrors, numItem 49 1 h.misses, flagItem 50 h.lastPulse.isSome, flagItem 51 h.lastStep.isSome,
    intItem 56 8 (h.lastStep.getD 0) ]

/-- Page 6: causes, mask and details (12.5). -/
def State.pageSix (s : State) : List Item :=
  [ (0, [s.port.causes]), (16, [s.port.mask]), numItem 32 2 s.port.slotDetail.toNat,
    numItem 34 1 s.port.pathDetail.toNat, numItem 35 1 s.port.laneDetail.toNat ]

/-! ## Path, lane and pattern pages -/

/-- Pages 7 and 8: a path page (R130, R147). DESIGN CHOICE (log entry 42): REPEAT flag, report counter and acknowledged
sequence of the latest status read zero while there is none, and the report reference while it is unset. -/
def State.pagePath (s : State) (p : PathId) : List Item :=
  let x := s.path p
  let q := s.params.path p
  [ numItem 0 1 (pathStateCode x.state), numItem 1 1 (failCode x.failure), numItem 2 1 x.goodRun,
    (3, [x.markOrdinal]), numItem 4 4 x.nextSeq.toNat, numItem 8 4 x.ackThrough.toNat,
    numItem 12 4 x.sentThrough.toNat, numItem 16 2 x.window.length, numItem 18 2 x.backlog.length,
    numItem 20 4 ((x.window.head?.map fun w => w.seq.toNat).getD 0),
    numItem 24 2 ((x.window.head?.map fun w => w.entry).getD 0),
    numItem 26 1 (bit x.silence.isSome + 2 * bit x.holdoff.isSome + 4 * bit x.repeatTimer.isSome),
    numItem 27 1 x.attempts, numItem 28 1 x.burstOrdinal, flagItem 29 x.moduleAbsent, numItem 30 1 x.unanswered,
    flagItem 31 x.lastIndicator, flagItem 32 x.latest.isSome,
    flagItem 33 ((x.latest.map fun t => t.repeats).getD false), (34, [(x.latest.map fun t => t.counter).getD 0]),
    flagItem 35 x.reportRef.isSome, (36, [x.reportRef.getD 0]),
    numItem 40 4 ((x.latest.map fun t => t.ack.toNat).getD 0), numItem 44 4 x.replayCursor.toNat,
    numItem 48 4 x.replayEnd.toNat, numItem 64 2 q.silenceTime, numItem 66 2 q.holdoff, numItem 68 1 q.nGood,
    flagItem 69 q.enabled, (80, q.settings.toList) ]

/-- The count of the CREDIT in a notice queue. -/
def queuedCredit : List Notice → Nat
  | [] => 0
  | .credit n :: _ => n
  | _ :: ts => queuedCredit ts

/-- Pages 9 to 12: a lane page (R76). DESIGN CHOICE (log entry 42): the sequence expectation reads zero while it is unset,
and the count of the queued CREDIT while none is queued. -/
def State.pageLane (s : State) (l : Fin 4) : List Item :=
  let x := s.lane l
  [ numItem 0 2 ((x.expectation.map fun e => e.toNat).getD 0), flagItem 2 x.expectation.isSome,
    numItem 3 1 x.queue.length, flagItem 4 x.hasCredit, flagItem 5 x.sending.isSome, numItem 6 2 (queuedCredit x.queue),
    flagItem 8 x.ready, numItem 9 1 (laneFaultCode x.lastFault), numItem 12 2 x.account.outstanding,
    numItem 14 2 x.account.pending, numItem 16 2 (s.params.quota (.lane l)) ]

/-- Page 13: the pattern page (R171). DESIGN CHOICE (log entry 42): the stream slot, the pattern offset and the pattern
length read zero while no pattern stream is open. -/
def State.pagePattern (s : State) : List Item :=
  let p := s.pattern
  let z := s.pauses
  let region := match p.slot with
    | none => (0, 0)
    | some i => (s.slot i).patternRegion.getD (0, 0)
  [ flagItem 0 p.slot.isSome, numItem 1 1 ((p.slot.map fun i => i.val).getD 0),
    numItem 2 1 (bit z.credit + 2 * bit z.queue + 4 * bit z.ahead + 8 * bit z.entry), flagItem 3 p.offered,
    numItem 4 6 p.nextFrame, numItem 10 2 p.nextIndex, numItem 12 2 region.1,
    numItem 16 2 s.params.patternQuota, numItem 32 2 p.outstanding, numItem 34 3 region.2 ]

/-! ## Counter pages (R182) -/

/-- A counter page: its selector, the frozen bank's label and the selected counters. -/
def State.counterItems (s : State) (selector : Nat) (counters : List Nat) : List Item :=
  numItem 0 1 selector :: numItem 4 6 (s.frozenLabel.getD 0) :: packed 16 (counters.map fun v => (4, v))

/-- The frozen bank's counters of a group of page 15: 0 path A, 1 path B, 2 to 5 lanes, else the part. -/
def State.groupCounters (s : State) (g : Nat) : List Nat :=
  if g = 0 then s.frozen.pathA.toList
  else if g = 1 then s.frozen.pathB.toList
  else if g ≤ 5 then (s.frozen.lanes.toList.getD (g - 2) (Vector.replicate 14 0)).toList
  else s.frozen.part.toList

/-- Page 14: the frozen bank's counters of one slot. -/
def State.pageSlotCounters (s : State) : List Item :=
  s.counterItems s.port.slotSelector
    (s.frozen.slots.toList.getD s.port.slotSelector (Vector.replicate 17 0)).toList

/-- Page 15: one group of the frozen bank's other counters. -/
def State.pagePartCounters (s : State) : List Item :=
  s.counterItems s.port.groupSelector (s.groupCounters s.port.groupSelector)

/-! ## Slot view pages

The rows hold the items of 11.2 in the order it lists them, each row group packed from its first offset; an item that
would cross the end of a row starts the next row. DESIGN CHOICE (log entry 16): the offsets within a row group are not
given. -/

/-- Number, frame, index, payload length and condition flags of a queued entry; zero without one. DESIGN CHOICE: the
flags stand in the row, as R105 and 12.4 place them, against R89 (log entry 43); the number takes two bytes (log entry
45). -/
def entryItems (off : Nat) : Option Entry → List Item
  | none => []
  | some e => packed off [(2, e.number), (6, e.frame), (2, e.index), (2, e.payload), (1, flagsCode e.flags)]

/-- The view page of slot `i`. DESIGN CHOICE: the requested start frame reads zero when absent, and frame, index and both
instants of the head read zero when the head has no formed instants; last accepted shows frame and index, zero for
none, and behind them a byte that says whether there is one (log entry 42); the queue length takes two bytes (log entry
45). -/
def State.pageSlot (s : State) (i : Fin 16) : List Item :=
  let t := s.slot i
  let last := t.intake.lastAccepted.getD (0, 0)
  packed 0 [(1, slotStateCode t.state), (1, ownerCode t.owner), (2, t.tag), (1, pathSetCode t.pathSet),
      (1, reasonCode t.lastReason), (2, t.loadA), (2, t.loadB), (1, bit s.held[i])]
  ++ packed 16 [(4, t.n), (2, t.d), (2, t.lt), (2, t.la), (2, t.lf), (2, t.k), (2, t.s), (4, t.h), (4, t.delta)]
  ++ packed 48 [(8, t.q), (8, t.r), (8, t.dd), (8, t.o)]
  ++ packed 80 [(6, t.fs), (6, t.fc)]
  ++ packed 96 [(6, t.requestedStart.getD 0), (1, bit t.requestedStart.isSome)]
  ++ (match t.head with
      | none => []
      | some hd => packed 112 [(6, hd.frame), (2, hd.index), (8, hd.scheduled), (8, hd.eligible)])
  ++ packed 144 [(8, t.aPrev), (4, t.lambdaPrev), (1, t.indexPrev), (1, t.codePrev), (1, bit t.sameFrame), (1, t.idle)]
  ++ packed 160 [(2, t.released), (2, t.late), (2, t.discarded), (2, t.arrived)]
  ++ packed 176 [(6, t.lastFrame.frame), (2, t.lastFrame.released), (2, t.lastFrame.late), (2, t.lastFrame.discarded),
      (2, t.lastFrame.arrived), (2, t.lastFrame.missing)]
  ++ packed 192 [(6, last.1), (2, last.2), (1, bit t.intake.lastAccepted.isSome), (1, bit t.intake.isOpen),
      (1, bit t.intake.pendingFull), (1, bit t.intake.pendingSkipped)]
  ++ packed 208 [(2, t.queue.length)]
  ++ entryItems 210 (s.headEntry i)
  ++ entryItems 224 (match t.queue.getLast? with | none => none | some n => s.entry? n)
  ++ (if t.owner = .pattern then
      packed 240 [(2, (t.patternRegion.getD (0, 0)).1), (3, (t.patternRegion.getD (0, 0)).2)]
    else [])

/-! ## The page space -/

/-- First and last page of the pattern memory (R164). -/
abbrev patternFirst : Nat := 32
abbrev patternLast : Nat := 287

/-- The page lies in the pattern memory. -/
def isPatternPage (page : Nat) : Bool := decide (patternFirst ≤ page) && decide (page ≤ patternLast)

/-- The pattern memory address at an offset of a pattern page (R164). -/
def patternAddress (page off : Nat) : Nat := (page - patternFirst) * 256 + off

/-- The items of a page below the pattern memory (11.2). -/
def State.pageItems (s : State) (page : Nat) : List Item :=
  if page = 0 then s.pageZero
  else if page = 1 then s.pageOne
  else if page = 2 then s.pageTwo
  else if page = 3 then s.pageThree
  else if page = 4 then s.pageFour
  else if page = 5 then s.pageFive
  else if page = 6 then s.pageSix
  else if page = 7 then s.pagePath .a
  else if page = 8 then s.pagePath .b
  else if page < 13 then s.pageLane (Fin.ofNat 4 (page - 9))
  else if page = 13 then s.pagePattern
  else if page = 14 then s.pageSlotCounters
  else if page = 15 then s.pagePartCounters
  else if page < 32 then s.pageSlot (Fin.ofNat 16 (page - 16))
  else []

/-- The byte at an offset of a page (R172). -/
def State.pageByte (s : State) (page off : Nat) : Byte :=
  if isPatternPage page then readMem s.patternMem (patternAddress page off) else itemsByte (s.pageItems page) off

/-- A row of a page. -/
def State.rowBytes (s : State) (page row : Nat) : List Byte :=
  if isPatternPage page then (List.range 16).map fun k => readMem s.patternMem (patternAddress page (row * 16 + k))
  else
    let items := s.pageItems page
    (List.range 16).map fun k => itemsByte items (row * 16 + k)

/-- A whole page. -/
def State.pageBytes (s : State) (page : Nat) : List Byte :=
  if isPatternPage page then (List.range 256).map fun k => readMem s.patternMem (patternAddress page k)
  else
    let items := s.pageItems page
    (List.range 256).map fun k => itemsByte items k

end Sys2Proof.Machine
end

