-- ==== Sys2Proof/Machine/Port.lean ====
section
/-!
DEFINITION. The transactions of the management port: write transactions with their row events, read transactions with
their captures (R172 to R175, R180 to R182).
-/

namespace Sys2Proof.Machine

open Sys2Proof

/-! ## The pointer (R172) -/

/-- A page byte is taken: page p, or 256 + p when the extension flag is set, which clears; offset 0. -/
def State.takePage (s : State) (p : Byte) : State :=
  s.updPort fun q => { q with page := if q.extension then 256 + p.toNat else p.toNat, offset := 0, extension := false }

/-- An offset byte is taken. -/
def State.takeOffset (s : State) (o : Byte) : State := s.updPort fun q => { q with offset := o.toNat }

/-- The offset after a data byte: it wraps within its 16-byte row. -/
def nextInRow (off : Nat) : Nat := off / 16 * 16 + (off + 1) % 16

/-- The offset after a read byte: it wraps from 255 to 0. -/
def nextInPage (off : Nat) : Nat := (off + 1) % 256

/-- The address a transaction is sent to is the port's (R172). -/
def State.isTarget (s : State) (target : BitVec 7) : Bool :=
  decide (target.toNat = 0x5C + s.port.addressPins.toNat)

/-- A read transaction that is in progress ends, and its capture is discarded (R172, R174). -/
def State.endRead (s : State) : State := s.updPort fun q => { q with reading := none }

/-! ## Data bytes of a write (R164, R172, R175) -/

/-- First and last offset of the argument rows (11.2). -/
abbrev argFirst : Nat := 16
abbrev argLast : Nat := 54

/-- The effect a data byte has at its own write: pattern memory (R164), the code byte and the arguments (R175). The
other items are taken at the transaction's end. -/
def State.byteEffect (s : State) (page off : Nat) (b : Byte) : State :=
  if isPatternPage page then { s with patternMem := writeMem s.patternMem (patternAddress page off) b }
  else if page = 1 ∧ off = 0 then s.takeCommand b
  else if page = 1 ∧ argFirst ≤ off ∧ off ≤ argLast then
    s.updPort fun q => { q with args := q.args.setIfInBounds (off - argFirst) b }
  else s

/-- A data byte is taken at the pointer, which moves on within its row; a pattern stream whose last pause a command ends
goes on (R167). -/
def State.putByte (s : State) (b : Byte) : State :=
  s.resumed
    ((s.byteEffect s.port.page s.port.offset b).updPort fun q => { q with offset := nextInRow s.port.offset })

/-- Where the data bytes of a transaction go. -/
def placed : Nat → List Byte → List (Nat × Byte)
  | _, [] => []
  | off, b :: bs => (off, b) :: placed (nextInRow off) bs

/-- The last byte a transaction has written at an offset. -/
def lastWritten (w : List (Nat × Byte)) (off : Nat) : Option Byte :=
  ((w.filter fun x => decide (x.1 = off)).getLast?).map Prod.snd

/-! ## Row events (R173) -/

/-- The bytes of an item as the transaction has left the row, if one of them was written. -/
def State.written (s : State) (w : List (Nat × Byte)) (page off len : Nat) : Option (List Byte) :=
  if w.any fun x => decide (off ≤ x.1) && decide (x.1 < off + len) then
    some ((List.range len).map fun k => (lastWritten w (off + k)).getD (s.pageByte page (off + k)))
  else none

/-- An item that is taken or refused. -/
abbrev ItemAnswer := State × Option RefusalCode

/-- An item is taken if the transaction has written it. -/
def State.takeItem (s : State) (w : List (Nat × Byte)) (page off len : Nat) (take : State → Nat → ItemAnswer) :
    ItemAnswer :=
  match s.written w page off len with
  | none => (s, none)
  | some bytes => take s (leNat bytes)

/-- Items in row order; the first refusal is reported (R173). -/
def takeItems (s : State) : List (State → ItemAnswer) → ItemAnswer
  | [] => (s, none)
  | f :: fs =>
    let a := f s
    let b := takeItems a.1 fs
    (b.1, a.2.or b.2)

/-- The last write result (R173). -/
def ItemAnswer.report (a : ItemAnswer) : State :=
  a.1.updPort fun q =>
    { q with writeStatus := if a.2.isSome then .refused else .done, writeRefusal := a.2 }

/-- A parameter with no refusal. -/
def always (f : Params → Nat → Params) (s : State) (v : Nat) : ItemAnswer := (s.updParams fun q => f q v, none)

/-- Path rate (R10): STREAMS_OPEN before BAD_VALUE (log entry 27). -/
def takeRate (s : State) (v : Nat) : ItemAnswer :=
  if !s.allFree then (s, some .streamsOpen)
  else if v = 10 ∨ v = 25 ∨ v = 100 then (s.updParams fun q => { q with rate := v }, none)
  else (s, some .badValue)

/-- Reserve (R10). -/
def takeReserve (s : State) (v : Nat) : ItemAnswer :=
  if !s.allFree then (s, some .streamsOpen)
  else (s.updParams fun q => { q with reserve := clampTo 0 300 v }, none)

/-- Repeat time, N_mark, attempt limit (R133). -/
def takeRepeatTime : State → Nat → ItemAnswer := always fun q v => { q with repeatTime := clampTo 50 5000 v }
def takeNMark : State → Nat → ItemAnswer := always fun q v => { q with nMark := clampTo 4 63 v }
def takeAttemptLimit : State → Nat → ItemAnswer := always fun q v => { q with attemptLimit := clampTo 1 15 v }

/-- A catch-up code (R29). -/
def takeCatchUp (n : Nat) : State → Nat → ItemAnswer :=
  always fun q v => { q with catchUp := q.catchUp.setIfInBounds n (min v 3) }

/-- Idle limit (R35). -/
def takeIdleLimit : State → Nat → ItemAnswer := always fun q v => { q with idleLimit := v }

/-- Urgent threshold (R48). -/
def takeUrgent : State → Nat → ItemAnswer := always fun q v => { q with urgent := min v 32 }

/-- Step enable (R163): a value other than disabled is taken as enabled. -/
def takeStepEnable : State → Nat → ItemAnswer := always fun q v => { q with stepEnable := decide (v ≠ 0) }

/-- Pulse second (R151): it is set, clamped, and label written is set. -/
def takePulseSecond (s : State) (v : Nat) : ItemAnswer :=
  (s.updHouse fun h => { h with pulseSecond := min v Config.pulseSecondMax, labelWritten := true }, none)

/-- Path parameters (R128). -/
def takeSilence (p : PathId) : State → Nat → ItemAnswer :=
  always fun q v => q.updPath p fun x => { x with silenceTime := clampTo 100 10000 v }
def takeHoldoff (p : PathId) : State → Nat → ItemAnswer :=
  always fun q v => q.updPath p fun x => { x with holdoff := clampTo 0 1000 v }
def takeNGood (p : PathId) : State → Nat → ItemAnswer :=
  always fun q v => q.updPath p fun x => { x with nGood := clampTo 1 15 v }

/-- One byte of the module settings block (R128). -/
def takeSetting (p : PathId) (n : Nat) : State → Nat → ItemAnswer :=
  always fun q v => q.updPath p fun x => { x with settings := x.settings.setIfInBounds n (BitVec.ofNat 8 v) }

/-- A quota (R70): ENTRIES_LIVE, QUOTA_SUM, NOTICE_ROOM in that order (log entry 27). -/
def takeQuotaItem (o : Owner) (s : State) (v : Nat) : ItemAnswer :=
  if s.entries ≠ [] then (s, some .entriesLive)
  else if Config.quotaSum < (s.params.setQuota o v).quotaTotal then (s, some .quotaSum)
  else
    match o with
    | .pattern => (s.takeQuota .pattern v, none)
    | .lane l => if s.readyRoom l then (s.takeQuota (.lane l) v, none) else (s, some .noticeRoom)

/-- Selector of page 14, of page 15 (R182). -/
def takeSlotSelector (s : State) (v : Nat) : ItemAnswer :=
  if v ≤ 15 then (s.updPort fun q => { q with slotSelector := v }, none) else (s, some .badValue)
def takeGroupSelector (s : State) (v : Nat) : ItemAnswer :=
  if v ≤ 6 then (s.updPort fun q => { q with groupSelector := v }, none) else (s, some .badValue)

/-- Sixteen one-byte items from an offset on. -/
def byteRow (w : List (Nat × Byte)) (page off : Nat) (take : Nat → State → Nat → ItemAnswer) :
    List (State → ItemAnswer) :=
  (List.range 16).map fun k s => s.takeItem w page (off + k) 1 (take k)

/-- The items of a parameter row, in row order; none for any other row (R173, 11.2). -/
def rowItems (w : List (Nat × Byte)) (page row : Nat) : Option (List (State → ItemAnswer)) :=
  if page = 2 ∧ row = 0 then
    some [fun s => s.takeItem w 2 0 1 takeRate, fun s => s.takeItem w 2 2 2 takeReserve,
      fun s => s.takeItem w 2 4 2 takeRepeatTime, fun s => s.takeItem w 2 6 1 takeNMark,
      fun s => s.takeItem w 2 7 1 takeAttemptLimit]
  else if page = 3 ∧ row = 0 then some (byteRow w 3 0 takeCatchUp)
  else if page = 3 ∧ row = 1 then some (byteRow w 3 16 fun k => takeCatchUp (16 + k))
  else if page = 3 ∧ row = 2 then some [fun s => s.takeItem w 3 32 1 takeIdleLimit]
  else if page = 4 ∧ row = 0 then some [fun s => s.takeItem w 4 7 1 takeUrgent]
  else if page = 5 ∧ row = 0 then some [fun s => s.takeItem w 5 9 1 takeStepEnable]
  else if page = 5 ∧ row = 1 then some [fun s => s.takeItem w 5 16 8 takePulseSecond]
  else if (page = 7 ∨ page = 8) ∧ row = 4 then
    let p := if page = 7 then PathId.a else PathId.b
    some [fun s => s.takeItem w page 64 2 (takeSilence p), fun s => s.takeItem w page 66 2 (takeHoldoff p),
      fun s => s.takeItem w page 68 1 (takeNGood p)]
  else if page = 7 ∧ row = 5 then some (byteRow w 7 80 (takeSetting .a))
  else if page = 8 ∧ row = 5 then some (byteRow w 8 80 (takeSetting .b))
  else if 9 ≤ page ∧ page ≤ 12 ∧ row = 1 then
    some [fun s => s.takeItem w page 16 2 (takeQuotaItem (.lane (Fin.ofNat 4 (page - 9))))]
  else if page = 13 ∧ row = 1 then some [fun s => s.takeItem w 13 16 2 (takeQuotaItem .pattern)]
  else if page = 14 ∧ row = 0 then some [fun s => s.takeItem w 14 0 1 takeSlotSelector]
  else if page = 15 ∧ row = 0 then some [fun s => s.takeItem w 15 0 1 takeGroupSelector]
  else none

/-- Clear the causes of a byte written to the cause row, each with its detail flags (R180). -/
def State.clearCauses (s : State) (v : Byte) : State :=
  s.updPort fun q =>
    { q with
      causes := q.causes &&& ~~~v
      slotDetail := if v.getLsbD Cause.streamClosed.bit then 0 else q.slotDetail
      pathDetail := if v.getLsbD Cause.pathChange.bit then 0 else q.pathDetail
      laneDetail := if v.getLsbD Cause.laneFault.bit then 0 else q.laneDetail }

/-- Every byte written to the cause row, together. -/
def causeBytes (w : List (Nat × Byte)) : Byte :=
  w.foldl (fun acc x => if x.1 = 0 then acc ||| x.2 else acc) 0

/-- What a transaction that wrote `w` to a row of a page does at its end (R172, R173, R180, R181). A quota write can end
the last pause of a pattern stream, which then goes on (R167). -/
def State.rowEvent (s : State) (w : List (Nat × Byte)) (page row : Nat) : State :=
  match rowItems w page row with
  | some items => s.resumed (ItemAnswer.report (takeItems s items))
  | none =>
    if page = 0 ∧ row = 0 then
      if w.any fun x => decide (x.1 = 7) && decide (x.2 = 1) then s.updPort fun q => { q with extension := true } else s
    else if page = 6 ∧ row = 0 then s.clearCauses (causeBytes w)
    else if page = 6 ∧ row = 1 then
      match lastWritten w 16 with
      | none => s
      | some v => s.updPort fun q => { q with mask := v }
    else s

/-! ## Write transactions (R172, R173) -/

/-- The data bytes of a write transaction and its end. -/
def State.putData (s : State) (data : List Byte) : State :=
  match data with
  | [] => s
  | _ => (data.foldl State.putByte s).rowEvent (placed s.port.offset data) s.port.page (s.port.offset / 16)

/-- A write transaction that the port acknowledges. -/
def State.acceptWrite (s : State) (bytes : List Byte) : State :=
  match bytes with
  | [] => s
  | [p] => s.takePage p
  | p :: o :: data => ((s.takePage p).takeOffset o).putData data

/-- A write transaction at the port's address: transferred unless the port is silent. -/
def State.hostWrite (s : State) (bytes : List Byte) : State :=
  if s.silent then s else s.endRead.acceptWrite bytes

/-- The write of `data` at an offset of a page below 256. With the page extension flag set no transaction writes
there, and this one does not occur (R172; log entry 3). -/
def State.writeAt (s : State) (page off : Nat) (data : List Byte) : State :=
  if s.port.extension then s else s.hostWrite (BitVec.ofNat 8 page :: BitVec.ofNat 8 off :: data)

/-- The write of a code byte (R175). -/
def State.writeCode (s : State) (code : Byte) : State := s.writeAt 1 0 [code]

/-! ## Read transactions (R172, R174) -/

/-- A read from this pointer position captures its whole page (R174). -/
def capturesFrom (page off : Nat) : Bool :=
  decide (page = 14) || decide (page = 15) || ((decide (page = 4) || decide (page = 5)) && decide (off = 0))

/-- The progress of a read at the byte the pointer names: the capture at the first byte, and the row as its first byte
finds it (R174). DESIGN CHOICE (log entry 47): a row is taken at the first of its bytes the read reaches, and taken anew when
the read comes to it again past offset 255. -/
def State.progressAt (s : State) (r : ReadProgress) : ReadProgress :=
  let page := s.port.page
  let off := s.port.offset
  let capture := if r.capture.isNone && r.row.isNone && capturesFrom page off then some (s.pageBytes page) else r.capture
  let row := match r.row with
    | some (n, bytes) => if n = off / 16 then (n, bytes) else (off / 16, s.rowBytes page (off / 16))
    | none => (off / 16, s.rowBytes page (off / 16))
  ⟨capture, some row⟩

/-- The byte a read gives at offset `off` of its page. -/
def ReadProgress.byte (r : ReadProgress) (off : Nat) : Byte :=
  match r.capture with
  | some bytes => byteAt bytes off
  | none => match r.row with
    | some (_, bytes) => byteAt bytes (off % 16)
    | none => 0

/-- One byte of a read in progress. -/
def State.readOne (s : State) : State :=
  match s.port.reading with
  | none => s
  | some r =>
    let r := s.progressAt r
    s.updPort fun q =>
      { q with
        reading := some r
        readOut := q.readOut ++ [r.byte q.offset]
        offset := nextInPage q.offset }

/-- `n` bytes of a read in progress. -/
def State.readMany (s : State) : Nat → State
  | 0 => s
  | n + 1 => s.readOne.readMany n

/-- A read transaction begins. -/
def State.beginRead (s : State) : State :=
  s.updPort fun q => { q with reading := some ⟨none, none⟩, readOut := [] }

/-- A read transaction or a part of one, at the port's address (R172, R174; log entry 17). -/
def State.hostRead (s : State) (starts : Bool) (count : Nat) (ends : Bool) : State :=
  if s.silent then s
  else
    let s := (if starts then s.beginRead else s).readMany count
    if ends then s.endRead else s

end Sys2Proof.Machine
end

