-- ==== Sys2Proof/Machine/PowerEvents.lean ====
section
/-!
DEFINITION. The meanings of POWER_ON, POWER_ON_LOAD, POWER_FAIL, STORE_END and RECALL_END (R176, R177, R179).
-/

namespace Sys2Proof.Machine

open Sys2Proof

/-- POWER_ON (R179 steps 1 to 3): from power off, every block takes its power-on state and the store load starts. A
part that has power meets no power-on (log entry 9). -/
def execPowerOn (s : State) : Result := .next (if s.powered then s else s.powerUp)

/-- POWER_ON_LOAD (R179 steps 3 to 5): the store has been read; the load ends. -/
def execPowerOnLoad (s : State) : Result := .next (if s.power = .loading then s.finishLoad else s)

/-- POWER_FAIL (R176): power is lost; a STORE in progress leaves a failing image. The volatile state is gone: what is
kept here is the state the next power-on begins with (log entry 9). -/
def execPowerFail (s : State) : Result := .next (if s.powered then { s.powerUp with power := .off } else s)

/-- STORE_END (R176): the silence of a STORE ends, and the read-back check gives its result. -/
def execStoreEnd (readsBack : Bool) (s : State) : Result :=
  match s.up, s.port.busy with
  | true, some (.store image _) => .next (s.finishStore image readsBack)
  | _, _ => .next s

/-- RECALL_END (R177): the silence of a RECALL ends; the check and the reload are taken. -/
def execRecallEnd (s : State) : Result :=
  match s.up, s.port.busy with
  | true, some (.recall _) => .next (s.resumed s.finishRecall)
  | _, _ => .next s

end Sys2Proof.Machine
end

