-- ==== Sys2Proof/Machine/LaneEvents.lean ====
section
/-!
DEFINITION. The meanings of the records, the notices and the credit batches of a feed lane (chapter 4).
-/

namespace Sys2Proof.Machine

open Sys2Proof

/-- OPEN_RECORD (R61 to R63). A record that arrives before the lanes take records is not taken and not counted
(R179 step 5). -/
def execOpenRecord (l : Fin 4) (bytes : List Byte) (s : State) : Result :=
  if !s.up then .next s
  else if !openForm bytes then .next (s.badRecord l)
  else
    match s.sequenced l (recordSeq bytes) with
    | none => .next (s.countLane l .stale 1)
    | some s => .next (s.dispatchOpen l (parseOpen (bytes.drop 8)))

/-- PACKET_RECORD (R61, R62, R65, R66). -/
def execPacketRecord (l : Fin 4) (bytes : List Byte) (s : State) : Result :=
  if !s.up then .next s
  else if !packetForm bytes then .next (s.badRecord l)
  else
    match s.sequenced l (recordSeq bytes) with
    | none => .next (s.countLane l .stale 1)
    | some s => s.dispatchPacket l (parsePacket bytes)

/-- CLOSE_RECORD (R61, R62, R64, R12 to R15). -/
def execCloseRecord (l : Fin 4) (bytes : List Byte) (s : State) : Result :=
  if !s.up then .next s
  else if !closeForm bytes then .next (s.badRecord l)
  else
    match s.sequenced l (recordSeq bytes) with
    | none => .next (s.countLane l .stale 1)
    | some t => .next (s.resumed (t.dispatchClose l (parseClose bytes)))

/-- LANE_RESET_RECORD (R61, R62, R67): taken whatever its sequence, counted as a record taken. -/
def execLaneResetRecord (l : Fin 4) (bytes : List Byte) (s : State) : Result :=
  if !s.up then .next s
  else if !laneResetForm bytes then .next (s.badRecord l)
  else .next (s.resumed ((s.countLane l .records 1).resetLane l true))

/-- The feeder drives its ready indication (R72). -/
def State.driveReady (s : State) (l : Fin 4) : Option Bool → State
  | none => s
  | some v => s.updLane l fun x => { x with ready := v }

/-- NOTICE_SEND_BEGIN (R72): the ready indication takes the level driven, if any, and the oldest notice begins sending
if the return direction is idle, the queue not empty and the indication asserted. -/
def execNoticeSendBegin (l : Fin 4) (ready : Option Bool) (s : State) : Result :=
  whenDue true (fun s => let s := s.driveReady l ready; if s.sendDue l then s.beginSend l else s) s

/-- NOTICE_SEND_COMPLETE (R72). -/
def execNoticeSendComplete (l : Fin 4) (s : State) : Result :=
  whenDue (s.sendOver l) (fun s => s.updLane l fun x => { x with sending := none }) s

/-- CREDIT_TIMER_EXPIRY (R69). -/
def execCreditTimerExpiry (l : Fin 4) (s : State) : Result :=
  whenDue (s.creditTimerDue l) (fun s => s.updAccount l fun a => { a with expired := true }) s

/-- CREDIT_BATCH (R69). -/
def execCreditBatch (l : Fin 4) (s : State) : Result := whenDue (s.batchDue l) (fun s => s.takeBatch l) s

end Sys2Proof.Machine
end

