-- ==== Sys2Proof/Machine/PacerEvents.lean ====
section
/-!
DEFINITION. The meanings of the Pacer's expiries and of the end of service (chapters 2 and 3).
-/

namespace Sys2Proof.Machine

open Sys2Proof

/-- ARMING_EXPIRY (R7): the slot becomes RUNNING, its head instants are formed, and a head already eligible is due. -/
def execArmingExpiry (i : Fin 16) (s : State) : Result :=
  whenDueResuming (s.armingPassed i) (fun s => (s.arm i).settleSlot i) s

/-- ELIGIBILITY_INSTANT (R45, R51): the slot enters the due set, and a choice follows if the launcher is free. -/
def execEligibilityInstant (i : Fin 16) (s : State) : Result :=
  whenDueResuming (s.isDue i && !s.due[i]) (fun s => s.settleSlot i) s

/-- DISCARD_EXPIRY (R31, R32, R14): heads whose discard instant has passed are discarded, in turn. -/
def execDiscardExpiry (i : Fin 16) (s : State) : Result :=
  whenDueResuming (s.discardPassed i)
    (fun s => ((s.discardRun i (s.slot i).queue.length).closeIfDrained i).settleSlot i) s

/-- FRAME_CLOSE (R34 to R37): frame closes in turn until one lies ahead, each with its tests, and the discard expiries
between them. -/
def execFrameClose (i : Fin 16) (s : State) : Result :=
  whenDueResuming (s.closePassed i) (fun s => (s.closeRun i (s.closeFuel i)).settleSlot i) s

/-- END_OF_SERVICE (R54). -/
def execEndOfService (s : State) : Result := whenDueResuming s.serviceOver State.endService s

end Sys2Proof.Machine
end

