-- ==== Sys2Proof/Machine/PathEvents.lean ====
section
/-!
DEFINITION. The meanings of a path's events: STATUS frames, timers, the line and the module polls (chapters 7 and 8).
-/

namespace Sys2Proof.Machine

open Sys2Proof

/-- STATUS_FRAME (R114 to R118). -/
def execStatusFrame (p : PathId) (bytes : List Byte) (s : State) : Result :=
  whenDueResuming true (fun s => s.takeStatus p bytes) s

/-- A timer that expires at an elapsed time has expired. -/
def State.expired (s : State) : Option Nat → Bool
  | none => false
  | some t => decide (t ≤ s.elapsed)

/-- SILENCE_EXPIRY (R119). -/
def execSilenceExpiry (p : PathId) (s : State) : Result :=
  whenDueResuming (s.expired (s.path p).silence) (fun s => s.failPath p .silent) s

/-- HOLDOFF_EXPIRY (R122). -/
def execHoldoffExpiry (p : PathId) (s : State) : Result :=
  whenDue (s.expired (s.path p).holdoff) (fun s => s.enterProbing p) s

/-- The latest status carries REPEAT. -/
def Path.latestRepeats (x : Path) : Bool := (x.latest.map fun t => t.repeats).getD false

/-- The repeat timer expires (R143, R144): with REPEAT in the latest status, FAILED at the attempt limit, else a new
burst by way of FINISHING; without it the timer stops. -/
def State.expireRepeat (s : State) (p : PathId) : State :=
  if (s.path p).latestRepeats then
    if s.params.attemptLimit ≤ (s.path p).attempts then s.failPath p .attempts
    else
      ((s.updPath p fun x => { x with attempts := min (x.attempts + 1) 15, repeatTimer := none, state := .finishing }).countPath
        p .remarks 1).serveLine p
  else s.updPath p fun x => { x with repeatTimer := none }

/-- REPEAT_TIMER_EXPIRY (R143, R144). -/
def execRepeatTimerExpiry (p : PathId) (s : State) : Result :=
  whenDueResuming (s.expired (s.path p).repeatTimer) (fun s => s.expireRepeat p) s

/-- The elapsed time at which the frame on a line ends. -/
def Line.endsAt : Line → Option Nat
  | .fill => none
  | .data _ t => some t
  | .mark _ _ _ t => some t

/-- LINE_FRAME_END (R109): the line is free and takes what the state calls for. -/
def execLineFrameEnd (p : PathId) (s : State) : Result :=
  whenDue (s.expired (s.path p).line.endsAt) (fun s => (s.updPath p fun x => { x with line := .fill }).serveLine p) s

/-! ## Module polls (R126, R127) -/

/-- MODULE_POLL (R126): the read begins; the next poll follows 100 ms after this one. -/
def execModulePoll (p : PathId) (s : State) : Result :=
  whenDue (decide ((s.path p).nextPoll ≤ s.elapsed) && decide ((s.path p).poll = .idle))
    (fun s => s.updPath p fun x =>
      { x with poll := .reading (s.elapsed + Config.pollWait), nextPoll := x.nextPoll + Config.pollSpacing }) s

/-- The poll waits for the answer to its read, to its settings write, to its clear. -/
def Poll.isReading : Poll → Bool
  | .reading _ => true
  | _ => false
def Poll.isWriting : Poll → Bool
  | .writing .. => true
  | _ => false
def Poll.isClearing : Poll → Bool
  | .clearing _ => true
  | _ => false

/-- The elapsed time until which a poll's step waits. -/
def Poll.waitsUntil : Poll → Option Nat
  | .idle => none
  | .reading t => some t
  | .writing _ t => some t
  | .clearing t => some t

/-- A FAILED path whose module was absent has its holdoff still to start (R127). -/
def Path.owesHoldoff (x : Path) : Bool := decide (x.state = .failed) && (x.moduleAbsent || x.holdoffOwed)

/-- The holdoff timer starts now if it is owed, with a holdoff above 0 (R122, R127). -/
def State.startOwed (s : State) (p : PathId) : State :=
  let hold := (s.params.path p).holdoff
  s.updPath p fun x =>
    { x with
      holdoff := if x.owesHoldoff ∧ 0 < hold then some (s.elapsed + hold * 1000000) else x.holdoff
      holdoffOwed := false }

/-- The module answers a read (R127): the module-absent flag and the unanswered poll count clear. The holdoff of a
FAILED path whose module was absent starts now, but with the indicator set only once the settings are written. -/
def State.moduleAnswered (s : State) (p : PathId) (indicator : Bool) : State :=
  (if indicator then s.updPath p fun x => { x with holdoffOwed := x.owesHoldoff } else s.startOwed p).updPath p fun x =>
    { x with lastIndicator := indicator, unanswered := 0, moduleAbsent := false, poll := .idle }

/-- The read found the indicator set (R126): MODULE_RESTARTS, the settings write begins, a sending path fails, a
PROBING path loses its good run. -/
def State.moduleRestarted (s : State) (p : PathId) : State :=
  let s := s.countPath p .moduleRestarts 1
  let s := s.updPath p fun x => { x with poll := .writing (s.params.path p).settings (s.elapsed + Config.pollWait) }
  if (s.path p).state.isSending then s.failPath p .moduleRestart
  else if (s.path p).state = .probing then s.updPath p fun x => { x with goodRun := 0 }
  else s

/-- MODULE_READ_ANSWER (R126, R127). -/
def execModuleReadAnswer (p : PathId) (indicator : Bool) (s : State) : Result :=
  whenDueResuming (s.path p).poll.isReading
    (fun s => if indicator then (s.moduleAnswered p true).moduleRestarted p else s.moduleAnswered p false) s

/-- MODULE_SETTINGS_ANSWER (R126, R127): the settings are written; a holdoff still owed starts, and the clear of the
indicator begins. -/
def execModuleSettingsAnswer (p : PathId) (s : State) : Result :=
  whenDue (s.path p).poll.isWriting
    (fun s => (s.startOwed p).updPath p fun x => { x with poll := .clearing (s.elapsed + Config.pollWait) }) s

/-- MODULE_CLEAR_ANSWER (R126): the poll ends. -/
def execModuleClearAnswer (p : PathId) (s : State) : Result :=
  whenDue (s.path p).poll.isClearing (fun s => s.updPath p fun x => { x with poll := .idle }) s

/-- An unanswered poll acts on a path whose module-absent flag is set (R127). -/
def State.missModule (s : State) (p : PathId) : State :=
  match (s.path p).state with
  | .disabled => s
  | .failed =>
    let changes := decide ((s.path p).failure ≠ some .moduleAbsent)
    let s := s.updPath p fun x => { x with failure := some .moduleAbsent, holdoff := none }
    if changes then s.latchPath p else s
  | _ => s.failPath p .moduleAbsent

/-- A step of a poll goes unanswered (R127). -/
def State.unansweredPoll (s : State) (p : PathId) : State :=
  let s := (s.updPath p fun x =>
    { x with
      poll := .idle
      unanswered := min (x.unanswered + 1) 255
      moduleAbsent := x.moduleAbsent || decide (3 ≤ min (x.unanswered + 1) 255) }).countPath p .pollsUnanswered 1
  if (s.path p).moduleAbsent then s.missModule p else s

/-- POLL_UNANSWERED (R126, R127): a step still unanswered when its wait of 1 ms ends. -/
def execPollUnanswered (p : PathId) (s : State) : Result :=
  whenDueResuming (s.expired (s.path p).poll.waitsUntil) (fun s => s.unansweredPoll p) s

end Sys2Proof.Machine
end

