-- ==== Sys2Proof/Machine/HouseEvents.lean ====
section
/-!
DEFINITION. The meanings of the House Time events and of the Pattern Source's generation (chapters 9 and 10).
-/

namespace Sys2Proof.Machine

open Sys2Proof

/-- REFERENCE_PULSE (R152 to R159). -/
def execReferencePulse (s : State) : Result := whenDueResuming true State.pulse s

/-- PULSE_MISS_EXPIRY (R158). -/
def execPulseMissExpiry (s : State) : Result := whenDue s.missDue State.takeMiss s

/-- TRIM_ADJUSTMENT (R148). -/
def execTrimAdjustment (s : State) : Result := whenDue s.trimDue State.takeTrim s

/-- SLEW_ADJUSTMENT (R150). -/
def execSlewAdjustment (s : State) : Result := whenDue s.slewDue State.takeSlew s

/-- SECOND_MARKER (R160, R182): a raised marker is taken, the banks are swapped. -/
def execSecondMarker (s : State) : Result := whenDue (!s.house.markers.isEmpty) State.takeMarker s

/-- PATTERN_GENERATION (R167 to R169). -/
def execPatternGeneration (s : State) : Result :=
  match s.pattern.slot with
  | none => .next s
  | some i => if s.powered && s.canGenerate then s.generate i else .next s

end Sys2Proof.Machine
end

