-- ==== Sys2Proof/Machine/HostCommands.lean ====
section
/-!
DEFINITION. The meanings of the host's commands: the write of a code byte (R175). Each is a write transaction of one
data byte at page 1, offset 0; its arguments stand in the argument rows.
-/

namespace Sys2Proof.Machine

open Sys2Proof

/-- CLEAR (R183). -/
def execClear (s : State) : Result := .next (s.writeCode 0x01)

/-- STORE (R176). -/
def execStore (s : State) : Result := .next (s.writeCode 0x02)

/-- RECALL (R177). -/
def execRecall (s : State) : Result := .next (s.writeCode 0x03)

/-- PATH_ENABLE (R123). -/
def execPathEnable (s : State) : Result := .next (s.writeCode 0x10)

/-- PATH_DISABLE (R124). -/
def execPathDisable (s : State) : Result := .next (s.writeCode 0x11)

/-- PATH_RESTART (R125). -/
def execPathRestart (s : State) : Result := .next (s.writeCode 0x12)

/-- STREAM_HOLD (R46). -/
def execStreamHold (s : State) : Result := .next (s.writeCode 0x20)

/-- STREAM_UNHOLD (R47). -/
def execStreamUnhold (s : State) : Result := .next (s.writeCode 0x21)

/-- STREAM_CLOSE (R16). -/
def execStreamClose (s : State) : Result := .next (s.writeCode 0x22)

/-- SET_LOWEST (R50). -/
def execSetLowest (s : State) : Result := .next (s.writeCode 0x23)

/-- ROTATION_MODE (R50). -/
def execRotationMode (s : State) : Result := .next (s.writeCode 0x24)

/-- LANE_RESET (R74). -/
def execLaneResetCommand (s : State) : Result := .next (s.writeCode 0x30)

/-- PATTERN_OPEN (R165). -/
def execPatternOpen (s : State) : Result := .next (s.writeCode 0x40)

/-- PATTERN_CLOSE (R166). -/
def execPatternClose (s : State) : Result := .next (s.writeCode 0x41)

/-- The codes of R175 that name a command. -/
def commandCodes : List Byte :=
  [0x01, 0x02, 0x03, 0x10, 0x11, 0x12, 0x20, 0x21, 0x22, 0x23, 0x24, 0x30, 0x40, 0x41]

/-- The code is unknown: not 0, which is not a command, and no command's (R175). -/
def unknownCode (code : Byte) : Bool := decide (code ≠ 0) && !commandCodes.contains code

/-- BAD_COMMAND (R175): the write of an unknown code. -/
def execBadCommand (code : Byte) (s : State) : Result := .next (if unknownCode code then s.writeCode code else s)

end Sys2Proof.Machine
end

