-- ==== Sys2Proof/Machine/HostWrites.lean ====
section
/-!
DEFINITION. The meanings of the host's writes of parameters and of the port's own items, and of reads and write
transactions in general (R172 to R174, R180 to R182).
-/

namespace Sys2Proof.Machine

open Sys2Proof

/-- PATH_RATE_WRITE (R10): page 2, offset 0. -/
def execPathRateWrite (v : Byte) (s : State) : Result := .next (s.writeAt 2 0 [v])

/-- RESERVE_WRITE (R10): page 2, offset 2. -/
def execReserveWrite (v : BitVec 16) (s : State) : Result := .next (s.writeAt 2 2 (leBytes 2 v.toNat))

/-- The page of an account's quota (11.2). -/
def quotaPage : Owner → Nat
  | .lane l => 9 + l.val
  | .pattern => 13

/-- QUOTA_WRITE (R70): offset 16 of a lane page or of the pattern page. -/
def execQuotaWrite (o : Owner) (v : BitVec 16) (s : State) : Result :=
  .next (s.writeAt (quotaPage o) 16 (leBytes 2 v.toNat))

/-- CATCH_UP_TABLE_WRITE (R29): page 3, the offset of the lateness index. -/
def execCatchUpTableWrite (n : Fin 32) (v : Byte) (s : State) : Result := .next (s.writeAt 3 n.val [v])

/-- IDLE_LIMIT_WRITE (R35): page 3, offset 32. -/
def execIdleLimitWrite (v : Byte) (s : State) : Result := .next (s.writeAt 3 32 [v])

/-- URGENT_THRESHOLD_WRITE (R48): page 4, offset 7. -/
def execUrgentThresholdWrite (v : Byte) (s : State) : Result := .next (s.writeAt 4 7 [v])

/-- PULSE_SECOND_WRITE (R151): page 5, offset 16. -/
def execPulseSecondWrite (v : BitVec 64) (s : State) : Result := .next (s.writeAt 5 16 (leBytes 8 v.toNat))

/-- STEP_ENABLE_WRITE (R163): page 5, offset 9. -/
def execStepEnableWrite (v : Byte) (s : State) : Result := .next (s.writeAt 5 9 [v])

/-- The page of a path (11.2). -/
def pathPage : PathId → Nat
  | .a => 7
  | .b => 8

/-- PATH_PARAMETER_WRITE (R128): offsets 64, 66, 68 and 80 of a path page. -/
def execPathParameterWrite (p : PathId) (x : PathParam) (s : State) : Result :=
  match x with
  | .silence v => .next (s.writeAt (pathPage p) 64 (leBytes 2 v.toNat))
  | .holdoff v => .next (s.writeAt (pathPage p) 66 (leBytes 2 v.toNat))
  | .nGood v => .next (s.writeAt (pathPage p) 68 [v])
  | .settings block => .next (s.writeAt (pathPage p) 80 block.toList)

/-- REPEAT_PARAMETER_WRITE (R133): offsets 4, 6 and 7 of page 2. -/
def execRepeatParameterWrite (x : RepeatParam) (s : State) : Result :=
  match x with
  | .repeatTime v => .next (s.writeAt 2 4 (leBytes 2 v.toNat))
  | .nMark v => .next (s.writeAt 2 6 [v])
  | .attemptLimit v => .next (s.writeAt 2 7 [v])

/-- COUNTER_SELECTOR_WRITE (R182): offset 0 of page 14 or 15. -/
def execCounterSelectorWrite (page : CounterPage) (v : Byte) (s : State) : Result :=
  match page with
  | .slots => .next (s.writeAt 14 0 [v])
  | .part => .next (s.writeAt 15 0 [v])

/-- CAUSE_CLEAR_WRITE (R180): page 6, offset 0. -/
def execCauseClearWrite (v : Byte) (s : State) : Result := .next (s.writeAt 6 0 [v])

/-- MASK_WRITE (R181): page 6, offset 16. -/
def execMaskWrite (v : Byte) (s : State) : Result := .next (s.writeAt 6 16 [v])

/-- PAGE_EXTENSION_WRITE (R172): page 0, offset 7. -/
def execPageExtensionWrite (v : Byte) (s : State) : Result := .next (s.writeAt 0 7 [v])

/-- PATTERN_MEMORY_WRITE (R164): a data byte of a write transaction taken at a pointer in the pattern memory, as an
event of its own. -/
def execPatternMemoryWrite (v : Byte) (s : State) : Result :=
  .next (if !s.silent && isPatternPage s.port.page then s.putByte v else s)

/-- SNAPSHOT_READ (R172, R174): a read transaction or a part of one. A START with another address ends the port's own
transaction. -/
def execSnapshotRead (target : BitVec 7) (starts : Bool) (count : Nat) (ends : Bool) (s : State) : Result :=
  if s.silent then .next s
  else if starts && !s.isTarget target then .next s.endRead
  else .next (s.hostRead starts count ends)

/-- REGISTER_WRITE (R172, R173): a write transaction. A START with another address ends the port's own transaction. -/
def execRegisterWrite (target : BitVec 7) (bytes : List Byte) (s : State) : Result :=
  if s.silent then .next s
  else if s.isTarget target then .next (s.hostWrite bytes)
  else .next s.endRead

end Sys2Proof.Machine
end

