-- ==== Sys2Proof/Machine/Dispatch.lean ====
section
/-!
DEFINITION. The meaning of each command: one arm per row of spec/opcode_table.json.
-/

namespace Sys2Proof.Machine

open Sys2Proof

def exec (i : Instr) (s : State) : Host.Outcome State Fault Refusal :=
  match i with
  | .powerOn => Sys2Proof.Machine.execPowerOn s
  | .powerOnLoad => Sys2Proof.Machine.execPowerOnLoad s
  | .openRecord lane bytes => Sys2Proof.Machine.execOpenRecord lane bytes s
  | .packetRecord lane bytes => Sys2Proof.Machine.execPacketRecord lane bytes s
  | .closeRecord lane bytes => Sys2Proof.Machine.execCloseRecord lane bytes s
  | .laneResetRecord lane bytes => Sys2Proof.Machine.execLaneResetRecord lane bytes s
  | .noticeSendBegin lane ready => Sys2Proof.Machine.execNoticeSendBegin lane ready s
  | .noticeSendComplete lane => Sys2Proof.Machine.execNoticeSendComplete lane s
  | .creditTimerExpiry lane => Sys2Proof.Machine.execCreditTimerExpiry lane s
  | .creditBatch lane => Sys2Proof.Machine.execCreditBatch lane s
  | .armingExpiry slot => Sys2Proof.Machine.execArmingExpiry slot s
  | .eligibilityInstant slot => Sys2Proof.Machine.execEligibilityInstant slot s
  | .discardExpiry slot => Sys2Proof.Machine.execDiscardExpiry slot s
  | .frameClose slot => Sys2Proof.Machine.execFrameClose slot s
  | .endOfService => Sys2Proof.Machine.execEndOfService s
  | .statusFrame path bytes => Sys2Proof.Machine.execStatusFrame path bytes s
  | .silenceExpiry path => Sys2Proof.Machine.execSilenceExpiry path s
  | .holdoffExpiry path => Sys2Proof.Machine.execHoldoffExpiry path s
  | .repeatTimerExpiry path => Sys2Proof.Machine.execRepeatTimerExpiry path s
  | .lineFrameEnd path => Sys2Proof.Machine.execLineFrameEnd path s
  | .modulePoll path => Sys2Proof.Machine.execModulePoll path s
  | .moduleReadAnswer path indicator => Sys2Proof.Machine.execModuleReadAnswer path indicator s
  | .moduleSettingsAnswer path => Sys2Proof.Machine.execModuleSettingsAnswer path s
  | .moduleClearAnswer path => Sys2Proof.Machine.execModuleClearAnswer path s
  | .pollUnanswered path => Sys2Proof.Machine.execPollUnanswered path s
  | .referencePulse => Sys2Proof.Machine.execReferencePulse s
  | .pulseMissExpiry => Sys2Proof.Machine.execPulseMissExpiry s
  | .trimAdjustment => Sys2Proof.Machine.execTrimAdjustment s
  | .slewAdjustment => Sys2Proof.Machine.execSlewAdjustment s
  | .secondMarker => Sys2Proof.Machine.execSecondMarker s
  | .patternGeneration => Sys2Proof.Machine.execPatternGeneration s
  | .clear => Sys2Proof.Machine.execClear s
  | .store => Sys2Proof.Machine.execStore s
  | .storeEnd readsBack => Sys2Proof.Machine.execStoreEnd readsBack s
  | .recall => Sys2Proof.Machine.execRecall s
  | .recallEnd => Sys2Proof.Machine.execRecallEnd s
  | .pathEnable => Sys2Proof.Machine.execPathEnable s
  | .pathDisable => Sys2Proof.Machine.execPathDisable s
  | .pathRestart => Sys2Proof.Machine.execPathRestart s
  | .streamHold => Sys2Proof.Machine.execStreamHold s
  | .streamUnhold => Sys2Proof.Machine.execStreamUnhold s
  | .streamClose => Sys2Proof.Machine.execStreamClose s
  | .setLowest => Sys2Proof.Machine.execSetLowest s
  | .rotationMode => Sys2Proof.Machine.execRotationMode s
  | .laneResetCommand => Sys2Proof.Machine.execLaneResetCommand s
  | .patternOpen => Sys2Proof.Machine.execPatternOpen s
  | .patternClose => Sys2Proof.Machine.execPatternClose s
  | .badCommand code => Sys2Proof.Machine.execBadCommand code s
  | .pathRateWrite v => Sys2Proof.Machine.execPathRateWrite v s
  | .reserveWrite v => Sys2Proof.Machine.execReserveWrite v s
  | .quotaWrite account v => Sys2Proof.Machine.execQuotaWrite account v s
  | .catchUpTableWrite index v => Sys2Proof.Machine.execCatchUpTableWrite index v s
  | .idleLimitWrite v => Sys2Proof.Machine.execIdleLimitWrite v s
  | .urgentThresholdWrite v => Sys2Proof.Machine.execUrgentThresholdWrite v s
  | .pulseSecondWrite v => Sys2Proof.Machine.execPulseSecondWrite v s
  | .stepEnableWrite v => Sys2Proof.Machine.execStepEnableWrite v s
  | .pathParameterWrite path p => Sys2Proof.Machine.execPathParameterWrite path p s
  | .repeatParameterWrite p => Sys2Proof.Machine.execRepeatParameterWrite p s
  | .counterSelectorWrite page v => Sys2Proof.Machine.execCounterSelectorWrite page v s
  | .causeClearWrite v => Sys2Proof.Machine.execCauseClearWrite v s
  | .maskWrite v => Sys2Proof.Machine.execMaskWrite v s
  | .pageExtensionWrite v => Sys2Proof.Machine.execPageExtensionWrite v s
  | .patternMemoryWrite v => Sys2Proof.Machine.execPatternMemoryWrite v s
  | .snapshotRead target starts count ends => Sys2Proof.Machine.execSnapshotRead target starts count ends s
  | .registerWrite target bytes => Sys2Proof.Machine.execRegisterWrite target bytes s
  | .powerFail => Sys2Proof.Machine.execPowerFail s

end Sys2Proof.Machine
end

