-- ==== Sys2Proof/Machine/Tick.lean ====
section
/-!
DEFINITION. What the part does when no command waits: it queues an event of its own that is due, or one nanosecond of
local elapsed time passes (log entries 1 and 2).
-/

namespace Sys2Proof.Machine

open Sys2Proof

/-- Keep a command if it is due. -/
def ifDue (due : Bool) (c : Instr) : List Instr := if due then [c] else []

/-- Both paths. -/
def allPaths : List PathId := [.a, .b]

/-- Due events of a slot (R7, R31, R34, R45). -/
def State.slotDue (s : State) (i : Fin 16) : List Instr :=
  ifDue (s.armingPassed i) (.armingExpiry i) ++ ifDue (s.isDue i && !s.due[i]) (.eligibilityInstant i)
    ++ ifDue (s.discardPassed i) (.discardExpiry i) ++ ifDue (s.closePassed i) (.frameClose i)

/-- Due events of a lane (R69, R72). -/
def State.laneDue (s : State) (l : Fin 4) : List Instr :=
  ifDue (s.sendDue l) (.noticeSendBegin l none) ++ ifDue (s.sendOver l) (.noticeSendComplete l)
    ++ ifDue (s.creditTimerDue l) (.creditTimerExpiry l) ++ ifDue (s.batchDue l) (.creditBatch l)

/-- Due events of a path (R109, R119, R122, R126, R127, R143). -/
def State.pathDue (s : State) (p : PathId) : List Instr :=
  let x := s.path p
  ifDue (s.expired x.silence) (.silenceExpiry p) ++ ifDue (s.expired x.holdoff) (.holdoffExpiry p)
    ++ ifDue (s.expired x.repeatTimer) (.repeatTimerExpiry p) ++ ifDue (s.expired x.line.endsAt) (.lineFrameEnd p)
    ++ ifDue (decide (x.nextPoll ≤ s.elapsed) && decide (x.poll = .idle)) (.modulePoll p)
    ++ ifDue (s.expired x.poll.waitsUntil) (.pollUnanswered p)

/-- Due events of House Time, of the launcher and of the Pattern Source. -/
def State.houseDue (s : State) : List Instr :=
  ifDue s.missDue .pulseMissExpiry ++ ifDue s.trimDue .trimAdjustment ++ ifDue s.slewDue .slewAdjustment
    ++ ifDue (!s.house.markers.isEmpty) .secondMarker ++ ifDue s.serviceOver .endOfService
    ++ ifDue s.canGenerate .patternGeneration

/-- The silences of the port that have reached their bound (R176, R177, R179; log entry 8). DESIGN CHOICE (log entry 48):
the bounds are measured in local elapsed time. -/
def State.portDue (s : State) : List Instr :=
  match s.power, s.port.busy with
  | .loading, _ => ifDue (decide (Config.loadBound ≤ s.elapsed)) .powerOnLoad
  | .on, some (.store _ since) =>
    ifDue (decide (since + Config.storeBound ≤ s.elapsed)) (.storeEnd (Config.storeReadBack s.freeCount))
  | .on, some (.recall since) => ifDue (decide (since + Config.recallBound ≤ s.elapsed)) .recallEnd
  | _, _ => []

/-- Every event of the part's own that is due. -/
def State.dueEvents (s : State) : List Instr :=
  allSlots.flatMap s.slotDue ++ allLanes.flatMap s.laneDue ++ allPaths.flatMap s.pathDue ++ s.houseDue ++ s.portDue

/-- Step on an empty queue: without power nothing; with no event due, one nanosecond; else one due event is queued,
the choice among several a free value. -/
def State.tick (s : State) : State :=
  if s.power = .off then s
  else
    match s.dueEvents with
    | [] => passNanosecond s
    | [c] => { s with pending := [c], freeCount := s.freeCount + 1 }
    | c :: cs =>
      { s with
        pending := ((c :: cs)[Config.eventChoice s.freeCount % (c :: cs).length]?).toList
        freeCount := s.freeCount + 1 }

end Sys2Proof.Machine
end

