-- ==== Sys2Proof/Safety.lean ====
section
/-!
DEFINITION. The terms claims are made in: when the port takes a transaction and what it then holds, when a record is
taken, and the invariants of the part.
-/

namespace Sys2Proof.Machine

open Sys2Proof

/-! ## The port before and after a transaction -/

/-- The port acknowledges its address, and a page byte names a page below 256 (R172). -/
abbrev State.hostReady (s : State) : Prop := s.power = .on ∧ s.port.busy = none ∧ s.port.extension = false

/-- The port after a write transaction that leaves the pointer at a page and an offset. -/
def Port.wrote (q : Port) (page offset : Nat) : Port := { q with page := page, offset := offset, reading := none }

/-- The port after a write of a parameter row whose items were all taken (R173). -/
def Port.tookWrite (q : Port) (page offset : Nat) : Port :=
  { q.wrote page offset with writeStatus := .done, writeRefusal := none }

/-- The port after a write of a parameter row with a refused item (R173). -/
def Port.refusedWrite (q : Port) (page offset : Nat) (e : RefusalCode) : Port :=
  { q.wrote page offset with writeStatus := .refused, writeRefusal := some e }

/-- The port after a command that is DONE (R175). -/
def Port.answered (q : Port) (code : Byte) : Port := { q.wrote 1 1 with result := ⟨.done, none, code, none⟩ }

/-- The port after a command that is REFUSED (R175). -/
def Port.refusedCommand (q : Port) (code : Byte) (e : RefusalCode) : Port :=
  { q.wrote 1 1 with result := ⟨.refused, some e, code, none⟩ }

/-- The one-byte argument names slot `i`. -/
abbrev State.argIs (s : State) (n : Nat) : Prop := s.argByte = n

/-! ## Records -/

/-- A record of this sequence is taken in order: the expectation is unset or equals it (R62). -/
abbrev State.inOrder (s : State) (l : Fin 4) (seq : LaneSeq) : Prop :=
  (s.lane l).expectation = none ∨ (s.lane l).expectation = some seq

/-- A taken PACKET passes steps 1 to 6 of R65: it takes free entry `n`, with full frame number `f`; and enough cells
are free for it (R90). -/
abbrev State.packetPasses (s : State) (l : Fin 4) (i : Fin 16) (p : PacketRecord) (n f : Nat) : Prop :=
  (s.slot i).state.takesPackets = true ∧ (s.slot i).owner = .lane l ∧ (s.slot i).tag = p.tag
    ∧ p.payload.length ≤ (s.slot i).s
    ∧ cellsFor p.payload.length ≤ (s.lane l).account.outstanding
    ∧ s.freeEntry = some n
    ∧ (s.slot i).queue.length < Config.queueLimit
    ∧ (f : Int) = extendFrame (s.slot i).fc p.frameField
    ∧ (s.slot i).fc ≤ f ∧ f ≤ (s.slot i).fc + 3 ∧ p.index < (s.slot i).k
    ∧ afterLast (s.slot i).intake.lastAccepted f p.index = true
    ∧ cellsFor p.payload.length ≤ s.freeCells

/-! ## Frames -/

/-- Nothing but the active counter bank differs. -/
def State.sameButCounters (s t : State) : Prop := t = { s with active := t.active }

/-- No slot context but slot `i`'s differs. -/
def State.otherSlotsSame (s t : State) (i : Fin 16) : Prop := ∀ j : Fin 16, j ≠ i → t.slot j = s.slot j

/-- The stored parameters, House Time, the pattern memory, the store and the power are the same. -/
def State.sameSetting (s t : State) : Prop :=
  t.params = s.params ∧ t.house = s.house ∧ t.patternMem = s.patternMem ∧ t.store = s.store ∧ t.power = s.power
    ∧ t.elapsed = s.elapsed

/-- The entry carries the QUEUED holder alone. -/
abbrev Entry.queuedOnly (e : Entry) : Prop := e.holders = Holders.nobody.put .queued true

/-- What a closure of the stream of slot `i` with reason `r` leaves of the Stream Table and the arbiter (R11): the
context, the loads, the due and hold sets, nothing else of theirs; no entry outside its queue is touched. -/
def State.closedAs (s t : State) (i : Fin 16) (r : ClosureReason) : Prop :=
  t.slot i =
    { s.slot i with
      state := .free, lastReason := some r, loadA := 0, loadB := 0, idle := 0, queue := [],
      intake := ⟨none, false, false, false⟩ }
    ∧ s.otherSlotsSame t i
    ∧ t.sumA = s.sumA - (s.slot i).loadA ∧ t.sumB = s.sumB - (s.slot i).loadB
    ∧ t.due = s.due.set i false ∧ t.held = s.held.set i false
    ∧ t.launcher = s.launcher ∧ t.ring = s.ring ∧ t.ringMode = s.ringMode
    ∧ t.pathA = s.pathA ∧ t.pathB = s.pathB ∧ t.cellMem = s.cellMem ∧ s.sameSetting t
    ∧ (∀ e ∈ s.entries, e.number ∉ (s.slot i).queue → e ∈ t.entries)

/-- The queued entries of slot `i` that nothing else holds are freed (R11, R100). -/
def State.queueFreed (s t : State) (i : Fin 16) : Prop :=
  ∀ e ∈ s.entries, e.number ∈ (s.slot i).queue → e.queuedOnly → ∀ x ∈ t.entries, x.number ≠ e.number

/-- The stream of slot `i`, DRAINING, has closed with reason DRAINED as its queue became empty (R11, R14): the context FREE,
its loads off the sums, out of the due and the hold set, CLOSED queued on an owner lane, STREAM_CLOSED latched. -/
def State.drainedAt (s t : State) (i : Fin 16) : Prop :=
  (t.slot i).state = .free ∧ (t.slot i).lastReason = some .drained ∧ (t.slot i).queue = [] ∧ (t.slot i).loadA = 0
    ∧ (t.slot i).loadB = 0 ∧ (t.slot i).idle = 0 ∧ (t.slot i).intake = ⟨none, false, false, false⟩
    ∧ t.sumA = s.sumA - (s.slot i).loadA ∧ t.sumB = s.sumB - (s.slot i).loadB ∧ t.due[i] = false
    ∧ t.held = s.held.set i false
    ∧ (∀ l : Fin 4, (s.slot i).owner = .lane l →
        (t.lane l).queue = (s.lane l).queue ++ [.closed (s.slot i).tag i .drained])
    ∧ t.port.causes = s.port.causes ||| 0x01 ∧ t.port.slotDetail = s.port.slotDetail ||| (1#16 <<< i.val)

/-- An owner lane of slot `i` has room for a CLOSED notice (R71). -/
abbrev State.closedFits (s : State) (i : Fin 16) : Prop :=
  ∀ l : Fin 4, (s.slot i).owner = .lane l → (s.lane l).queue.length < 32

/-- These entries stand live, QUEUED alone and of frame `f`. -/
abbrev State.waitIn (s : State) (gone : List Entry) (f : Nat) : Prop :=
  ∀ e ∈ gone, s.entry? e.number = some e ∧ e.queuedOnly ∧ e.frame = f

/-- These entries are freed, and the entries outside a queue stay as they are (R100). -/
def State.freedOf (s t : State) (gone : List Entry) (queue : List Nat) : Prop :=
  (∀ e ∈ gone, ∀ x ∈ t.entries, x.number ≠ e.number) ∧ ∀ e ∈ s.entries, e.number ∉ queue → e ∈ t.entries

/-- The item of `n` bytes at an offset of a page, least significant byte first (R174). -/
def State.pageItem (s : State) (page off n : Nat) : Nat := field ((List.range n).map fun k => s.pageByte page (off + k)) 0 n

/-- The values of a row of a page (R174). -/
def State.rowNow (s : State) (page row : Nat) : List Byte := (List.range 16).map fun k => s.pageByte page (row * 16 + k)

/-- A path that has entered FAILED for a reason (R121 steps 1 to 6). -/
def Path.failedFrom (x y : Path) (r : FailReason) (holdoff : Option Nat) : Prop :=
  y =
    { x with
      state := .failed, failure := some r, window := [], backlog := [], ackThrough := x.nextSeq - 1,
      sentThrough := x.nextSeq - 1, silence := none, repeatTimer := none, line := .fill, holdoff := holdoff }

/-- The holdoff a path starts on entry into FAILED: with a holdoff above 0 and the module present (R121 step 6). -/
def State.failHoldoff (s : State) (p : PathId) : Option Nat :=
  if 0 < (s.params.path p).holdoff ∧ (s.path p).moduleAbsent = false then
    some (s.elapsed + (s.params.path p).holdoff * 1000000)
  else none

/-- A counter of a path in the active bank. -/
def State.pathCount (s : State) (p : PathId) (c : PathCounter) : Nat :=
  match p with
  | .a => s.active.pathA[c.pos]
  | .b => s.active.pathB[c.pos]

/-- A counter of a slot in the active bank. -/
def State.slotCount (s : State) (i : Fin 16) (c : SlotCounter) : Nat := (s.active.slots[i])[c.pos]

/-- A counter of the part in the active bank. -/
def State.partCount (s : State) (c : PartCounter) : Nat := s.active.part[c.pos]

/-- A path in use that takes a good STATUS whose acknowledgement retires its first `k` window places, but for the frame on
its line: the latest status and the report reference follow, and the silence timer starts again (R117 to R119). -/
def Path.heard (x : Path) (t : StatusRecord) (k silence : Nat) : Path :=
  { x with
    window := x.window.drop k, ackThrough := t.ack, latest := some t, reportRef := some t.counter,
    silence := some silence }

/-- The backlog places that the window has room for (R108, R113). -/
def Path.draining (x : Path) : List BacklogPlace := x.backlog.take (1024 - x.window.length)

/-- A path whose backlog has drained into its window: oldest first, each place with the next sequence and repeat count 0
(R113). -/
def Path.drained (x : Path) : Path :=
  { x with
    window := x.window ++ x.draining.mapIdx fun j b => ⟨b.entry, x.nextSeq + BitVec.ofNat 32 j, b.tag, 0⟩
    backlog := x.backlog.drop (1024 - x.window.length)
    nextSeq := x.nextSeq + BitVec.ofNat 32 x.draining.length }

/-- An entry after these backlog places of path `p` have moved: BACKLOG becomes WINDOW where it stood in one (R98). -/
def Entry.movedBy (e : Entry) (p : PathId) (moved : List BacklogPlace) : Entry :=
  if e.number ∈ moved.map (fun b => b.entry) then
    { e with holders := (e.holders.put (.backlog p) false).put (.window p) true }
  else e

/-- The fan-out set of one path. -/
def PathSet.only : PathId → PathSet
  | .a => ⟨true, false⟩
  | .b => ⟨false, true⟩

/-- The other path sender. -/
def otherPath : PathId → PathId
  | .a => .b
  | .b => .a

/-- A failure of path `p` leaves the Stream Table, the queues, the launcher, the lanes' notice queues and the other
path sender as they are (R121, R9, R43, R44). -/
def State.streamsSame (s t : State) (p : PathId) : Prop :=
  t.slots = s.slots ∧ t.sumA = s.sumA ∧ t.sumB = s.sumB ∧ t.due = s.due ∧ t.held = s.held ∧ t.ring = s.ring
    ∧ t.launcher = s.launcher ∧ t.path (otherPath p) = s.path (otherPath p) ∧ t.cellMem = s.cellMem ∧ s.sameSetting t
    ∧ ∀ l : Fin 4, (t.lane l).queue = (s.lane l).queue

/-! ## Invariants -/

/-- Cell memory and pattern memory are in canonical form. -/
abbrev State.memoriesCanonical (s : State) : Prop := memWf s.cellMem = true ∧ memWf s.patternMem = true

/-- The priority ring holds each slot exactly once (3.1). -/
abbrev State.ringWhole (s : State) : Prop := s.ring.length = 16 ∧ s.ring.Nodup

/-- Every notice queue holds at most 32 notices (R71). -/
abbrev State.noticesBounded (s : State) : Prop := ∀ l : Fin 4, (s.lane l).queue.length ≤ Config.noticeLimit

/-- Every window holds at most 1,024 places and every backlog at most 256 (R108, R112). -/
abbrev State.pathsBounded (s : State) : Prop :=
  ∀ p : PathId, (s.path p).window.length ≤ Config.windowLimit ∧ (s.path p).backlog.length ≤ Config.backlogLimit

/-- The trim is within ±200,000 ppb (R149). -/
abbrev State.trimBounded (s : State) : Prop := -Config.trimMax ≤ s.house.trim ∧ s.house.trim ≤ Config.trimMax

/-- No held slot is in the due set (R45, R46). -/
abbrev State.heldNotDue (s : State) : Prop := ∀ i : Fin 16, s.held[i] = true → s.due[i] = false

/-- Every counter of a bank is at most 4,294,967,295 (R182). -/
def Bank.bounded (b : Bank) : Prop :=
  (∀ (i : Fin 16) (c : Fin 17), (b.slots[i])[c] ≤ Config.counterMax)
    ∧ (∀ (l : Fin 4) (c : Fin 14), (b.lanes[l])[c] ≤ Config.counterMax)
    ∧ (∀ c : Fin 18, b.pathA[c] ≤ Config.counterMax) ∧ (∀ c : Fin 18, b.pathB[c] ≤ Config.counterMax)
    ∧ (∀ c : Fin 19, b.part[c] ≤ Config.counterMax)

/-- Both banks are bounded. -/
def State.countersBounded (s : State) : Prop := s.active.bounded ∧ s.frozen.bounded

/-- Live entries stand in strictly rising number, each below 8,192 (R91). -/
abbrev State.entriesRising (s : State) : Prop :=
  (s.entries.map fun e => e.number).Pairwise (· < ·) ∧ ∀ e ∈ s.entries, e.number < Config.entryCount

/-- The credit law of a lane account: outstanding, pending and held cells make the quota (R68). -/
abbrev State.creditLaw (s : State) (l : Fin 4) : Prop :=
  (s.lane l).account.outstanding + (s.lane l).account.pending + s.heldBy (.lane l) = s.params.laneQuota[l]

/-- The law of the PATTERN account: outstanding and held cells make the quota (R170). -/
abbrev State.patternLaw (s : State) : Prop := s.pattern.outstanding + s.heldBy .pattern = s.params.patternQuota

/-- The accounts are sound: numbers rise; before the part is up nothing is live and no pattern stream is open; once it
is up, every lane account keeps the credit law and the PATTERN account its own. An open stream has a payload limit of
64 bytes at least (R3). -/
def State.accountsSound (s : State) : Prop :=
  s.entriesRising ∧ (s.power ≠ .on → s.entries = [] ∧ s.pattern.slot = none ∧ ∀ i : Fin 16, (s.slot i).state = .free)
    ∧ (s.power = .on → (∀ l : Fin 4, s.creditLaw l) ∧ s.patternLaw)
    ∧ ∀ i : Fin 16, (s.slot i).state ≠ .free → 64 ≤ (s.slot i).s

/-- The admission law: each path sum is the sum of the loads of the open slots on it, within 1,000 less the reserve; a
FREE slot has no load (R9, R11). Before the part is up every slot is FREE. -/
def State.sumsSound (s : State) : Prop :=
  s.sumA = (s.slots.toList.map fun t => t.loadA).sum ∧ s.sumB = (s.slots.toList.map fun t => t.loadB).sum
    ∧ s.sumA ≤ 1000 - s.params.reserve ∧ s.sumB ≤ 1000 - s.params.reserve
    ∧ (∀ i : Fin 16, (s.slot i).state = .free → (s.slot i).loadA = 0 ∧ (s.slot i).loadB = 0)
    ∧ (s.power ≠ .on → ∀ i : Fin 16, (s.slot i).state = .free)

/-! ## Stored parameters -/

/-- The parameters of a path lie in the ranges of R178. -/
def PathParams.inRange (q : PathParams) : Prop :=
  100 ≤ q.silenceTime ∧ q.silenceTime ≤ 10000 ∧ q.holdoff ≤ 1000 ∧ 1 ≤ q.nGood ∧ q.nGood ≤ 15

/-- The stored parameters lie in the ranges of R178. -/
def Params.inRange (q : Params) : Prop :=
  (q.rate = 10 ∨ q.rate = 25 ∨ q.rate = 100) ∧ q.reserve ≤ 300 ∧ q.idleLimit ≤ 255 ∧ q.urgent ≤ 32
    ∧ 50 ≤ q.repeatTime ∧ q.repeatTime ≤ 5000 ∧ 4 ≤ q.nMark ∧ q.nMark ≤ 63 ∧ 1 ≤ q.attemptLimit ∧ q.attemptLimit ≤ 15
    ∧ (∀ k : Fin 32, q.catchUp[k] ≤ 3) ∧ (∀ l : Fin 4, q.laneQuota[l] ≤ 16384) ∧ q.patternQuota ≤ 16384
    ∧ q.pathA.inRange ∧ q.pathB.inRange

end Sys2Proof.Machine
end

