-- ==== Sys2Proof/WellFormed.lean ====
section
/-!
DEFINITION. Which commands are events of the part: a record command carries a record of its own kind or one whose kind
is not listed, and BAD_COMMAND carries an unknown code (log entry 15).
-/

namespace Sys2Proof

open Sys2Proof.Machine

/-- The listed kinds of records (R186). -/
def recordKinds : List Byte := [kindOpen, kindPacket, kindClose, kindLaneReset]

/-- The record's kind byte is `kind`, or no listed kind (then its form check fails whichever command brings it, R61). -/
def ownKind (kind : Byte) (bytes : List Byte) : Bool :=
  decide (recordKind bytes = kind) || !recordKinds.contains (recordKind bytes)

/-- The command is an event that can reach the part. -/
def Instr.wellFormed : Instr → Bool
  | .openRecord _ bytes => ownKind kindOpen bytes
  | .packetRecord _ bytes => ownKind kindPacket bytes
  | .closeRecord _ bytes => ownKind kindClose bytes
  | .laneResetRecord _ bytes => ownKind kindLaneReset bytes
  | .badCommand code => unknownCode code
  | .powerOn | .powerOnLoad | .noticeSendBegin .. | .noticeSendComplete _ | .creditTimerExpiry _ | .creditBatch _
  | .armingExpiry _ | .eligibilityInstant _ | .discardExpiry _ | .frameClose _ | .endOfService | .statusFrame ..
  | .silenceExpiry _ | .holdoffExpiry _ | .repeatTimerExpiry _ | .lineFrameEnd _ | .modulePoll _
  | .moduleReadAnswer .. | .moduleSettingsAnswer _ | .moduleClearAnswer _ | .pollUnanswered _ | .referencePulse
  | .pulseMissExpiry | .trimAdjustment | .slewAdjustment | .secondMarker | .patternGeneration | .clear | .store
  | .storeEnd _ | .recall | .recallEnd | .pathEnable | .pathDisable | .pathRestart | .streamHold | .streamUnhold
  | .streamClose | .setLowest | .rotationMode | .laneResetCommand | .patternOpen | .patternClose | .pathRateWrite _
  | .reserveWrite _ | .quotaWrite .. | .catchUpTableWrite .. | .idleLimitWrite _ | .urgentThresholdWrite _
  | .pulseSecondWrite _ | .stepEnableWrite _ | .pathParameterWrite .. | .repeatParameterWrite _
  | .counterSelectorWrite .. | .causeClearWrite _ | .maskWrite _ | .pageExtensionWrite _ | .patternMemoryWrite _
  | .snapshotRead .. | .registerWrite .. | .powerFail => true

end Sys2Proof
end

