-- ==== Sys2Proof/Certificates/Slice0/Obligations.lean ====
section
/-!
DEFINITION. The statements for the provers, by block. Where a statement rests on a choice of the model, its docstring
names the log entry.
-/

open Sys2Proof Sys2Proof.Machine

/-! ## The step and the whole machine -/

/-- A step takes the command at the front of the queue, with the queue's rest behind it. -/
def Obligations.StepTakesTheFrontCommand : Prop :=
  ∀ (c : Instr) (s : State) (rest : List Instr), s.pending = c :: rest → step s = exec c { s with pending := rest }

/-- With nothing queued and nothing due, one nanosecond passes: elapsed time by one, house time by one or, for a −1
adjustment, not at all; a marker is raised when a whole second is reached (R148, R160; the tick is log entry 1, the time
bases of what is due log entries 11, 12 and 48). -/
def Obligations.IdleStepPassesOneNanosecond : Prop :=
  ∀ s : State, s.pending = [] → s.power ≠ .off → s.dueEvents = [] → s.house.time + 1 < 2 ^ 64 →
    ∃ t, step s = .next t ∧ t.elapsed = s.elapsed + 1
      ∧ t = { s with elapsed := t.elapsed, house := t.house }
      ∧ (0 < s.house.withheld → t.house = { s.house with withheld := s.house.withheld - 1 })
      ∧ (s.house.withheld = 0 →
          t.house.time = s.house.time + 1
            ∧ t.house.markers =
                (if (s.house.time + 1) % 1000000000 = 0 then s.house.markers ++ [(s.house.time + 1) / 1000000000]
                  else s.house.markers)
            ∧ t.house = { s.house with time := t.house.time, markers := t.house.markers })

/-- A command acts on everything but the queue. The machine stops only where a packet finds fewer free cells than it
needs (log entry 29), and refuses nothing. -/
def Obligations.ExecLeavesTheQueueAndStopsOnlyWithoutCells : Prop :=
  (∀ (c : Instr) (s t : State), exec c s = .next t → t.pending = s.pending)
    ∧ (∀ (c : Instr) (s : State),
         (∀ r, exec c s ≠ .refused r)
           ∧ ((∀ l b, c ≠ .packetRecord l b) → c ≠ .patternGeneration → ∃ t, exec c s = .next t))
    ∧ (∀ (l : Fin 4) (bytes : List Byte) (s : State) (f : Fault), exec (.packetRecord l bytes) s = .fault f →
         s.freeCells < cellsFor (parsePacket bytes).payload.length)
    ∧ (∀ (s : State) (f : Fault), exec .patternGeneration s = .fault f →
         ∃ i, s.pattern.slot = some i ∧ s.freeCells < cellsFor (max 6 (s.slot i).s))

/-! ## Invariants of every step -/

/-- Every step keeps both memories in canonical form. -/
def Obligations.StepKeepsMemoriesCanonical : Prop :=
  ∀ s t : State, s.memoriesCanonical → step s = .next t → t.memoriesCanonical

/-- Every step keeps each slot on the ring exactly once (3.1). -/
def Obligations.StepKeepsRingWhole : Prop :=
  ∀ s t : State, s.ringWhole → step s = .next t → t.ringWhole

/-- Every step keeps each notice queue within 32 notices (R71), and each window within 1,024 places and each backlog
within 256 (R108, R112). -/
def Obligations.StepKeepsQueuesBounded : Prop :=
  (∀ s t : State, s.noticesBounded → step s = .next t → t.noticesBounded)
    ∧ (∀ s t : State, s.pathsBounded → step s = .next t → t.pathsBounded)

/-- No step puts a held slot in the due set (R45, R46). -/
def Obligations.StepKeepsHeldSlotsOutOfDueSet : Prop :=
  ∀ s t : State, s.heldNotDue → step s = .next t → t.heldNotDue

/-- Every step keeps every counter of both banks at or below 4,294,967,295 (R182), and the trim within ±200,000 ppb
(R149). -/
def Obligations.StepKeepsCountersAndTrimBounded : Prop :=
  (∀ s t : State, s.countersBounded → step s = .next t → t.countersBounded)
    ∧ (∀ s t : State, s.trimBounded → step s = .next t → t.trimBounded)

/-- Every step keeps the accounts' laws: for each lane account outstanding credits, pending credit and held cells make the
quota (R68); for PATTERN outstanding credits and held cells make the quota (R170). Every step keeps the admission law: the
path sums are the sums of the loads of the open slots, within 1,000 less the reserve (R9). -/
def Obligations.StepKeepsTheCreditLaw : Prop :=
  (∀ s t : State, s.accountsSound → step s = .next t → t.accountsSound)
    ∧ (∀ s t : State, s.sumsSound → step s = .next t → t.sumsSound)

/-- The state after power-on meets every invariant. -/
def Obligations.ResetMeetsTheInvariants : Prop :=
  State.reset.memoriesCanonical ∧ State.reset.ringWhole ∧ State.reset.noticesBounded ∧ State.reset.pathsBounded
    ∧ State.reset.trimBounded ∧ State.reset.heldNotDue ∧ State.reset.countersBounded ∧ State.reset.accountsSound
    ∧ State.reset.sumsSound

/-! ## Power -/

/-- The power-on values that the spec gives (R1, R44, R77, R102, R107, R132, R148, R172, R175, R179, R182, 10.3). That a
slot shows lane 0 and the empty path set for the zeros of R1 is log entry 33; the path states and the accounts before
the load are log entry 4 and stated nowhere here. -/
def Obligations.ResetHoldsThePowerOnValues : Prop :=
  let s := State.reset
  let zero (b : Bank) : Prop :=
    (∀ (i : Fin 16) (k : Fin 17), (b.slots[i])[k] = 0) ∧ (∀ (l : Fin 4) (k : Fin 14), (b.lanes[l])[k] = 0)
      ∧ (∀ k : Fin 18, b.pathA[k] = 0 ∧ b.pathB[k] = 0) ∧ ∀ k : Fin 19, b.part[k] = 0
  (∀ i : Fin 16, s.due[i] = false ∧ s.held[i] = false)
    ∧ (∀ i : Fin 16,
        s.slot i =
          { state := .free, owner := .lane 0, tag := 0, pathSet := ⟨false, false⟩, n := 0, d := 0, lt := 0, la := 0,
            lf := 0, k := 0, s := 0, h := 0, delta := 0, nn := 0, dd := 0, q := 0, r := 0, o := 0, fs := 0, fc := 0,
            requestedStart := none, patternRegion := none, stepIndex := 0, stepOffset := 0, stepRemainder := 0,
            head := none, aPrev := 0, lambdaPrev := 0, indexPrev := 0, codePrev := 0, sameFrame := false, loadA := 0,
            loadB := 0, idle := 0, released := 0, late := 0, discarded := 0, arrived := 0,
            lastFrame := ⟨0, 0, 0, 0, 0, 0⟩, lastReason := none, intake := ⟨none, false, false, false⟩, queue := [] })
    ∧ s.sumA = 0 ∧ s.sumB = 0
    ∧ s.ring = [0, 1, 2, 3, 4, 5, 6, 7, 8, 9, 10, 11, 12, 13, 14, 15] ∧ s.ringMode = .auto
    ∧ s.launcher = none ∧ s.entries = [] ∧ s.freeEntry = some 0 ∧ s.freeCells = 16384
    ∧ (∀ l : Fin 4, (s.lane l).queue = [] ∧ (s.lane l).expectation = none ∧ (s.lane l).sending = none
        ∧ (s.lane l).lastFault = none ∧ (s.lane l).account.pending = 0)
    ∧ (∀ p : PathId, (s.path p).nextSeq = 1 ∧ (s.path p).ackThrough = 0 ∧ (s.path p).sentThrough = 0
        ∧ (s.path p).window = [] ∧ (s.path p).backlog = [] ∧ (s.path p).latest = none ∧ (s.path p).reportRef = none
        ∧ (s.path p).failure = none ∧ (s.path p).goodRun = 0 ∧ (s.path p).markOrdinal = 0
        ∧ (s.path p).silence = none ∧ (s.path p).holdoff = none ∧ (s.path p).unanswered = 0
        ∧ (s.path p).moduleAbsent = false ∧ (s.path p).lastIndicator = false ∧ (s.path p).nextPoll = 100000000
        ∧ (s.path p).repeatTimer = none ∧ (s.path p).attempts = 0 ∧ (s.path p).burstOrdinal = 0
        ∧ (s.path p).replayEnd = 0 ∧ (s.path p).replayCursor = 0)
    ∧ s.house.time = 0 ∧ s.house.lock = .freeRun ∧ s.house.trim = 0 ∧ s.house.slew = .none
    ∧ s.house.pulseSecond = 0 ∧ s.house.labelWritten = false ∧ s.house.bigErrors = 0 ∧ s.house.misses = 0
    ∧ s.house.missExpiry = none ∧ s.house.lastPulse = none ∧ s.house.lastStep = none
    ∧ s.pattern.slot = none ∧ s.pattern.nextFrame = 0 ∧ s.pattern.nextIndex = 0 ∧ s.pauses = ⟨false, false, false, false⟩
    ∧ s.pattern.waitEntry = false ∧ s.pattern.offered = false
    ∧ s.port.page = 0 ∧ s.port.offset = 0 ∧ s.port.extension = false ∧ (∀ k : Fin 39, s.port.args[k] = 0)
    ∧ s.port.causes = 0 ∧ s.port.mask = 0xFF ∧ s.port.slotDetail = 0 ∧ s.port.pathDetail = 0 ∧ s.port.laneDetail = 0
    ∧ s.port.result.status = .none ∧ s.port.writeStatus = .done ∧ s.port.lastLong = none
    ∧ s.port.slotSelector = 0 ∧ s.port.groupSelector = 0
    ∧ zero s.active ∧ zero s.frozen ∧ s.frozenLabel = none

/-- POWER_ON from power off sets every block to its power-on state with the store load begun; the store, the pattern
memory and the cells' bytes stay (R179; what stays of the memories is log entry 6). -/
def Obligations.PowerOnSetsThePowerOnState : Prop :=
  ∀ s : State, s.power = .off → s.port.busy = none →
    exec .powerOn s =
      .next
        { State.reset with
          store := s.store, patternMem := s.patternMem, cellMem := s.cellMem,
          port := { Port.blank with addressPins := s.port.addressPins },
          freeCount := s.freeCount, pending := s.pending }

/-- POWER_ON_LOAD takes the image or the defaults, shows the store state, gives every account its quota, queues LANE
READY alone on each lane, starts each enabled path PROBING, and the part is up (R75, R107, R179). -/
def Obligations.PowerOnLoadBringsThePartUp : Prop :=
  ∀ s : State, s.power = .loading →
    ∃ t, exec .powerOnLoad s = .next t ∧ t.power = .on
      ∧ t.params = (if s.store.valid then s.store.image else Params.default)
      ∧ t.port.storeState = s.store.valid
      ∧ t.port = { s.port with
          storeState := s.store.valid
          causes := if s.store.valid then s.port.causes else s.port.causes ||| 0x80 }
      ∧ (∀ l : Fin 4, (t.lane l).expectation = none ∧ (t.lane l).queue = [.laneReady t.params.laneQuota[l]]
          ∧ (t.lane l).account = ⟨t.params.laneQuota[l], 0, none, false⟩)
      ∧ t.pattern.outstanding = t.params.patternQuota
      ∧ (∀ p : PathId,
          if (t.params.path p).enabled then (t.path p).state = .probing ∧ (t.path p).line ≠ .fill
          else t.path p = s.path p)
      ∧ t.slots = s.slots ∧ t.house = s.house ∧ t.store = s.store ∧ t.entries = s.entries

/-- POWER_FAIL ends power; a STORE in progress leaves an image whose check word fails (R176). Without power only POWER_ON
acts (log entry 9). -/
def Obligations.PowerFailEndsActivity : Prop :=
  (∀ s : State, s.power ≠ .off →
     ∃ t, exec .powerFail s = .next t ∧ t.power = .off ∧ t.port.busy = none
       ∧ (∀ image since, s.port.busy = some (.store image since) →
           t.store = .holding image false ∧ t.store.valid = false)
       ∧ ((∀ image since, s.port.busy ≠ some (.store image since)) → t.store = s.store))
    ∧ (∀ (c : Instr) (s : State), s.power = .off → c ≠ .powerOn → exec c s = .next s)

/-! ## Feed lanes: record checks -/

/-- A record whose form fails is dropped: BAD_RECORD counted, the last fault set, LANE_FAULT latched, nothing else
changed (R61). A record behind the expectation is dropped: only STALE is counted. A record ahead of the expectation is
taken as it would be in order, with SEQ_GAP counted once whatever the number missing (R62). Bytes whose kind byte names
another listed row, which WellFormed refuses, are dropped in the same way: this part of the first clause is not R61 but the
model's choice of log entry 15. -/
def Obligations.RecordOfBadFormOrStaleSequenceIsDropped : Prop :=
  (∀ (s : State) (l : Fin 4) (bytes : List Byte), s.power = .on →
     let dropped : State :=
       { s with
         lanes := s.lanes.set l { s.lane l with lastFault := some .badRecord }
         active := (s.countLane l .badRecord 1).active
         port := { s.port with
           causes := s.port.causes ||| 0x20, laneDetail := s.port.laneDetail ||| (1#4 <<< l.val) } }
     (openForm bytes = false → exec (.openRecord l bytes) s = .next dropped)
       ∧ (packetForm bytes = false → exec (.packetRecord l bytes) s = .next dropped)
       ∧ (closeForm bytes = false → exec (.closeRecord l bytes) s = .next dropped)
       ∧ (laneResetForm bytes = false → exec (.laneResetRecord l bytes) s = .next dropped))
    ∧ (∀ (s : State) (l : Fin 4) (bytes : List Byte) (e : LaneSeq), s.power = .on → (s.lane l).expectation = some e →
         32768 ≤ (recordSeq bytes - e).toNat →
         (openForm bytes = true → exec (.openRecord l bytes) s = .next (s.countLane l .stale 1))
           ∧ (packetForm bytes = true → exec (.packetRecord l bytes) s = .next (s.countLane l .stale 1))
           ∧ (closeForm bytes = true → exec (.closeRecord l bytes) s = .next (s.countLane l .stale 1)))
    ∧ (∀ (s : State) (l : Fin 4) (bytes : List Byte) (e : LaneSeq), s.power = .on → (s.lane l).expectation = some e →
         1 ≤ (recordSeq bytes - e).toNat → (recordSeq bytes - e).toNat ≤ 32767 →
         let counted : State :=
           { s with
             lanes := s.lanes.set l { s.lane l with expectation := some (recordSeq bytes) }
             active := (s.countLane l .seqGap 1).active }
         (openForm bytes = true → exec (.openRecord l bytes) s = exec (.openRecord l bytes) counted)
           ∧ (packetForm bytes = true → exec (.packetRecord l bytes) s = exec (.packetRecord l bytes) counted)
           ∧ (closeForm bytes = true → exec (.closeRecord l bytes) s = exec (.closeRecord l bytes) counted))

/-! ## Feed lanes: OPEN and CLOSE -/

/-- An accepted OPEN record takes the lowest FREE slot, fills it as R5 gives, adds its load to the sums of its paths and
queues OPENED; nothing else changes but the expectation and RECORDS (R2, R4 to R6, R8, R9, R63). -/
def Obligations.OpenRecordArmsTheLowestFreeSlot : Prop :=
  ∀ (s : State) (l : Fin 4) (bytes : List Byte) (i : Fin 16),
    let o := parseOpen (bytes.drop 8)
    let load := openLoad s.params.rate o
    let start := chooseStart o (recordStart o) s.now
    let loadA := if o.pathSet.a then load else 0
    let loadB := if o.pathSet.b then load else 0
    s.power = .on → openForm bytes = true → s.inOrder l (recordSeq bytes) → (s.lane l).queue.length < 32 →
    s.lowestFree = some i → badOpen o = false → s.admits o.pathSet load = true →
    exec (.openRecord l bytes) s =
      .next
        { s with
          slots := s.slots.set i
            { state := .armed, owner := .lane l, tag := o.tag, pathSet := o.pathSet, n := o.n, d := o.d, lt := o.lt,
              la := o.la, lf := o.lf, k := o.k, s := o.s, h := clampHorizon o.h, delta := min o.delta 1000000,
              nn := o.d * 1000000000 * o.la, dd := o.n * o.lt * o.k,
              q := o.d * 1000000000 * o.la / (o.n * o.lt * o.k), r := o.d * 1000000000 * o.la % (o.n * o.lt * o.k),
              o := o.lf * o.d * 1000000000 / (o.n * o.lt), fs := start, fc := start,
              requestedStart := recordStart o, patternRegion := none, stepIndex := 0, stepOffset := 0,
              stepRemainder := 0, head := none, aPrev := 0, lambdaPrev := 0, indexPrev := 0, codePrev := 0,
              sameFrame := false, loadA := loadA, loadB := loadB, idle := 0, released := 0, late := 0, discarded := 0,
              arrived := 0, lastFrame := ⟨0, 0, 0, 0, 0, 0⟩, lastReason := none, intake := ⟨none, false, false, false⟩,
              queue := [] }
          sumA := s.sumA + loadA
          sumB := s.sumB + loadB
          lanes := s.lanes.set l
            { s.lane l with
              expectation := some (recordSeq bytes + 1)
              queue := (s.lane l).queue ++ [.opened o.tag i start loadA loadB] }
          active := (s.countLane l .records 1).active }

/-- A refused OPEN record queues REFUSED and changes no slot and no sum; the codes are tried in the order NO_SLOT,
BAD_PARAM, CAPACITY (R2, R63). With 32 notices queued a taken OPEN or CLOSE is dropped as NOTICE_FULL, unseen by the
Stream Table; taken in order, only the expectation and the counts change (R62 to R64). -/
def Obligations.OpenRecordIsTurnedAwayInOrder : Prop :=
  (∀ (s : State) (l : Fin 4) (bytes : List Byte),
     let o := parseOpen (bytes.drop 8)
     let refusedWith (e : OpenRefusal) : State :=
       { s with
         lanes := s.lanes.set l
           { s.lane l with
             expectation := some (recordSeq bytes + 1)
             queue := (s.lane l).queue ++ [.refused o.tag e] }
         active := (s.countLane l .records 1).active }
     s.power = .on → openForm bytes = true → s.inOrder l (recordSeq bytes) → (s.lane l).queue.length < 32 →
     (s.lowestFree = none → exec (.openRecord l bytes) s = .next (refusedWith .noSlot))
       ∧ (s.lowestFree ≠ none → badOpen o = true → exec (.openRecord l bytes) s = .next (refusedWith .badParam))
       ∧ (s.lowestFree ≠ none → badOpen o = false → s.admits o.pathSet (openLoad s.params.rate o) = false →
           exec (.openRecord l bytes) s = .next (refusedWith .capacity)))
    ∧ (∀ (s : State) (l : Fin 4) (bytes : List Byte), s.power = .on → s.inOrder l (recordSeq bytes) →
         (s.lane l).queue.length = 32 →
         let dropped : State :=
           { s with
             lanes := s.lanes.set l { s.lane l with expectation := some (recordSeq bytes + 1) }
             active := ((s.countLane l .records 1).countLane l .noticeFull 1).active }
         (openForm bytes = true → exec (.openRecord l bytes) s = .next dropped)
           ∧ (closeForm bytes = true → exec (.closeRecord l bytes) s = .next dropped))

/-- The start frame (R6): the named frame when it is at or after the bound and its first close can be held; else the
smallest frame whose boundary is at or after the bound. -/
def Obligations.StartFrameIsTheLeastAtOrAfterTheBound : Prop :=
  ∀ (o : OpenParams) (requested : Option Nat) (now : Nat), 0 < o.n → 0 < o.d →
    let f := chooseStart o requested now
    let usable (x : Nat) : Prop :=
      now + 1000000 ≤ boundary o.n o.d x ∧ boundary o.n o.d (x + 1) + openO o + clampDelta o.delta ≤ 2 ^ 64 - 1
    (∀ x, requested = some x → usable x → f = x)
      ∧ ((∀ x, requested = some x → ¬ usable x) →
          now + 1000000 ≤ boundary o.n o.d f ∧ ∀ g, g < f → boundary o.n o.d g < now + 1000000)

/-- A taken CLOSE closes at once with reason REQUESTED an ARMED stream in either mode, and a RUNNING or DRAINING one with
mode NOW: R11's effect, CLOSED queued, STREAM_CLOSED latched. With mode DRAIN a RUNNING stream with a queue becomes
DRAINING and a DRAINING one does not change, with no notice; one with an empty queue closes at once with DRAINED. For a
FREE slot, another owner's stream or another tag it is ignored and counted OWNER (R12 to R15, R64). What a paused pattern
stream does when a closure frees entries is `State.resumed` (PatternGenerationAcceptsTheNextPacket). -/
def Obligations.CloseRecordFollowsModeAndState : Prop :=
  (∀ (s : State) (l : Fin 4) (bytes : List Byte) (i : Fin 16),
     let c := parseClose bytes
     s.power = .on → closeForm bytes = true → s.inOrder l (recordSeq bytes) → (s.lane l).queue.length < 32 →
     c.slot = i.val → (s.slot i).owner = .lane l → (s.slot i).tag = c.tag →
     ((s.slot i).state = .armed ∨ (c.now = true ∧ ((s.slot i).state = .running ∨ (s.slot i).state = .draining))) →
     ∃ t, exec (.closeRecord l bytes) s = .next (s.resumed t) ∧ s.closedAs t i .requested
       ∧ (s.entriesRising → s.queueFreed t i)
       ∧ (t.lane l).queue = (s.lane l).queue ++ [.closed c.tag i .requested]
       ∧ (t.lane l).expectation = some (recordSeq bytes + 1)
       ∧ t.port.causes = s.port.causes ||| 0x01
       ∧ t.port.slotDetail = s.port.slotDetail ||| (1#16 <<< i.val))
    ∧ (∀ (s : State) (l : Fin 4) (bytes : List Byte) (i : Fin 16),
         let c := parseClose bytes
         s.power = .on → closeForm bytes = true → s.inOrder l (recordSeq bytes) → (s.lane l).queue.length < 32 →
         c.slot = i.val → (s.slot i).owner = .lane l → (s.slot i).tag = c.tag → c.now = false →
         (((s.slot i).state = .running ∧ (s.slot i).queue ≠ []) ∨ (s.slot i).state = .draining) →
         exec (.closeRecord l bytes) s =
           .next
             { s with
               slots := s.slots.set i { s.slot i with state := .draining }
               lanes := s.lanes.set l { s.lane l with expectation := some (recordSeq bytes + 1) }
               active := (s.countLane l .records 1).active })
    ∧ (∀ (s : State) (l : Fin 4) (bytes : List Byte) (i : Fin 16),
         let c := parseClose bytes
         s.power = .on → closeForm bytes = true → s.inOrder l (recordSeq bytes) → (s.lane l).queue.length < 32 →
         c.slot = i.val → (s.slot i).owner = .lane l → (s.slot i).tag = c.tag → c.now = false →
         (s.slot i).state = .running → (s.slot i).queue = [] →
         ∃ t, exec (.closeRecord l bytes) s = .next (s.resumed t) ∧ s.closedAs t i .drained
           ∧ (t.lane l).queue = (s.lane l).queue ++ [.closed c.tag i .drained]
           ∧ (t.lane l).expectation = some (recordSeq bytes + 1) ∧ t.entries = s.entries
           ∧ t.port.causes = s.port.causes ||| 0x01
           ∧ t.port.slotDetail = s.port.slotDetail ||| (1#16 <<< i.val))
    ∧ (∀ (s : State) (l : Fin 4) (bytes : List Byte) (i : Fin 16),
         let c := parseClose bytes
         s.power = .on → closeForm bytes = true → s.inOrder l (recordSeq bytes) → (s.lane l).queue.length < 32 →
         c.slot = i.val → ((s.slot i).state = .free ∨ (s.slot i).owner ≠ .lane l ∨ (s.slot i).tag ≠ c.tag) →
         exec (.closeRecord l bytes) s =
           .next
             { s with
               lanes := s.lanes.set l { s.lane l with expectation := some (recordSeq bytes + 1) }
               active := ((s.countLane l .records 1).countLane l .owner 1).active })

/-! ## Feed lanes: PACKET -/

/-- An accepted PACKET fills the lowest free entry with QUEUED alone, at the tail of its stream's queue; its cells hold
the payload; its cells leave the outstanding credits; the intake record follows. Stated while the queue is not empty or
the launcher is in service, so that the packet is not granted in the same event (R65, R80, R90, R92). -/
def Obligations.PacketRecordJoinsItsQueue : Prop :=
  ∀ (s : State) (l : Fin 4) (bytes : List Byte) (i : Fin 16) (n f : Nat),
    let p := parsePacket bytes
    let c := cellsFor p.payload.length
    s.power = .on → packetForm bytes = true → s.inOrder l (recordSeq bytes) → p.slot = i.val →
    s.packetPasses l i p n f → ((s.slot i).queue ≠ [] ∨ s.launcher ≠ none) →
    ∃ t, exec (.packetRecord l bytes) s = .next t
      ∧ (t.slot i).queue = (s.slot i).queue ++ [n]
      ∧ (∃ e ∈ t.entries, e.number = n ∧ e.slot = i ∧ e.owner = .lane l ∧ e.frame = f ∧ e.index = p.index
          ∧ e.payload = p.payload.length ∧ e.cells = s.takeCells c ∧ e.cells.length = c ∧ e.stamp = none
          ∧ e.queuedOnly ∧ e.flags = acceptFlags (s.slot i) f p.index p.first p.last p.cut
          ∧ (s.memoriesCanonical → payloadFrom t.cellMem e.cells e.payload = p.payload))
      ∧ (∀ e ∈ s.entries, e ∈ t.entries)
      ∧ (t.lane l).account = { (s.lane l).account with outstanding := (s.lane l).account.outstanding - c }
      ∧ (t.lane l).queue = (s.lane l).queue ∧ (t.lane l).expectation = some (recordSeq bytes + 1)
      ∧ (t.slot i).intake =
          { (s.slot i).intake with lastAccepted := some (f, p.index), isOpen := !p.last, pendingFull := false }
      ∧ (t.slot i).arrived = (s.slot i).arrived + (if f = (s.slot i).fc then 1 else 0)
      ∧ s.otherSlotsSame t i ∧ t.launcher = s.launcher ∧ t.pathA = s.pathA ∧ t.pathB = s.pathB ∧ s.sameSetting t

/-- A dropped PACKET: the first failing test of R65 names the counter, NOT_OPEN, OVERSIZE, NO_CREDIT, NO_ENTRY,
QUEUE_FULL, and behind them Intake's LATE_ARRIVAL, AHEAD, OVERLONG and ORDER (R79). NO_CREDIT moves no credit, the others
move c credits from outstanding to pending when so many are outstanding (R66); nothing is filled. QUEUE_FULL sets FULL on
the tail of the queue and counts it where it was clear (R84). -/
def Obligations.PacketRecordDropsAreChargedAndRefunded : Prop :=
  ∀ (s : State) (l : Fin 4) (bytes : List Byte) (i : Fin 16),
    let p := parsePacket bytes
    let c := cellsFor p.payload.length
    let slot := s.slot i
    let fits : Prop := slot.state.takesPackets = true ∧ slot.owner = .lane l ∧ slot.tag = p.tag
    let passes : Prop := fits ∧ p.payload.length ≤ slot.s ∧ c ≤ (s.lane l).account.outstanding
    let queues : Prop := passes ∧ s.freeEntry ≠ none ∧ slot.queue.length < 512
    let full := extendFrame slot.fc p.frameField
    let dropped (entries : List Entry) (active : Bank) (refunds : Bool) : Prop :=
      ∃ t, exec (.packetRecord l bytes) s = .next t
        ∧ t = { s with lanes := t.lanes, entries := entries, active := active }
        ∧ (∀ m : Fin 4, m ≠ l → t.lane m = s.lane m)
        ∧ t.lane l = { s.lane l with
            expectation := some (recordSeq bytes + 1)
            account :=
              if refunds ∧ c ≤ (s.lane l).account.outstanding then
                ({ (s.lane l).account with outstanding := (s.lane l).account.outstanding - c } : Account).addPending c
                  s.now
              else (s.lane l).account }
    let outcome (counter : LaneCounter) (refunds : Bool) : Prop :=
      dropped s.entries ((s.countLane l .records 1).countLane l counter 1).active refunds
    let refused (counter : SlotCounter) : Prop :=
      dropped s.entries ((s.countLane l .records 1).countSlot i counter 1).active true
    s.power = .on → packetForm bytes = true → s.inOrder l (recordSeq bytes) → p.slot = i.val →
    (¬ fits → outcome .notOpen true)
      ∧ (fits → slot.s < p.payload.length → outcome .oversize true)
      ∧ (fits → p.payload.length ≤ slot.s → (s.lane l).account.outstanding < c → outcome .noCredit false)
      ∧ (passes → s.freeEntry = none → outcome .noEntry true)
      ∧ (∀ m e, passes → s.freeEntry ≠ none → 512 ≤ slot.queue.length → slot.queue.getLast? = some m →
          s.entry? m = some e →
          let counted := (s.countLane l .records 1).countLane l .queueFull 1
          (e.flags.full = true → dropped s.entries counted.active true)
            ∧ (e.flags.full = false →
                dropped
                  (s.entries.map fun x => if x.number = m then { x with flags := { x.flags with full := true } } else x)
                  (counted.countSlot i .full 1).active true))
      ∧ (queues → full < slot.fc → refused .lateArrival)
      ∧ (queues → (slot.fc : Int) + 3 < full → refused .ahead)
      ∧ (queues → (slot.fc : Int) ≤ full → full ≤ (slot.fc : Int) + 3 → slot.k ≤ p.index → refused .overlong)
      ∧ (queues → (slot.fc : Int) ≤ full → full ≤ (slot.fc : Int) + 3 → p.index < slot.k →
          afterLast slot.intake.lastAccepted full.toNat p.index = false → refused .order)

/-- Intake's extension of a frame field (R78): the one number congruent to the field modulo 65,536 that lies from
fc − 32,768 to fc + 32,767. -/
def Obligations.FrameFieldExtendsAroundTheCurrentFrame : Prop :=
  ∀ fc v : Nat, v < 65536 →
    extendFrame fc v % 65536 = (v : Int) ∧ (fc : Int) - 32768 ≤ extendFrame fc v
      ∧ extendFrame fc v ≤ (fc : Int) + 32767
      ∧ ∀ x : Int, x % 65536 = (v : Int) → (fc : Int) - 32768 ≤ x → x ≤ (fc : Int) + 32767 → x = extendFrame fc v

/-! ## Feed lanes: resets, notices, credit -/

/-- A LANE RESET record is taken whatever its sequence: the lane's streams close with LANE_RESET, its expectation is
unset, its queue holds LANE READY alone, and its credits are the quota less the cells its live entries hold (R67, R73).
LANE RESET from the host does the same to lane n and latches nothing; above 3 it is refused BAD_PARAM (R74, R11). -/
def Obligations.LaneResetResetsItsLane : Prop :=
  (∀ (s : State) (l : Fin 4) (bytes : List Byte), s.power = .on → laneResetForm bytes = true →
     ∃ t, exec (.laneResetRecord l bytes) s = .next (s.resumed t)
       ∧ t.lane l =
           { s.lane l with
             expectation := none
             queue := [.laneReady (s.params.laneQuota[l] - t.heldBy (.lane l))]
             account := ⟨s.params.laneQuota[l] - t.heldBy (.lane l), 0, none, false⟩ }
       ∧ (∀ i : Fin 16, (s.slot i).state.isOpen = true → (s.slot i).owner = .lane l →
           (t.slot i).state = .free ∧ (t.slot i).lastReason = some .laneReset ∧ (t.slot i).queue = []
             ∧ t.port.slotDetail.getLsbD i.val = true)
       ∧ (∀ i : Fin 16, ¬ ((s.slot i).state.isOpen = true ∧ (s.slot i).owner = .lane l) → t.slot i = s.slot i)
       ∧ t.launcher = s.launcher ∧ t.pathA = s.pathA ∧ t.pathB = s.pathB ∧ t.ring = s.ring ∧ s.sameSetting t)
    ∧ (∀ s : State, s.hostReady →
         (∀ l : Fin 4, s.argIs l.val →
           ∃ t, exec .laneResetCommand s = .next (s.resumed t) ∧ t.port = s.port.answered 0x30
             ∧ t.lane l =
                 { s.lane l with
                   expectation := none
                   queue := [.laneReady (s.params.laneQuota[l] - t.heldBy (.lane l))]
                   account := ⟨s.params.laneQuota[l] - t.heldBy (.lane l), 0, none, false⟩ }
             ∧ (∀ i : Fin 16, (s.slot i).state.isOpen = true → (s.slot i).owner = .lane l →
                 (t.slot i).state = .free ∧ (t.slot i).lastReason = some .laneReset ∧ (t.slot i).queue = [])
             ∧ (∀ i : Fin 16, ¬ ((s.slot i).state.isOpen = true ∧ (s.slot i).owner = .lane l) → t.slot i = s.slot i)
             ∧ t.launcher = s.launcher ∧ t.pathA = s.pathA ∧ t.pathB = s.pathB ∧ t.ring = s.ring ∧ s.sameSetting t)
           ∧ (3 < s.argByte → exec .laneResetCommand s = .next { s with port := s.port.refusedCommand 0x30 .badParam }))

/-- A notice begins sending when the return direction is idle and the ready indication is asserted, and completes 10 ns
for each of its bytes later (R72). That the feeder drives the indication by the ready operand is log entry 13; that a
notice ends in elapsed time is log entry 12. -/
def Obligations.NoticesAreSentOldestFirst : Prop :=
  ∀ (s : State) (l : Fin 4) (x : Notice) (rest : List Notice), s.power ≠ .off →
    (∀ ready : Option Bool, (s.lane l).queue = x :: rest → (s.lane l).sending = none →
      ready.getD (s.lane l).ready = true →
      exec (.noticeSendBegin l ready) s =
        .next
          { s with
            lanes := s.lanes.set l
              { s.lane l with ready := true, queue := rest, sending := some ⟨x, s.elapsed + noticeTime x⟩ } })
      ∧ (∀ u : Nat, (s.lane l).sending = some ⟨x, u⟩ → u ≤ s.elapsed →
          exec (.noticeSendComplete l) s = .next { s with lanes := s.lanes.set l { s.lane l with sending := none } })
      ∧ noticeTime x = 10 * (noticeBytes l x).length

/-- A credit batch moves the whole pending credit to outstanding and announces it in the queued CREDIT, or in a new one
at the tail; the 20,000 ns timer brings a batch of fewer than 16 (R69). -/
def Obligations.CreditBatchReturnsThePendingCredit : Prop :=
  ∀ (s : State) (l : Fin 4), s.power ≠ .off →
    let a := (s.lane l).account
    (0 < a.pending → (16 ≤ a.pending ∨ a.expired = true) →
      ((s.lane l).queue.length < 32 ∨ (s.lane l).hasCredit = true) →
      ∃ t, exec (.creditBatch l) s = .next t
        ∧ t = { s with
            lanes := s.lanes.set l
              { s.lane l with
                account := ⟨a.outstanding + a.pending, 0, none, false⟩
                queue := (t.lane l).queue }
            active := (s.countLane l .creditsReturned a.pending).active }
        ∧ ((s.lane l).hasCredit = false → (t.lane l).queue = (s.lane l).queue ++ [.credit a.pending])
        ∧ (∀ pre post m, (s.lane l).queue = pre ++ .credit m :: post → (pre.any Notice.isCredit) = false →
            (t.lane l).queue = pre ++ .credit (m + a.pending) :: post))
      ∧ (∀ since, a.oldest = some since → a.expired = false → since + 20000 ≤ s.now →
          exec (.creditTimerExpiry l) s =
            .next { s with lanes := s.lanes.set l { s.lane l with account := { a with expired := true } } })

/-! ## Schedule, Pacer and launcher -/

/-- Stepping equals the closed form: after n steps from the start of a frame the offset is floor(n × Nn / Dd) and the
remainder (n × Nn) mod Dd. A head the Pacer forms from an exact step state is of frame fc, scheduled at the closed form,
and eligible at or after that instant (R22, R23, R25 to R27). -/
def Obligations.ScheduleStepsEqualTheClosedForm : Prop :=
  (∀ nn dd n : Nat, 0 < dd →
     stepTimes (nn / dd) (nn % dd) dd n (0, 0, 0) = (n, n * nn / dd, n * nn % dd))
    ∧ (∀ (t : Slot) (index : Nat), 0 < t.dd → t.q = t.nn / t.dd → t.r = t.nn % t.dd →
         t.stepOffset = t.stepIndex * t.nn / t.dd → t.stepRemainder = t.stepIndex * t.nn % t.dd → t.stepIndex ≤ index →
         ∃ hd, (t.withHead index).head = some hd ∧ hd.frame = t.fc ∧ hd.index = index
           ∧ hd.scheduled = scheduledInstant t t.fc index ∧ hd.scheduled ≤ hd.eligible
           ∧ (t.withHead index).stepIndex = index ∧ (t.withHead index).stepOffset = index * t.nn / t.dd
           ∧ (t.withHead index).stepRemainder = index * t.nn % t.dd)

/-- The lateness index by its table, saturating at 31 (R28). -/
def Obligations.LatenessIndexFollowsItsTable : Prop :=
  ∀ x : Nat,
    (x < 1000 → latenessIndex x = x / 125 ∧ latenessIndex x ≤ 7)
      ∧ (1000 ≤ x → x < 9000 → latenessIndex x = 8 + (x - 1000) / 1000 ∧ latenessIndex x ≤ 15)
      ∧ (9000 ≤ x → x < 73000 → latenessIndex x = 16 + (x - 9000) / 8000 ∧ latenessIndex x ≤ 23)
      ∧ (73000 ≤ x → x < 585000 → latenessIndex x = 24 + (x - 73000) / 64000 ∧ latenessIndex x ≤ 31)
      ∧ (585000 ≤ x → latenessIndex x = 31)
      ∧ ∀ y, x ≤ y → latenessIndex x ≤ latenessIndex y

/-- ARMING_EXPIRY at or past boundary(fs) makes an ARMED slot RUNNING and forms its head; ELIGIBILITY_INSTANT puts the
slot in the due set; before their instants neither does anything (R7, R25, R27, R45). Stated with the launcher in
service, so that no choice follows in the same event. -/
def Obligations.ExpiriesArmASlotAndMakeItDue : Prop :=
  (∀ (s : State) (i : Fin 16), s.power ≠ .off → (s.slot i).state = .armed →
     (boundary (s.slot i).n (s.slot i).d (s.slot i).fs ≤ s.now → s.launcher ≠ none →
       ∃ t, exec (.armingExpiry i) s = .next t
         ∧ t = { s with slots := s.slots.set i (t.slot i), due := s.due.set i t.due[i] }
         ∧ (t.slot i).state = .running ∧ (t.slot i).queue = (s.slot i).queue
         ∧ (∀ e, s.headEntry i = some e → e.frame = (s.slot i).fc →
             t.slot i = { ({ s.slot i with state := .running } : Slot).withHead e.index with state := .running })
         ∧ (s.headEntry i = none → t.slot i = { s.slot i with state := .running, head := none } ∧ t.due[i] = false))
       ∧ (s.now < boundary (s.slot i).n (s.slot i).d (s.slot i).fs → exec (.armingExpiry i) s = .next s))
    ∧ (∀ (s : State) (i : Fin 16) (hd : Head), s.power ≠ .off →
         ((s.slot i).state = .running ∨ (s.slot i).state = .draining) → s.held[i] = false →
         (s.slot i).head = some hd → hd.frame = (s.slot i).fc → s.launcher ≠ none → s.due[i] = false →
         (hd.eligible ≤ s.now → exec (.eligibilityInstant i) s = .next { s with due := s.due.set i true })
           ∧ (s.now < hd.eligible → exec (.eligibilityInstant i) s = .next s))

/-- With the launcher free and no other slot due, the eligible head is granted at once: the entry goes into service for
its wire time with its launch stamp, the Pacer records the grant, RELEASED, LAUNCHES, LATE, URGENT and SKIPPED are
counted, and in AUTO mode the slot moves to the bottom of the ring (R30, R49, R51 to R53, R58, R86). A next entry of fc
becomes the head, and the slot is due again at once if that head is eligible; one of a later frame waits with no head
formed (R25 to R27). A RUNNING stream left with nothing queued goes on; a DRAINING one closes with reason DRAINED (R14,
R30). -/
def Obligations.LoneDueHeadIsGranted : Prop :=
  ∀ (s : State) (i : Fin 16) (hd : Head) (n : Nat) (rest : List Nat) (e : Entry), s.power ≠ .off →
    ((s.slot i).state = .running ∨ (s.slot i).state = .draining) → s.held[i] = false → (s.slot i).head = some hd →
    hd.frame = (s.slot i).fc → hd.eligible ≤ s.now → s.launcher = none → (∀ j : Fin 16, s.due[j] = false) →
    s.ringWhole → (s.slot i).queue = n :: rest → s.entry? n = some e →
    let c := s.slot i
    let li := latenessIndex (s.now - hd.scheduled)
    let recorded : Slot :=
      { c with
        queue := rest, aPrev := s.now, lambdaPrev := s.now - hd.scheduled, indexPrev := li
        codePrev := s.params.catchUp.getD li 0, sameFrame := true, released := c.released + 1
        late := c.late + (if 8 ≤ li then 1 else 0), intake := { c.intake with pendingSkipped := false } }
    let launched (t : State) : Prop :=
      t.launcher =
          some ⟨i, n, e.frame, e.index, e.payload, s.now, s.now + wireTime s.params.rate e.payload, c.pathSet, c.tag⟩
        ∧ (∃ x, t.entry? n = some x ∧ x.stamp = some (s.now % 2 ^ 32)
            ∧ x.holders = ((e.holders.put .queued false).put .service true)
            ∧ x.flags.skipped = (e.flags.skipped || c.intake.pendingSkipped) ∧ x.cells = e.cells)
        ∧ (∀ x ∈ s.entries, x.number ≠ n → x ∈ t.entries)
        ∧ t.ring =
            (match s.ringMode with
              | .auto => (s.ring.filter fun x => decide (x ≠ i)) ++ [i]
              | .fixed => s.ring)
        ∧ (∀ k : SlotCounter, t.slotCount i k =
            if k = .released ∨ (k = .late ∧ 8 ≤ li) ∨ (k = .urgent ∧ s.params.urgent ≤ li)
                ∨ (k = .skipped ∧ c.intake.pendingSkipped = true) then capAdd (s.slotCount i k) 1
            else s.slotCount i k)
        ∧ t.partCount .launches = capAdd (s.partCount .launches) 1
        ∧ (∀ j : Fin 16, j ≠ i → t.due[j] = false)
        ∧ s.otherSlotsSame t i ∧ t.cellMem = s.cellMem ∧ s.sameSetting t
    (rest = [] → c.state = .running →
      ∃ t, exec (.eligibilityInstant i) s = .next t ∧ launched t ∧ t.slot i = { recorded with head := none }
        ∧ t.due[i] = false ∧ t.lanes = s.lanes)
      ∧ (∀ m tail x, rest = m :: tail → s.entry? m = some x →
          ∃ t, exec (.eligibilityInstant i) s = .next (s.resumed t) ∧ launched t ∧ t.lanes = s.lanes
            ∧ t.slot i = (if x.frame = c.fc then recorded.withHead x.index else { recorded with head := none })
            ∧ (t.due[i] = true ↔ ∃ next, (t.slot i).head = some next ∧ next.eligible ≤ s.now))
      ∧ (rest = [] → c.state = .draining → s.closedFits i →
          ∃ t, exec (.eligibilityInstant i) s = .next (s.resumed t) ∧ launched t ∧ s.drainedAt t i
            ∧ t.slot i =
                { recorded with
                  state := .free, lastReason := some .drained, loadA := 0, loadB := 0, idle := 0, head := none
                  intake := ⟨none, false, false, false⟩ })

/-- A choice grants the URGENT candidate highest on the ring, and without one the candidate highest on the ring
(R48, R51). -/
def Obligations.ChoiceTakesTheHighestOfItsClass : Prop :=
  ∀ (s : State) (i : Fin 16), s.launcher = none → s.due[i] = true →
    (∀ pre post, s.ring = pre ++ i :: post →
      (s.isUrgent i = true → (∀ j ∈ pre, s.due[j] = true → s.isUrgent j = false) → s.choice = s.grant i true)
        ∧ ((∀ j : Fin 16, s.due[j] = true → s.isUrgent j = false) → (∀ j ∈ pre, s.due[j] = false) →
            s.choice = s.grant i false))

/-- DISCARD_EXPIRY discards a lone head of a RUNNING stream at t + H: it leaves the queue, is counted discarded and
HORIZON, and pending SKIPPED is set (R31, R85, R86). A run of entries whose discard instants have all passed is discarded
in the one expiry, a FULL among them becoming pending FULL, up to an entry whose instant lies ahead or at or past the
close, which becomes the head, or up to an entry of a later frame, which waits with none formed (R25, R31, R85). A DRAINING
stream whose queue this empties closes with reason DRAINED (R14, R31). Stated with the launcher in service. -/
def Obligations.DiscardExpiryDropsTheHead : Prop :=
  (∀ (s : State) (i : Fin 16) (hd : Head) (n : Nat) (e : Entry), s.power ≠ .off →
     (s.slot i).state = .running → 0 < (s.slot i).h → (s.slot i).head = some hd →
     hd.scheduled + (s.slot i).h < closeInstant (s.slot i) (s.slot i).fc → hd.scheduled + (s.slot i).h ≤ s.now →
     s.launcher ≠ none → (s.slot i).queue = [n] → s.entry? n = some e → e.queuedOnly →
     ∃ t, exec (.discardExpiry i) s = .next (s.resumed t)
       ∧ t.slot i =
           { s.slot i with
             queue := [], head := none, discarded := (s.slot i).discarded + 1,
             intake := { (s.slot i).intake with
               pendingSkipped := true, pendingFull := (s.slot i).intake.pendingFull || e.flags.full } }
       ∧ t.due = s.due.set i false ∧ (∀ x ∈ t.entries, x.number ≠ n)
       ∧ t.active = ((s.countPart .freedUnlaunched 1).countSlot i .horizon 1).active
       ∧ s.otherSlotsSame t i ∧ t.launcher = s.launcher ∧ t.ring = s.ring ∧ t.pathA = s.pathA ∧ t.pathB = s.pathB
       ∧ t.cellMem = s.cellMem ∧ s.sameSetting t)
    ∧ (∀ (s : State) (i : Fin 16) (gone : List Entry) (rest : List Nat), s.power ≠ .off →
         let c := s.slot i
         let due (e : Entry) : Nat := scheduledInstant c c.fc e.index + c.h
         (c.state = .running ∨ c.state = .draining) → 0 < c.h → s.launcher ≠ none →
         0 < c.dd → c.q = c.nn / c.dd → c.r = c.nn % c.dd → c.stepOffset = c.stepIndex * c.nn / c.dd →
         c.stepRemainder = c.stepIndex * c.nn % c.dd →
         c.queue = gone.map (fun e => e.number) ++ rest → c.queue.Nodup → gone ≠ [] → s.waitIn gone c.fc →
         gone.Pairwise (fun a b => a.index < b.index) →
         (∀ e ∈ gone, c.stepIndex ≤ e.index ∧ due e < closeInstant c c.fc ∧ due e ≤ s.now) →
         (∀ e, gone.head? = some e → ∃ hd, c.head = some hd ∧ hd.scheduled = scheduledInstant c c.fc e.index) →
         (∀ m, rest.head? = some m → ∃ x, s.entry? m = some x ∧
           (x.frame = c.fc → (∀ e ∈ gone, e.index < x.index) ∧ (s.now < due x ∨ closeInstant c c.fc ≤ due x))) →
         let discarded (t : State) : Prop :=
           (t.slot i).discarded = c.discarded + gone.length ∧ s.freedOf t gone c.queue
             ∧ t.slotCount i .horizon = capAdd (s.slotCount i .horizon) gone.length
             ∧ t.partCount .freedUnlaunched = capAdd (s.partCount .freedUnlaunched) gone.length
             ∧ (∀ j : Fin 16, j ≠ i → t.due[j] = s.due[j]) ∧ s.otherSlotsSame t i ∧ t.launcher = s.launcher
             ∧ t.ring = s.ring ∧ t.pathA = s.pathA ∧ t.pathB = s.pathB ∧ t.cellMem = s.cellMem ∧ s.sameSetting t
         (rest ≠ [] ∨ c.state = .running →
           ∃ t, exec (.discardExpiry i) s = .next (s.resumed t) ∧ discarded t
             ∧ t.slot i =
                 { c with
                   queue := rest, discarded := c.discarded + gone.length
                   intake := { c.intake with
                     pendingSkipped := true
                     pendingFull := c.intake.pendingFull || gone.any fun e => e.flags.full }
                   head := (t.slot i).head, stepIndex := (t.slot i).stepIndex, stepOffset := (t.slot i).stepOffset
                   stepRemainder := (t.slot i).stepRemainder }
             ∧ (∀ m x, rest.head? = some m → s.entry? m = some x → x.frame = c.fc →
                 ∃ hd, (t.slot i).head = some hd ∧ hd.frame = c.fc ∧ hd.index = x.index
                   ∧ hd.scheduled = scheduledInstant c c.fc x.index
                   ∧ (t.due[i] = true ↔ s.held[i] = false ∧ hd.eligible ≤ s.now))
             ∧ ((∀ m x, rest.head? = some m → s.entry? m = some x → x.frame ≠ c.fc) →
                 (t.slot i).head = none ∧ t.due[i] = false))
         ∧ (rest = [] → c.state = .draining → s.closedFits i →
             ∃ t, exec (.discardExpiry i) s = .next (s.resumed t) ∧ discarded t ∧ s.drainedAt t i))

/-- FRAME_CLOSE of a stream with an empty queue: the frame's record, the counts, the idle count, fc + 1 and cleared
tallies; at the idle limit the stream closes ABANDONED (R34, R35, R17). With entries of fc still queued they are discarded
and counted OVERRUN, pending SKIPPED is set, a FULL among them becomes pending FULL, and the missing count is K − released
− discarded; the entries of later frames stay queued, the first of them becoming the head if it is of the new fc (R25,
R33, R34, R85, R86). A DRAINING stream whose queue this empties closes with reason DRAINED, before the idle limit is tested
(R14, R35). Stated with the launcher in service, the next close ahead and room for a CLOSED notice; with entries queued
also for a close taken before a discard expiry of the old head and of the new one. -/
def Obligations.FrameCloseRecordsTheFrame : Prop :=
  (∀ (s : State) (i : Fin 16), s.power ≠ .off → (s.slot i).state = .running → (s.slot i).queue = [] →
     closeInstant (s.slot i) (s.slot i).fc ≤ s.now → s.now < closeInstant (s.slot i) ((s.slot i).fc + 1) →
     s.launcher ≠ none → (∀ l : Fin 4, (s.slot i).owner = .lane l → (s.lane l).queue.length < 32) →
     let c := s.slot i
     let idle := if c.released = 0 then min (c.idle + 1) 255 else 0
     let missing := c.k - c.released - c.discarded
     ∃ t, exec (.frameClose i) s = .next (s.resumed t)
       ∧ (t.slot i).lastFrame = ⟨c.fc, c.released, c.late, c.discarded, c.arrived, missing⟩
       ∧ (t.slot i).fc = c.fc + 1 ∧ (t.slot i).released = 0 ∧ (t.slot i).late = 0 ∧ (t.slot i).discarded = 0
       ∧ (t.slot i).arrived = 0 ∧ (t.slot i).sameFrame = false ∧ (t.slot i).stepIndex = 0
       ∧ (t.slot i).stepOffset = 0 ∧ (t.slot i).stepRemainder = 0 ∧ (t.slot i).head = none
       ∧ t.due = s.due.set i false
       ∧ t.active = (((s.countSlot i .overrun 0).countSlot i .missing missing).countSlot i .framesClosed 1).active
       ∧ s.otherSlotsSame t i ∧ t.entries = s.entries ∧ t.launcher = s.launcher ∧ s.sameSetting t
       ∧ (s.params.idleLimit = 0 ∨ idle < s.params.idleLimit →
           (t.slot i).state = .running ∧ (t.slot i).idle = idle ∧ (t.slot i).intake = c.intake ∧ t.lanes = s.lanes)
       ∧ (s.params.idleLimit ≠ 0 → s.params.idleLimit ≤ idle →
           (t.slot i).state = .free ∧ (t.slot i).lastReason = some .abandoned ∧ (t.slot i).loadA = 0
             ∧ t.sumA = s.sumA - c.loadA ∧ t.sumB = s.sumB - c.loadB ∧ t.port.causes = s.port.causes ||| 0x01
             ∧ t.port.slotDetail = s.port.slotDetail ||| (1#16 <<< i.val)))
    ∧ (∀ (s : State) (i : Fin 16) (gone : List Entry) (rest : List Nat), s.power ≠ .off →
         let c := s.slot i
         (c.state = .running ∨ c.state = .draining) → c.queue = gone.map (fun e => e.number) ++ rest → c.queue.Nodup →
         gone ≠ [] → s.waitIn gone c.fc → (∀ m ∈ rest, ∃ x, s.entry? m = some x ∧ x.frame ≠ c.fc) →
         closeInstant c c.fc ≤ s.now → s.now < closeInstant c (c.fc + 1) → s.launcher ≠ none → s.closedFits i →
         (∀ hd, c.head = some hd →
           c.h = 0 ∨ s.now < hd.scheduled + c.h ∨ closeInstant c c.fc ≤ hd.scheduled + c.h) →
         (c.h = 0 ∨ s.now < closeInstant c c.fc + c.h) →
         let idle := if c.released = 0 then min (c.idle + 1) 255 else 0
         let missing := c.k - c.released - (c.discarded + gone.length)
         let recorded : FrameRecord := ⟨c.fc, c.released, c.late, c.discarded + gone.length, c.arrived, missing⟩
         let closed (t : State) : Prop :=
           (t.slot i).fc = c.fc + 1 ∧ (t.slot i).lastFrame = recorded ∧ s.freedOf t gone c.queue
             ∧ t.slotCount i .overrun = capAdd (s.slotCount i .overrun) gone.length
             ∧ t.slotCount i .missing = capAdd (s.slotCount i .missing) missing
             ∧ t.slotCount i .framesClosed = capAdd (s.slotCount i .framesClosed) 1
             ∧ (∀ j : Fin 16, j ≠ i → t.due[j] = s.due[j]) ∧ s.otherSlotsSame t i ∧ t.launcher = s.launcher
             ∧ t.ring = s.ring ∧ t.pathA = s.pathA ∧ t.pathB = s.pathB ∧ t.cellMem = s.cellMem ∧ s.sameSetting t
         ((rest ≠ [] ∨ c.state = .running) → (s.params.idleLimit = 0 ∨ idle < s.params.idleLimit) →
           ∃ t, exec (.frameClose i) s = .next (s.resumed t) ∧ closed t
             ∧ t.partCount .freedUnlaunched = capAdd (s.partCount .freedUnlaunched) gone.length
             ∧ t.slot i =
                 { c with
                   queue := rest, lastFrame := recorded, idle := idle, fc := c.fc + 1, released := 0, late := 0
                   discarded := 0, arrived := (rest.filter (s.isOfFrame (c.fc + 1))).length, sameFrame := false
                   intake := { c.intake with
                     pendingSkipped := true
                     pendingFull := c.intake.pendingFull || gone.any fun e => e.flags.full }
                   head := (t.slot i).head, stepIndex := (t.slot i).stepIndex, stepOffset := (t.slot i).stepOffset
                   stepRemainder := (t.slot i).stepRemainder }
             ∧ (∀ m x, rest.head? = some m → s.entry? m = some x → x.frame = c.fc + 1 →
                 ∃ hd, (t.slot i).head = some hd ∧ hd.frame = c.fc + 1 ∧ hd.index = x.index
                   ∧ (0 < c.dd → c.q = c.nn / c.dd → c.r = c.nn % c.dd →
                       hd.scheduled = scheduledInstant c (c.fc + 1) x.index)
                   ∧ hd.eligible = hd.scheduled ∧ (t.due[i] = true ↔ s.held[i] = false ∧ hd.eligible ≤ s.now))
             ∧ ((∀ m x, rest.head? = some m → s.entry? m = some x → x.frame ≠ c.fc + 1) →
                 (t.slot i).head = none ∧ t.due[i] = false))
         ∧ ((rest ≠ [] ∨ c.state = .running) → s.params.idleLimit ≠ 0 → s.params.idleLimit ≤ idle →
             ∃ t, exec (.frameClose i) s = .next (s.resumed t) ∧ closed t ∧ (t.slot i).state = .free
               ∧ (t.slot i).lastReason = some .abandoned ∧ (t.slot i).queue = [])
         ∧ (rest = [] → c.state = .draining →
             ∃ t, exec (.frameClose i) s = .next (s.resumed t) ∧ closed t ∧ s.drainedAt t i))

/-- END_OF_SERVICE at or past the busy-until instant hands the entry to the paths of the fan-out set, frees the launcher
and replaces SERVICE by the holders of the paths that took it (R54, R97, R112). One path: SENDING with room and an empty
backlog puts it into the window with the next sequence, and with FILL on the line and nothing unsent before it sends it
at once (R110); with no room, or in FINISHING, MARKING or REPLAYING, it goes to the backlog; with 256 there it is shed and
counted SHED_FULL, and outside these states SHED_DOWN; shed by all, the entry is freed and its cells return to its
account (R100, R106). Both paths: each takes it by its own state. Stated with no slot due, and but for the clause on FILL
with a frame on the line of each path that sends. That a DATA frame ends in elapsed time is log entry 12, and that the
rate in use as it begins times it log entry 46. -/
def Obligations.EndOfServiceEntersTheWindow : Prop :=
  ∀ (s : State) (v : Service) (e : Entry), s.power ≠ .off → s.launcher = some v → v.busyUntil ≤ s.now →
    (∀ j : Fin 16, s.due[j] = false) → s.entry? v.entry = some e →
    let sends (x : Path) : Prop := x.state = .sending ∧ x.backlog = [] ∧ x.window.length < 1024
    let waits (x : Path) : Prop :=
      x.state.isSending = true ∧ (x.state = .sending → 1024 ≤ x.window.length) ∧ x.backlog.length < 256
    let sheds (x : Path) : Prop :=
      x.state.isSending = true ∧ (x.state = .sending → 1024 ≤ x.window.length) ∧ 256 ≤ x.backlog.length
    let joined (x : Path) : Path :=
      { x with window := x.window ++ [⟨v.entry, x.nextSeq, v.tag, 0⟩], nextSeq := x.nextSeq + 1 }
    let queued (x : Path) : Path := { x with backlog := x.backlog ++ [⟨v.entry, v.tag⟩] }
    let handed (h : Holders) : State :=
      { s with
        launcher := none
        entries := s.entries.map fun x => if x.number = v.entry then { x with holders := h } else x }
    let rest := e.holders.put .service false
    (∀ p : PathId, v.fanOut = PathSet.only p →
      (sends (s.path p) → (s.path p).line ≠ .fill →
        exec .endOfService s = .next ((handed (rest.put (.window p) true)).updPath p joined))
      ∧ (sends (s.path p) → (s.path p).line = .fill → (s.path p).nextSeq = (s.path p).sentThrough + 1 →
          (∀ w ∈ (s.path p).window, w.seq ≠ (s.path p).nextSeq) →
          exec .endOfService s =
            .next
              (((handed (rest.put (.window p) true)).countPath p .dataSent 1).updPath p fun x =>
                { joined x with
                  sentThrough := x.sentThrough + 1
                  line := .data ⟨v.entry, x.nextSeq, v.tag, 0⟩
                    (s.elapsed + ((e.payload + 40) * 8 + s.params.rate - 1) / s.params.rate) }))
      ∧ (waits (s.path p) → (s.path p).line ≠ .fill →
          exec .endOfService s = .next ((handed (rest.put (.backlog p) true)).updPath p queued))
      ∧ (∀ counter : PathCounter,
          (counter = .shedFull ∧ sheds (s.path p) ∨ counter = .shedDown ∧ (s.path p).state.isSending = false) →
          ((s.path p).line ≠ .fill ∨ (s.path p).state = .disabled ∨ (s.path p).state = .failed) →
          (rest.isEmpty = false → exec .endOfService s = .next ((handed rest).countPath p counter 1))
          ∧ (rest.isEmpty = true →
              ∃ t, exec .endOfService s = .next (s.resumed t)
                ∧ t = { s with
                    launcher := none
                    entries := s.entries.filter fun x => decide (x.number ≠ v.entry)
                    lanes := t.lanes, pattern := t.pattern
                    active := ((s.countPath p counter 1).countPart .freedShed 1).active }
                ∧ (∀ l : Fin 4, t.lane l =
                    if e.owner = .lane l then
                      { s.lane l with account := (s.lane l).account.addPending e.cells.length s.now }
                    else s.lane l)
                ∧ t.pattern =
                    { s.pattern with
                      waitEntry := false
                      outstanding := s.pattern.outstanding + (if e.owner = .pattern then e.cells.length else 0) })))
      ∧ (v.fanOut = ⟨true, true⟩ → sends s.pathA → s.pathA.line ≠ .fill →
          (sends s.pathB → s.pathB.line ≠ .fill →
            exec .endOfService s =
              .next
                { handed ((rest.put (.window .a) true).put (.window .b) true) with
                  pathA := joined s.pathA, pathB := joined s.pathB })
          ∧ (waits s.pathB → s.pathB.line ≠ .fill →
              exec .endOfService s =
                .next
                  { handed ((rest.put (.window .a) true).put (.backlog .b) true) with
                    pathA := joined s.pathA, pathB := queued s.pathB })
          ∧ (s.pathB.state = .disabled ∨ s.pathB.state = .failed →
              exec .endOfService s =
                .next
                  { handed (rest.put (.window .a) true) with
                    pathA := joined s.pathA, active := (s.countPath .b .shedDown 1).active }))

/-! ## Carriage paths -/

/-- A STATUS of bad form is discarded: BAD_STATUS is counted, and in PROBING the good run becomes 0 (R114); one whose
acknowledged sequence is after sent-through is discarded as ACK_BEYOND with the same effect (R115). A good STATUS in
DISABLED or FAILED becomes the latest status and moves the report reference; it and the reports lost before it are
counted (R116, R117). Nothing else changes. -/
def Obligations.StatusIsDiscardedOrOnlyRecorded : Prop :=
  (∀ (s : State) (p : PathId) (bytes : List Byte), s.power ≠ .off →
     (bytes.length ≠ 32 ∨ byteAt bytes 0 ≠ 0x5A ∨ (byteAt bytes 1).toNat ≠ pathCode p ∨ checkGood bytes 28 = false) →
     exec (.statusFrame p bytes) s =
       .next
         ((s.countPath p .badStatus 1).updPath p fun x =>
           { x with goodRun := if x.state = .probing then 0 else x.goodRun }))
    ∧ (∀ (s : State) (p : PathId) (bytes : List Byte), s.power ≠ .off → statusForm p bytes = true →
         seqAfter (parseStatus bytes).ack (s.path p).sentThrough = true →
         exec (.statusFrame p bytes) s =
           .next
             ((s.countPath p .ackBeyond 1).updPath p fun x =>
               { x with goodRun := if x.state = .probing then 0 else x.goodRun }))
    ∧ (∀ (s : State) (p : PathId) (bytes : List Byte), s.power ≠ .off → statusForm p bytes = true →
         seqAfter (parseStatus bytes).ack (s.path p).sentThrough = false →
         ((s.path p).state = .disabled ∨ (s.path p).state = .failed) →
         let counter := (parseStatus bytes).counter
         let lost := match (s.path p).reportRef with
           | none => 0
           | some r => (counter.toNat + 512 - r.toNat - 1) % 256
         exec (.statusFrame p bytes) s =
           .next
             (((s.countPath p .statusLost lost).countPath p .statusGood 1).updPath p fun x =>
               { x with reportRef := some counter, latest := some (parseStatus bytes) }))

/-- A good STATUS in PROBING counts in the good run: without REPEAT and with none lost before it one more, with reports
lost before it 1, with REPEAT 0 (R116, R117, R120). A good run that reaches N_good takes the path to SENDING with the
silence timer started; else the path stays PROBING (R119, R120, R130). That the good run counts no further than 15 is log
entry 35, and shut out here. -/
def Obligations.GoodRunTakesThePathToSending : Prop :=
  ∀ (s : State) (p : PathId) (bytes : List Byte), s.power ≠ .off → statusForm p bytes = true →
    let st := parseStatus bytes
    let x := s.path p
    let lost := match x.reportRef with
      | none => 0
      | some r => (st.counter.toNat + 512 - r.toNat - 1) % 256
    let run := if st.repeats then 0 else if 0 < lost then 1 else x.goodRun + 1
    seqAfter st.ack x.sentThrough = false → x.state = .probing → x.goodRun < 15 → x.line ≠ .fill →
    ∃ t, exec (.statusFrame p bytes) s = .next t
      ∧ t.active = ((s.countPath p .statusLost lost).countPath p .statusGood 1).active
      ∧ (t.path p).goodRun = run ∧ (t.path p).latest = some st
      ∧ (t.path p).reportRef = some st.counter ∧ (t.path p).line = x.line
      ∧ (t.path p).window = x.window ∧ (t.path p).nextSeq = x.nextSeq
      ∧ s.streamsSame t p ∧ t.entries = s.entries
      ∧ (st.repeats = false → (s.params.path p).nGood ≤ run →
          (t.path p).state = .sending ∧ (t.path p).repeatTimer = none ∧ (t.path p).attempts = 0
            ∧ (t.path p).silence = some (s.elapsed + (s.params.path p).silenceTime * 1000)
            ∧ t.port.causes = s.port.causes ||| 0x02)
      ∧ ((st.repeats = true ∨ run < (s.params.path p).nGood) →
          (t.path p).state = .probing ∧ (t.path p).silence = x.silence ∧ t.port = s.port)

/-- In SENDING a good STATUS without REPEAT retires the window up to its acknowledged sequence, counted RETIRED, restarts
the silence timer, stops the repeat timer and clears the attempt count; the backlog then drains into the room of the
window, oldest first, each place with the next sequence, BACKLOG becoming WINDOW (R98, R113, R117 to R119, R135). Stated
for a busy line whose frame is not retired. -/
def Obligations.ClearStatusRetiresTheWindow : Prop :=
  ∀ (s : State) (p : PathId) (bytes : List Byte) (k : Nat), s.power ≠ .off → statusForm p bytes = true →
    let st := parseStatus bytes
    let x := s.path p
    let gone := x.window.take k
    let heard := x.heard st k (s.elapsed + (s.params.path p).silenceTime * 1000)
    seqAfter st.ack x.sentThrough = false → x.state = .sending → st.repeats = false →
    x.line ≠ .fill → x.line.isOf (gone.map fun w => w.seq) = false →
    st.ack = x.ackThrough + BitVec.ofNat 32 k → k < 2 ^ 31 →
    ∃ t, exec (.statusFrame p bytes) s = .next (s.resumed t)
      ∧ t.path p = { heard.drained with repeatTimer := none, attempts := 0 }
      ∧ (0 < k → t.pathCount p .retired = capAdd (s.pathCount p .retired) gone.length)
      ∧ (∀ e ∈ s.entries, e.number ∉ gone.map (fun w => w.entry) → e.movedBy p heard.draining ∈ t.entries)
      ∧ (s.entriesRising → ∀ e ∈ s.entries, e.number ∈ gone.map (fun w => w.entry) →
          e.holders = Holders.nobody.put (.window p) true → ∀ y ∈ t.entries, y.number ≠ e.number)
      ∧ s.streamsSame t p

/-- In SENDING a good STATUS with REPEAT, the repeat timer stopped, starts the repeat procedure behind its retirement: the
attempt count grows, REPEATS is counted, and the path is FINISHING while a frame is on the line; with FILL on the line, or
with the frame cut off by the retirement, it is MARKING at once, with the repeat timer started and the first MARK of the
burst (R117, R118, R134, R136, R137, R141). With the timer running the REPEAT is only counted REPEAT_IGNORED, and the
backlog drains (R113, R135). In FINISHING, MARKING and REPLAYING a good STATUS retires and restarts the silence timer, and
neither its REPEAT, counted REPEAT_IGNORED, nor its absence changes the procedure (R142). The last two are stated for a
busy line whose frame is not retired. Frame ends in elapsed time are log entry 12, at the rate in use as the frame begins
log entry 46, the burst fields log entry 35. -/
def Obligations.RepeatStartsTheProcedure : Prop :=
  ∀ (s : State) (p : PathId) (bytes : List Byte) (k : Nat), s.power ≠ .off → statusForm p bytes = true →
    let st := parseStatus bytes
    let x := s.path p
    let gone := x.window.take k
    let heard := x.heard st k (s.elapsed + (s.params.path p).silenceTime * 1000)
    let runsOn : Prop := x.line ≠ .fill ∧ x.line.isOf (gone.map fun w => w.seq) = false
    let taken (after : Path) (repeats ignored : Nat) (moved : List BacklogPlace) : Prop :=
      ∃ t, exec (.statusFrame p bytes) s = .next (s.resumed t) ∧ t.path p = after
        ∧ (if repeats = 0 then t.pathCount p .repeats = s.pathCount p .repeats
            else t.pathCount p .repeats = capAdd (s.pathCount p .repeats) repeats)
        ∧ (if ignored = 0 then t.pathCount p .repeatIgnored = s.pathCount p .repeatIgnored
            else t.pathCount p .repeatIgnored = capAdd (s.pathCount p .repeatIgnored) ignored)
        ∧ (0 < k → t.pathCount p .retired = capAdd (s.pathCount p .retired) gone.length)
        ∧ (∀ e ∈ s.entries, e.number ∉ gone.map (fun w => w.entry) → e.movedBy p moved ∈ t.entries)
        ∧ t.port = s.port ∧ s.streamsSame t p
    seqAfter st.ack x.sentThrough = false → st.ack = x.ackThrough + BitVec.ofNat 32 k → k < 2 ^ 31 →
    (x.state = .sending → st.repeats = true → x.repeatTimer = none →
      (runsOn → taken { heard with state := .finishing, attempts := min (x.attempts + 1) 15 } 1 0 [])
      ∧ ((x.line = .fill ∨ x.line.isOf (gone.map fun w => w.seq) = true) → 0 < s.params.nMark →
          taken
            { heard with
              state := .marking, attempts := min (x.attempts + 1) 15
              repeatTimer := some (s.elapsed + s.params.repeatTime * 1000)
              burstOrdinal := 1, burstLength := s.params.nMark
              line := .mark 0 (st.ack + 1) (s.now % 2 ^ 32) (s.elapsed + (512 + s.params.rate - 1) / s.params.rate) }
            1 0 []))
      ∧ (∀ u, x.state = .sending → st.repeats = true → x.repeatTimer = some u → runsOn →
          taken heard.drained 0 1 heard.draining)
      ∧ ((x.state = .finishing ∨ x.state = .marking ∨ x.state = .replaying) → runsOn →
          taken heard 0 (if st.repeats then 1 else 0) [])

/-- A silence expiry, a repeat timer expiry at the attempt limit with REPEAT in the latest status, an indicator found
set while sending, and a third unanswered poll each take the path to FAILED with their reason: window and backlog
released, the line at FILL, the timers stopped, the holdoff started if the module is present, FAILURES counted and
PATH_RELEASED by the number released, for the module's causes MODULE_RESTARTS or POLLS_UNANSWERED too, no other counter
of the path, PATH_CHANGE latched (R119, R121, R126, R127, R130, R131, R143). -/
def Obligations.PathFailureReleasesThePath : Prop :=
  ∀ (s : State) (p : PathId), s.power ≠ .off →
    let x := s.path p
    let failedBy (c : Instr) (before : Path) (r : FailReason) (holdoff : Option Nat)
        (extra : Option PathCounter) : Prop :=
      ∃ t, exec c s = .next (s.resumed t) ∧ before.failedFrom (t.path p) r holdoff ∧ s.streamsSame t p
        ∧ t.port.causes = s.port.causes ||| 0x02
        ∧ t.port.pathDetail = s.port.pathDetail ||| (1#2 <<< pathCode p)
        ∧ (∀ k : PathCounter, t.pathCount p k =
            if k = .failures ∨ extra = some k then capAdd (s.pathCount p k) 1
            else if k = .pathReleased then capAdd (s.pathCount p k) (x.window.length + x.backlog.length)
            else s.pathCount p k)
        ∧ (s.entriesRising → ∀ e ∈ s.entries,
            (e.number ∈ x.window.map (fun w => w.entry) → e.holders = Holders.nobody.put (.window p) true →
              ∀ y ∈ t.entries, y.number ≠ e.number)
            ∧ (e.number ∉ x.window.map (fun w => w.entry) → e.number ∉ x.backlog.map (fun b => b.entry) →
              e ∈ t.entries))
    (∀ u, x.silence = some u → u ≤ s.elapsed → failedBy (.silenceExpiry p) x .silent (s.failHoldoff p) none)
      ∧ (∀ u st, x.repeatTimer = some u → u ≤ s.elapsed → x.latest = some st → st.repeats = true →
          s.params.attemptLimit ≤ x.attempts → failedBy (.repeatTimerExpiry p) x .attempts (s.failHoldoff p)
            none)
      ∧ (∀ u, x.poll = .reading u → x.state.isSending = true → x.moduleAbsent = false →
          failedBy (.moduleReadAnswer p true)
            { x with
              lastIndicator := true, unanswered := 0, holdoffOwed := false,
              poll := .writing (s.params.path p).settings (s.elapsed + 1000000) }
            .moduleRestart (s.failHoldoff p) (some .moduleRestarts))
      ∧ (∀ u, x.poll.waitsUntil = some u → u ≤ s.elapsed → 2 ≤ x.unanswered → x.unanswered < 255 →
          x.state ≠ .disabled → x.state ≠ .failed →
          failedBy (.pollUnanswered p)
            { x with poll := .idle, unanswered := x.unanswered + 1, moduleAbsent := true } .moduleAbsent none
            (some .pollsUnanswered))

/-- HOLDOFF_EXPIRY takes the path into PROBING: timers stopped, good run and reference started over, and MARK frames
begun with ordinal 0 and the next sequence (R111, R120, R122, R130). A repeat timer that expires below the attempt limit
with REPEAT in the latest status begins a new burst by way of FINISHING; without REPEAT it only stops (R143, R144). That
the MARK ends in elapsed time is log entry 12, at the rate in use as it begins log entry 46. -/
def Obligations.HoldoffAndRepeatTimersExpire : Prop :=
  (∀ (s : State) (p : PathId) (u : Nat), s.power ≠ .off → (s.path p).holdoff = some u → u ≤ s.elapsed →
     (s.path p).state = .failed →
     exec (.holdoffExpiry p) s =
       .next
         (((s.countPath p .marksSent 1).latchPath p).updPath p fun x =>
           { x with
             state := .probing, silence := none, holdoff := none, holdoffOwed := false, goodRun := 0, markOrdinal := 1, reportRef := none,
             ackThrough := x.nextSeq - 1, sentThrough := x.nextSeq - 1,
             line := .mark 0 x.nextSeq (s.now % 2 ^ 32) (s.elapsed + markTime s.params.rate) }))
    ∧ (∀ (s : State) (p : PathId) (u : Nat), s.power ≠ .off → (s.path p).repeatTimer = some u → u ≤ s.elapsed →
         (((s.path p).latest = none ∨ (∃ st, (s.path p).latest = some st ∧ st.repeats = false)) →
           exec (.repeatTimerExpiry p) s = .next (s.updPath p fun x => { x with repeatTimer := none }))
           ∧ (∀ st, (s.path p).latest = some st → st.repeats = true → (s.path p).attempts < s.params.attemptLimit →
               (s.path p).attempts < 15 → (s.path p).line ≠ .fill →
               exec (.repeatTimerExpiry p) s =
                 .next
                   ((s.countPath p .remarks 1).updPath p fun x =>
                     { x with attempts := x.attempts + 1, repeatTimer := none, state := .finishing })))

/-- When the frame on the line ends: in SENDING the window entry with sequence sent-through + 1 begins, or the line
carries FILL; in PROBING the next MARK begins; in FINISHING the path enters MARKING with the repeat timer started and the
first MARK of the burst; in MARKING the next MARK begins or, the burst over, the path enters REPLAYING if
acknowledged-through is behind sent-through, else SENDING; in REPLAYING the later of the replay cursor and
acknowledged-through + 1 is resent with a raised repeat count while it is at or before the replay end, else the path
returns to SENDING; on the return the backlog drains and the first unsent entry begins (R109 to R111, R113, R136 to R140).
DISABLED and FAILED, whose lines carry FILL, have no frame to end: the clause on them meets only states that no run
reaches. Frame ends in elapsed time are log entry 12, at the rate in use as the frame begins log entry 46, the burst
fields log entry 35. -/
def Obligations.LineFrameEndTakesWhatTheStateCallsFor : Prop :=
  ∀ (s : State) (p : PathId) (u : Nat), s.power ≠ .off → (s.path p).line.endsAt = some u → u ≤ s.elapsed →
    let seek := seqLater (s.path p).replayCursor ((s.path p).ackThrough + 1)
    let resends (seq : PathSeq) (w : WindowPlace) (e : Entry) : Prop :=
      (s.path p).window.find? (fun y => decide (y.seq = seq)) = some w ∧ s.entry? w.entry = some e
    let resent (x : Path) (w : WindowPlace) (e : Entry) : Path :=
      { x with
        window := x.window.map fun y => if y.seq = w.seq then { y with repeats := min (y.repeats + 1) 15 } else y
        replayCursor := w.seq + 1
        line := .data { w with repeats := min (w.repeats + 1) 15 }
          (s.elapsed + ((e.payload + 40) * 8 + s.params.rate - 1) / s.params.rate) }
    let returned : Path := { (s.path p).drained with state := .sending, line := .fill }
    let moved := (s.path p).draining
    let backToSending : Prop :=
      ((∀ w ∈ returned.window, w.seq ≠ returned.sentThrough + 1) →
        exec (.lineFrameEnd p) s =
          .next (({ s with entries := s.entries.map fun e => e.movedBy p moved } : State).updPath p fun _ => returned))
      ∧ (∀ w e, returned.window.find? (fun y => decide (y.seq = returned.sentThrough + 1)) = some w →
          s.entry? w.entry = some e →
          exec (.lineFrameEnd p) s =
            .next
              ((({ s with entries := s.entries.map fun e => e.movedBy p moved } : State).countPath p .dataSent 1).updPath p
                fun _ =>
                  { returned with
                    sentThrough := returned.sentThrough + 1
                    line := .data w (s.elapsed + ((e.payload + 40) * 8 + s.params.rate - 1) / s.params.rate) }))
    (∀ w e, (s.path p).state = .sending →
      (s.path p).window.find? (fun y => decide (y.seq = (s.path p).sentThrough + 1)) = some w →
      s.entry? w.entry = some e →
      exec (.lineFrameEnd p) s =
        .next
          ((s.countPath p .dataSent 1).updPath p fun x =>
            { x with
              sentThrough := x.sentThrough + 1
              line := .data w (s.elapsed + ((e.payload + 40) * 8 + s.params.rate - 1) / s.params.rate) }))
      ∧ ((s.path p).state = .sending →
          (∀ w ∈ (s.path p).window, w.seq ≠ (s.path p).sentThrough + 1) →
          exec (.lineFrameEnd p) s = .next (s.updPath p fun x => { x with line := .fill }))
      ∧ (((s.path p).state = .disabled ∨ (s.path p).state = .failed) →
          exec (.lineFrameEnd p) s = .next (s.updPath p fun x => { x with line := .fill }))
      ∧ ((s.path p).state = .probing →
          exec (.lineFrameEnd p) s =
            .next
              ((s.countPath p .marksSent 1).updPath p fun x =>
                { x with
                  markOrdinal := x.markOrdinal + 1
                  line := .mark x.markOrdinal x.nextSeq (s.now % 2 ^ 32)
                    (s.elapsed + (512 + s.params.rate - 1) / s.params.rate) }))
      ∧ ((s.path p).state = .finishing → 0 < s.params.nMark →
          exec (.lineFrameEnd p) s =
            .next
              ((s.countPath p .marksSent 1).updPath p fun x =>
                { x with
                  state := .marking
                  repeatTimer := some (s.elapsed + s.params.repeatTime * 1000)
                  burstOrdinal := 1, burstLength := s.params.nMark
                  line := .mark 0 (x.ackThrough + 1) (s.now % 2 ^ 32)
                    (s.elapsed + (512 + s.params.rate - 1) / s.params.rate) }))
      ∧ ((s.path p).state = .marking → (s.path p).burstOrdinal < (s.path p).burstLength →
          exec (.lineFrameEnd p) s =
            .next
              ((s.countPath p .marksSent 1).updPath p fun x =>
                { x with
                  burstOrdinal := x.burstOrdinal + 1
                  line := .mark (BitVec.ofNat 8 x.burstOrdinal) (x.ackThrough + 1) (s.now % 2 ^ 32)
                    (s.elapsed + (512 + s.params.rate - 1) / s.params.rate) }))
      ∧ (∀ w e, (s.path p).state = .marking → (s.path p).burstLength ≤ (s.path p).burstOrdinal →
          seqAfter (s.path p).sentThrough (s.path p).ackThrough = true → resends ((s.path p).ackThrough + 1) w e →
          exec (.lineFrameEnd p) s =
            .next
              ((s.countPath p .resent 1).updPath p fun x =>
                { resent x w e with state := .replaying, replayEnd := x.sentThrough }))
      ∧ ((s.path p).state = .marking → (s.path p).burstLength ≤ (s.path p).burstOrdinal →
          seqAfter (s.path p).sentThrough (s.path p).ackThrough = false → backToSending)
      ∧ (∀ w e, (s.path p).state = .replaying → seqAfter seek (s.path p).replayEnd = false → resends seek w e →
          exec (.lineFrameEnd p) s = .next ((s.countPath p .resent 1).updPath p fun x => resent x w e))
      ∧ ((s.path p).state = .replaying → seqAfter seek (s.path p).replayEnd = true → backToSending)

/-- A module poll begins with the read and keeps its 100 ms spacing; each answer takes the poll to its next step (R126).
An answered read clears the count and the module-absent flag; the holdoff of a FAILED path whose module was absent starts
there when the indicator is clear, and when it is set only at the answer to the settings write (R127; the field that
remembers it is log entry 24). A set indicator counts MODULE_RESTARTS and begins the settings write; it changes no state
in DISABLED and FAILED and clears the good run in PROBING (R126). An unanswered poll below the third only counts; with the
module absent a FAILED path takes reason MODULE_ABSENT and stops its holdoff timer (R127; the latch of PATH_CHANGE there
is log entry 37). -/
def Obligations.ModulePollGoesStepByStep : Prop :=
  ∀ (s : State) (p : PathId) (u : Nat), s.power ≠ .off →
    let x := s.path p
    let owes : Prop := x.state = .failed ∧ (x.moduleAbsent = true ∨ x.holdoffOwed = true)
    let started : Option Nat :=
      if owes ∧ 0 < (s.params.path p).holdoff then some (s.elapsed + (s.params.path p).holdoff * 1000000) else x.holdoff
    (x.nextPoll ≤ s.elapsed → x.poll = .idle →
      exec (.modulePoll p) s =
        .next (s.updPath p fun x =>
          { x with poll := .reading (s.elapsed + 1000000), nextPoll := x.nextPoll + 100000000 }))
      ∧ (x.poll = .reading u →
          exec (.moduleReadAnswer p false) s =
            .next (s.updPath p fun x =>
              { x with
                lastIndicator := false, unanswered := 0, moduleAbsent := false, poll := .idle, holdoff := started,
                holdoffOwed := false }))
      ∧ (x.poll = .reading u → (x.state = .disabled ∨ x.state = .failed ∨ x.state = .probing) →
          exec (.moduleReadAnswer p true) s =
            .next ((s.countPath p .moduleRestarts 1).updPath p fun x =>
              { x with
                lastIndicator := true, unanswered := 0, moduleAbsent := false
                poll := .writing (s.params.path p).settings (s.elapsed + 1000000)
                holdoffOwed := if owes then true else false
                goodRun := if x.state = .probing then 0 else x.goodRun }))
      ∧ (∀ block, x.poll = .writing block u →
          exec (.moduleSettingsAnswer p) s =
            .next (s.updPath p fun x =>
              { x with poll := .clearing (s.elapsed + 1000000), holdoff := started, holdoffOwed := false }))
      ∧ (x.poll = .clearing u →
          exec (.moduleClearAnswer p) s = .next (s.updPath p fun x => { x with poll := .idle }))
      ∧ (x.poll.waitsUntil = some u → u ≤ s.elapsed → x.unanswered < 2 → x.moduleAbsent = false →
          exec (.pollUnanswered p) s =
            .next
              ((s.countPath p .pollsUnanswered 1).updPath p fun x =>
                { x with poll := .idle, unanswered := x.unanswered + 1 }))
      ∧ (x.poll.waitsUntil = some u → u ≤ s.elapsed → 2 ≤ x.unanswered → x.state = .failed →
          ∃ t, exec (.pollUnanswered p) s = .next t
            ∧ t = { (s.countPath p .pollsUnanswered 1).updPath p (fun x =>
                { x with
                  poll := .idle, unanswered := min (x.unanswered + 1) 255, moduleAbsent := true,
                  failure := some .moduleAbsent, holdoff := none }) with port := t.port }
            ∧ (x.failure = some .moduleAbsent → t.port = s.port)
            ∧ (x.failure ≠ some .moduleAbsent → t.port.causes = s.port.causes ||| 0x02))

/-! ## House Time -/

/-- A pulse before the host has labelled one, or less than 500,000,000 ns of elapsed time after a taken one, is only
counted (R152). In LOCKED a pulse with an error of at most 10,000 ns starts an ordinary slew of the error, adds an eighth
of it to the trim within ±200,000 ppb, and clears the big-error count (R149, R150, R152, R154). In FREE_RUN and HOLDOVER
such a pulse starts an ordinary slew, enters LOCKED, keeps the trim and latches REFERENCE_CHANGE (R153, R159). That a
trim left unchanged keeps its schedule is log entry 25. -/
def Obligations.SmallErrorsAreSlewedOut : Prop :=
  (∀ s : State, s.power ≠ .off →
     (s.house.labelWritten = false → exec .referencePulse s = .next (s.countPart .pulsesUnlabelled 1))
       ∧ (∀ x, s.house.labelWritten = true → s.house.lastPulse = some x → s.elapsed - x.elapsed < 500000000 →
           exec .referencePulse s = .next (s.countPart .pulsesEarly 1)))
    ∧ (∀ s : State, s.power ≠ .off → s.house.labelWritten = true → s.house.lock = .locked →
         (∀ x, s.house.lastPulse = some x → 500000000 ≤ s.elapsed - x.elapsed) →
         let e : Int := (s.house.pulseSecond * 1000000000 : Nat) - (s.house.time : Int)
         e.natAbs ≤ 10000 →
         ∃ t, exec .referencePulse s = .next t
           ∧ t = { s with house := t.house, active := (s.countPart .pulses 1).active }
           ∧ t.house.time = s.house.time ∧ t.house.lock = .locked ∧ t.house.bigErrors = 0 ∧ t.house.misses = 0
           ∧ t.house.missExpiry = some (s.elapsed + 1500000000)
           ∧ t.house.lastPulse = some ⟨s.house.time, s.elapsed, e⟩
           ∧ t.house.trim = max (-200000) (min 200000 (s.house.trim + e.tdiv 8))
           ∧ (t.house.trim = s.house.trim → t.house.trimNext = s.house.trimNext)
           ∧ (t.house.trim ≠ s.house.trim → t.house.trim ≠ 0 →
               t.house.trimNext = some (s.elapsed + 1000000000 / t.house.trim.natAbs))
           ∧ t.house.slew.remaining = e ∧ (e = 0 → t.house.slew = .none)
           ∧ (e ≠ 0 → t.house.slew.nextAt = some (s.elapsed + 1000000000 / e.natAbs))
           ∧ (s.house.pulseSecond < 18446744072 → t.house.pulseSecond = s.house.pulseSecond + 1)
           ∧ t.house.lastStep = s.house.lastStep)
    ∧ (∀ s : State, s.power ≠ .off → s.house.labelWritten = true → s.house.lock ≠ .locked →
         (∀ x, s.house.lastPulse = some x → 500000000 ≤ s.elapsed - x.elapsed) →
         let e : Int := (s.house.pulseSecond * 1000000000 : Nat) - (s.house.time : Int)
         e.natAbs ≤ 10000 →
         ∃ t, exec .referencePulse s = .next t ∧ t.house.lock = .locked ∧ t.house.trim = s.house.trim
           ∧ t.house.trimNext = s.house.trimNext ∧ t.house.slew.remaining = e ∧ t.house.bigErrors = 0
           ∧ t.port = { s.port with causes := s.port.causes ||| 0x04 } ∧ t.slots = s.slots ∧ t.params = s.params)

/-- In LOCKED, no long slew in progress, the first and the second big error in a row are only counted; the third steps
house time to the pulse second exactly with step enabled, and starts a long slew with step disabled. STEP is latched;
the step sets every idle count to 0 (R39, R155 to R157). In FREE_RUN and HOLDOVER a big error is believed at once, and
House Time locks with the trim kept (R153, R159). During a long slew in LOCKED a big error steps at once with step enabled,
and with step disabled replaces what is left of the slew, the rest of it as it was (R157; log entry 26). These are stated
for a part with every slot FREE and the launcher free. A forward step over the closes of a RUNNING stream with an empty
queue takes each of them in turn, without the test for ABANDONED, and its idle count is 0 after the step (R37 to R39). -/
def Obligations.ThirdBigErrorIsBelieved : Prop :=
  (∀ s : State, s.power ≠ .off → s.house.labelWritten = true → s.house.lock = .locked → s.house.slew.isLong = false →
       (∀ x, s.house.lastPulse = some x → 500000000 ≤ s.elapsed - x.elapsed) →
       (∀ i : Fin 16, (s.slot i).state = .free) → (∀ i : Fin 16, s.due[i] = false) → s.launcher = none →
       let e : Int := (s.house.pulseSecond * 1000000000 : Nat) - (s.house.time : Int)
       10000 < e.natAbs →
       (s.house.bigErrors < 2 →
         ∃ t, exec .referencePulse s = .next t ∧ t.house.bigErrors = s.house.bigErrors + 1
           ∧ t.house.time = s.house.time ∧ t.house.slew = s.house.slew ∧ t.house.trim = s.house.trim
           ∧ t.active = ((s.countPart .pulses 1).countPart .bigErrors 1).active ∧ t.slots = s.slots ∧ t.port = s.port)
         ∧ (s.house.bigErrors = 2 → s.params.stepEnable = true →
             ∃ t, exec .referencePulse s = .next t ∧ t.house.time = s.house.pulseSecond * 1000000000
               ∧ t.house.slew = .none ∧ t.house.bigErrors = 0 ∧ t.house.lastStep = some e
               ∧ t.house.trim = s.house.trim ∧ t.house.lock = .locked
               ∧ (∀ i : Fin 16, t.slot i = { s.slot i with idle := 0 })
               ∧ (e < 0 → t.house.markers = s.house.markers)
               ∧ t.port = { s.port with causes := s.port.causes ||| 0x08 })
         ∧ (s.house.bigErrors = 2 → s.params.stepEnable = false →
             ∃ t, exec .referencePulse s = .next t ∧ t.house.time = s.house.time
               ∧ t.house.slew.isLong = true ∧ t.house.slew.remaining = e
               ∧ t.house.slew.nextAt = some (s.elapsed + 100000) ∧ t.house.bigErrors = 0 ∧ t.house.lastStep = some e
               ∧ t.slots = s.slots ∧ t.port = { s.port with causes := s.port.causes ||| 0x08 }))
    ∧ (∀ s : State, s.power ≠ .off → s.house.labelWritten = true →
         (∀ x, s.house.lastPulse = some x → 500000000 ≤ s.elapsed - x.elapsed) →
         (∀ i : Fin 16, (s.slot i).state = .free) → (∀ i : Fin 16, s.due[i] = false) → s.launcher = none →
         let e : Int := (s.house.pulseSecond * 1000000000 : Nat) - (s.house.time : Int)
         10000 < e.natAbs →
         let slewed (t : State) : Prop :=
           t.house.time = s.house.time ∧ t.house.slew.isLong = true ∧ t.house.slew.remaining = e ∧ t.slots = s.slots
         let stepped (t : State) : Prop :=
           t.house.time = s.house.pulseSecond * 1000000000 ∧ t.house.slew = .none ∧ t.house.lastStep = some e
             ∧ ∀ i : Fin 16, t.slot i = { s.slot i with idle := 0 }
         (s.house.lock ≠ .locked →
           ∃ t, exec .referencePulse s = .next t ∧ t.house.lock = .locked ∧ t.house.trim = s.house.trim
             ∧ t.house.bigErrors = 0 ∧ t.house.lastStep = some e
             ∧ t.port = { s.port with causes := s.port.causes ||| 0x0C }
             ∧ (s.params.stepEnable = true → stepped t)
             ∧ (s.params.stepEnable = false → slewed t ∧ t.house.slew.nextAt = some (s.elapsed + 100000)))
         ∧ (s.house.lock = .locked → s.house.slew.isLong = true →
             ∃ t, exec .referencePulse s = .next t ∧ t.house.lock = .locked ∧ t.house.trim = s.house.trim
               ∧ (s.params.stepEnable = true →
                   stepped t ∧ t.house.bigErrors = 0 ∧ t.port = { s.port with causes := s.port.causes ||| 0x08 })
               ∧ (s.params.stepEnable = false →
                   slewed t ∧ t.house.slew.nextAt = s.house.slew.nextAt ∧ t.house.bigErrors = s.house.bigErrors
                     ∧ t.house.lastStep = s.house.lastStep ∧ t.port = s.port)))
    ∧ (∀ (s : State) (i : Fin 16) (m : Nat), s.power ≠ .off → s.house.labelWritten = true → s.house.lock = .locked →
         s.house.slew.isLong = false → s.house.bigErrors = 2 → s.params.stepEnable = true →
         (∀ x, s.house.lastPulse = some x → 500000000 ≤ s.elapsed - x.elapsed) →
         (∀ j : Fin 16, j ≠ i → (s.slot j).state = .free) → (∀ j : Fin 16, s.due[j] = false) → s.launcher = none →
         (s.slot i).state = .running → (s.slot i).queue = [] → 0 < (s.slot i).n → (s.slot i).n ≤ (s.slot i).d * 1000000000 →
         let target := s.house.pulseSecond * 1000000000
         let c := s.slot i
         s.house.time + 10000 < target → 0 < m → (∀ j, j < m → closeInstant c (c.fc + j) ≤ target) →
         target < closeInstant c (c.fc + m) →
         ∃ t, exec .referencePulse s = .next (s.resumed t) ∧ t.house.time = target
           ∧ (t.slot i).state = .running ∧ (t.slot i).fc = c.fc + m ∧ (t.slot i).idle = 0
           ∧ (t.slot i).lastFrame.frame = c.fc + m - 1 ∧ (t.slot i).released = 0 ∧ (t.slot i).discarded = 0
           ∧ (t.slot i).lastReason = c.lastReason ∧ t.sumA = s.sumA ∧ t.sumB = s.sumB ∧ t.lanes = s.lanes
           ∧ t.slotCount i .framesClosed = capAdd (s.slotCount i .framesClosed) m
           ∧ t.port = { s.port with causes := s.port.causes ||| 0x08 }
           ∧ ∀ j : Fin 16, j ≠ i → t.slot j = { s.slot j with idle := 0 })

/-- PULSE_MISS_EXPIRY counts a miss, grows the pulse second and sets the next expiry; the third miss in LOCKED enters
HOLDOVER with the trim frozen (R151, R158). -/
def Obligations.MissedPulsesLeadToHoldover : Prop :=
  ∀ (s : State) (u : Nat), s.power ≠ .off → s.house.missExpiry = some u → u ≤ s.elapsed → s.house.misses < 255 →
    s.house.pulseSecond < 18446744072 →
    let counted : House :=
      { s.house with
        misses := s.house.misses + 1, pulseSecond := s.house.pulseSecond + 1, missExpiry := some (u + 1000000000) }
    ((s.house.lock = .locked → s.house.misses < 2) →
      exec .pulseMissExpiry s = .next { s with house := counted, active := (s.countPart .pulsesMissed 1).active })
      ∧ (s.house.lock = .locked → 2 ≤ s.house.misses →
          exec .pulseMissExpiry s =
            .next
              { s with
                house := { counted with lock := .holdover, bigErrors := 0 }
                active := (s.countPart .pulsesMissed 1).active
                port := { s.port with causes := s.port.causes ||| 0x04 } })

/-- A trim or slew adjustment of +1 advances house time by one nanosecond at once, one of −1 withholds one nanosecond; the
next falls as R148 and R150 space them. An ordinary slew makes |ε| adjustments in all, adjustment k at
floor(k × 10⁹ / |ε|) ns of elapsed time after its pulse, and then ends (R150). -/
def Obligations.AdjustmentsMoveHouseTimeByOne : Prop :=
  (∀ s : State, s.power ≠ .off → s.house.time + 1 < 2 ^ 64 →
     (∀ u, s.house.trimNext = some u → u ≤ s.elapsed → s.house.trim ≠ 0 →
       ∃ t, exec .trimAdjustment s = .next t ∧ t = { s with house := t.house }
         ∧ t.house.trimNext = some (u + 1000000000 / s.house.trim.natAbs) ∧ t.house.trim = s.house.trim
         ∧ t.house.slew = s.house.slew
         ∧ (0 < s.house.trim → t.house.time = s.house.time + 1 ∧ t.house.withheld = s.house.withheld)
         ∧ (s.house.trim < 0 → t.house.time = s.house.time ∧ t.house.withheld = s.house.withheld + 1))
       ∧ (∀ u, s.house.slew.nextAt = some u → u ≤ s.elapsed →
           ∃ t, exec .slewAdjustment s = .next t ∧ t = { s with house := t.house }
             ∧ t.house.slew = s.house.slew.afterOne ∧ t.house.trim = s.house.trim
             ∧ (s.house.slew.isBack = false → t.house.time = s.house.time + 1 ∧ t.house.withheld = s.house.withheld)
             ∧ (s.house.slew.isBack = true → t.house.time = s.house.time ∧ t.house.withheld = s.house.withheld + 1)))
    ∧ (∀ (start k : Nat) (e : Int), e ≠ 0 →
         let after := Nat.iterate Slew.afterOne k (ordinarySlew start e)
         (k < e.natAbs → after.nextAt = some (start + (k + 1) * 1000000000 / e.natAbs)
           ∧ after.remaining.natAbs = e.natAbs - k ∧ after.isBack = decide (e < 0))
           ∧ (k = e.natAbs → after = .none))

/-- SECOND_MARKER swaps the counter banks, labels the frozen one with the marker's second, zeroes the active one and
latches MARKER (R160, R182). -/
def Obligations.SecondMarkerSwapsTheBanks : Prop :=
  ∀ (s : State) (second : Nat) (rest : List Nat), s.power ≠ .off → s.house.markers = second :: rest →
    exec .secondMarker s =
      .next
        { s with
          house := { s.house with markers := rest }
          port := { s.port with causes := s.port.causes ||| 0x10 }
          frozen := s.active, active := Bank.zero, frozenLabel := some second }

/-! ## Pattern Source -/

/-- The payload of a generated packet: S bytes; bytes 0 to 3 the low 32 bits of the frame, bytes 4 and 5 the index, every
other byte k the region byte at position (index × S + k) mod length, at memory address (offset + position) mod 65,536
(R168). A data byte written at a pointer in the pattern pages goes to its address and no other, and moves the pointer
within its row (R164, R172). -/
def Obligations.PatternMemoryGivesTheStampedPayload : Prop :=
  (∀ (mem : List Host.Cell) (offset length size f index : Nat), 6 ≤ size →
     let bytes := patternPayload mem offset length size f index
     bytes.length = size ∧ field bytes 0 4 = f % 2 ^ 32 ∧ field bytes 4 2 = index % 2 ^ 16
       ∧ ∀ k, 6 ≤ k → k < size →
           byteAt bytes k = readMem mem ((offset + (index * size + k) % length) % 65536))
    ∧ (∀ (s : State) (v : Byte), s.power = .on → s.port.busy = none → 32 ≤ s.port.page → s.port.page ≤ 287 →
         let a := (s.port.page - 32) * 256 + s.port.offset
         ∃ t, exec (.patternMemoryWrite v) s = .next t
           ∧ t = { s with
               patternMem := t.patternMem
               port := { s.port with offset := s.port.offset / 16 * 16 + (s.port.offset + 1) % 16 } }
           ∧ (s.memoriesCanonical → readMem t.patternMem a = v
               ∧ ∀ b, b ≠ a → readMem t.patternMem b = readMem s.patternMem b))

/-- A generation fills the lowest free entry with the stamped region, with owner PATTERN, and spends its cells; the next
packet is the following index, or index 0 of the next frame (R167 to R170). Stated while the queue is not empty, for a
next packet of frame fc or fc + 1. With no free entry the offered packet waits: offered is set, NO_ENTRY is counted, the
next packet stays (R169). An event that ends the last pause of a pattern stream
lets generation resume in it, packet after packet until a condition fails; any other event ends without one (R167; that
the generations come last in the event is log entry 14). -/
def Obligations.PatternGenerationAcceptsTheNextPacket : Prop :=
  (∀ (s : State) (i : Fin 16) (n offset length : Nat), s.power ≠ .off → s.pattern.slot = some i →
     let c := s.slot i
     let f := s.pattern.nextFrame
     let index := s.pattern.nextIndex
     let need := cellsFor c.s
     c.state.takesPackets = true → c.patternRegion = some (offset, length) → 6 ≤ c.s → index < c.k →
     c.fc ≤ f → f ≤ c.fc + 1 → need ≤ s.pattern.outstanding → c.queue ≠ [] → c.queue.length < 512 →
     s.pattern.waitEntry = false → s.freeEntry = some n → need ≤ s.freeCells →
     afterLast c.intake.lastAccepted f index = true →
     ∃ t, exec .patternGeneration s = .next t
       ∧ (t.slot i).queue = c.queue ++ [n]
       ∧ (∃ e ∈ t.entries, e.number = n ∧ e.slot = i ∧ e.owner = .pattern ∧ e.frame = f ∧ e.index = index
           ∧ e.payload = c.s ∧ e.queuedOnly ∧ e.cells.length = need
           ∧ (s.memoriesCanonical →
               payloadFrom t.cellMem e.cells e.payload = patternPayload s.patternMem offset length c.s f index)
           ∧ e.flags = acceptFlags c f index (decide (index = 0)) (decide (index + 1 = c.k)) false)
       ∧ t.pattern =
           { s.pattern with
             outstanding := s.pattern.outstanding - need, offered := false
             nextFrame := if index + 1 < c.k then f else f + 1
             nextIndex := if index + 1 < c.k then index + 1 else 0 }
       ∧ (∀ e ∈ s.entries, e ∈ t.entries) ∧ s.otherSlotsSame t i ∧ t.lanes = s.lanes ∧ t.pathA = s.pathA
       ∧ t.pathB = s.pathB ∧ s.sameSetting t)
    ∧ (∀ (s : State) (i : Fin 16), s.power ≠ .off → s.pattern.slot = some i → s.canGenerate = true →
         (s.slot i).fc ≤ s.pattern.nextFrame → s.freeEntry = none →
         ∃ t, exec .patternGeneration s = .next t
           ∧ t = { s with
               pattern := { s.pattern with offered := true, waitEntry := true }
               active := ((s.countPart .framesSkipped 0).countPart .noEntry 1).active }
           ∧ exec .patternGeneration t = .next t)
    ∧ (∀ (s : State) (i : Fin 16), s.power ≠ .off → s.pattern.slot = some i → s.canGenerate = true →
         s.generationStuck i = false → exec .patternGeneration s = .next (s.generateNext i))
    ∧ (∀ (s t : State) (i : Fin 16), s.isPaused i = true → t.pattern.slot = some i → t.canGenerate = true →
         ∃ n, s.resumed t = Nat.iterate (fun u => u.generateNext i) n t
           ∧ (∀ k, k < n → (Nat.iterate (fun u => u.generateNext i) k t).canGenerate = true)
           ∧ ((s.resumed t).canGenerate = false ∨ (s.resumed t).generationStuck i = true))
    ∧ (∀ s t : State, ((∀ i : Fin 16, s.isPaused i = false) ∨ t.canGenerate = false) → s.resumed t = t)

/-- PATTERN OPEN is judged PATTERN_BUSY, NO_SLOT, BAD_PARAM, CAPACITY in that order; a refusal changes no slot, sum or
Pattern Source state; an accepted one arms the lowest FREE slot, points the Pattern Source at (fs, 0) and shows the
slot, the start frame and the loads (R165). The empty result
row of a refusal is log entry 30, and a presence byte that is neither 0 nor 1 is log entry 20. -/
def Obligations.PatternOpenIsJudgedInOrder : Prop :=
  ∀ s : State, s.hostReady →
    let args := s.port.args.toList
    let o := parseOpen args
    let offset := field args 34 2
    let length := field args 36 3
    let bad := badOpen o || decide (length < o.s) || decide (65536 < length)
    let load := openLoad s.params.rate o
    let start := chooseStart o (patternStart o) s.now
    let loadA := if o.pathSet.a then load else 0
    let loadB := if o.pathSet.b then load else 0
    (s.patternSlot ≠ none → exec .patternOpen s = .next { s with port := s.port.refusedCommand 0x40 .patternBusy })
      ∧ (s.patternSlot = none → s.lowestFree = none →
          exec .patternOpen s = .next { s with port := s.port.refusedCommand 0x40 .noSlot })
      ∧ (s.patternSlot = none → s.lowestFree ≠ none → bad = true →
          exec .patternOpen s = .next { s with port := s.port.refusedCommand 0x40 .badParam })
      ∧ (s.patternSlot = none → s.lowestFree ≠ none → bad = false → s.admits o.pathSet load = false →
          exec .patternOpen s = .next { s with port := s.port.refusedCommand 0x40 .capacity })
      ∧ (∀ i : Fin 16, s.patternSlot = none → s.lowestFree = some i → bad = false → s.admits o.pathSet load = true →
          exec .patternOpen s =
            .next
              { s with
                slots := s.slots.set i (openedSlot .pattern o (patternStart o) (some (offset, length)) load start)
                sumA := s.sumA + loadA, sumB := s.sumB + loadB
                pattern := { s.pattern with
                  slot := some i, nextFrame := start, nextIndex := 0, waitEntry := false, offered := false }
                port := { s.port.wrote 1 1 with
                  result := ⟨.done, none, 0x40, some ⟨i, start, loadA, loadB⟩⟩ } })

/-! ## Commands of the host -/

/-- STREAM CLOSE closes an open slot with reason HOST, whatever its owner, offering CLOSED to an owner lane and latching no
STREAM_CLOSED; refused NOT_OPEN or BAD_PARAM otherwise (R16, R11). PATTERN CLOSE closes the pattern stream with reason
HOST and stops the Pattern Source, with no notice and no STREAM_CLOSED; without one it is refused NOT_OPEN (R166). -/
def Obligations.HostClosesStreams : Prop :=
  (∀ s : State, s.hostReady →
     (∀ (i : Fin 16) (l : Fin 4), s.argIs i.val → (s.slot i).state ≠ .free → (s.slot i).owner = .lane l →
       (s.lane l).queue.length < 32 →
       ∃ t, exec .streamClose s = .next (s.resumed t) ∧ s.closedAs t i .host ∧ (s.entriesRising → s.queueFreed t i)
         ∧ t.port = s.port.answered 0x22
         ∧ (t.lane l).queue = (s.lane l).queue ++ [.closed (s.slot i).tag i .host])
       ∧ (∀ (i : Fin 16) (l : Fin 4), s.argIs i.val → (s.slot i).state ≠ .free → (s.slot i).owner = .lane l →
           (s.lane l).queue.length = 32 →
           ∃ t, exec .streamClose s = .next (s.resumed t) ∧ s.closedAs t i .host
             ∧ (t.lane l).queue = (s.lane l).queue ∧ (t.lane l).lastFault = some .noticeLost
             ∧ t.port.causes = s.port.causes ||| 0x20
             ∧ t.port.laneDetail = s.port.laneDetail ||| (1#4 <<< l.val))
       ∧ (∀ i : Fin 16, s.argIs i.val → (s.slot i).state ≠ .free → (s.slot i).owner = .pattern →
           ∃ t, exec .streamClose s = .next t ∧ s.closedAs t i .host ∧ t.port = s.port.answered 0x22
             ∧ t.pattern.slot = none ∧ t.pattern.offered = false ∧ ∀ l : Fin 4, (t.lane l).queue = (s.lane l).queue)
       ∧ (∀ i : Fin 16, s.argIs i.val → (s.slot i).state = .free →
           exec .streamClose s = .next { s with port := s.port.refusedCommand 0x22 .notOpen })
       ∧ (15 < s.argByte → exec .streamClose s = .next { s with port := s.port.refusedCommand 0x22 .badParam }))
    ∧ (∀ s : State, s.hostReady →
         (s.patternSlot = none → exec .patternClose s = .next { s with port := s.port.refusedCommand 0x41 .notOpen })
           ∧ (∀ i : Fin 16, s.patternSlot = some i →
               ∃ t, exec .patternClose s = .next t ∧ t.port = s.port.answered 0x41 ∧ s.closedAs t i .host
                 ∧ t.pattern = { t.pattern with
                     slot := none, nextFrame := 0, nextIndex := 0, waitEntry := false, offered := false }
                 ∧ ∀ l : Fin 4, (t.lane l).queue = (s.lane l).queue))

/-- STREAM HOLD moves an open slot into the hold set and out of the due set; a FREE slot is refused NOT_OPEN (R46). STREAM
UNHOLD takes a slot out of the hold set, and an eligible head puts it in the due set at once; a slot not held changes
nothing (R47; stated with the launcher in service). A number above 15 is refused BAD_PARAM. -/
def Obligations.HostHoldsAndReleasesStreams : Prop :=
  (∀ s : State, s.hostReady →
     (∀ i : Fin 16, s.argIs i.val → (s.slot i).state ≠ .free →
       exec .streamHold s =
         .next { s with held := s.held.set i true, due := s.due.set i false, port := s.port.answered 0x20 })
       ∧ (∀ i : Fin 16, s.argIs i.val → (s.slot i).state = .free →
           exec .streamHold s = .next { s with port := s.port.refusedCommand 0x20 .notOpen })
       ∧ (15 < s.argByte → exec .streamHold s = .next { s with port := s.port.refusedCommand 0x20 .badParam }))
    ∧ (∀ s : State, s.hostReady → s.launcher ≠ none →
         (∀ i : Fin 16, s.argIs i.val → s.held[i] = true →
           (∀ hd, ((s.slot i).state = .running ∨ (s.slot i).state = .draining) → (s.slot i).head = some hd →
             hd.frame = (s.slot i).fc → hd.eligible ≤ s.now →
             exec .streamUnhold s =
               .next { s with held := s.held.set i false, due := s.due.set i true, port := s.port.answered 0x21 })
           ∧ ((s.slot i).head = none →
             exec .streamUnhold s =
               .next { s with held := s.held.set i false, due := s.due.set i false, port := s.port.answered 0x21 }))
           ∧ (∀ i : Fin 16, s.argIs i.val → s.held[i] = false →
               exec .streamUnhold s = .next { s with port := s.port.answered 0x21 })
           ∧ (15 < s.argByte → exec .streamUnhold s = .next { s with port := s.port.refusedCommand 0x21 .badParam }))

/-- SET LOWEST moves the named slot to the lowest position of the ring, the others keeping their order; ROTATION MODE
sets the ring mode and keeps the order; other arguments are refused BAD_PARAM (R50). -/
def Obligations.RingCommandsSetTheRing : Prop :=
  ∀ s : State, s.hostReady →
    (∀ i : Fin 16, s.argIs i.val →
      exec .setLowest s =
        .next { s with ring := (s.ring.filter fun x => decide (x ≠ i)) ++ [i], port := s.port.answered 0x23 })
      ∧ (15 < s.argByte → exec .setLowest s = .next { s with port := s.port.refusedCommand 0x23 .badParam })
      ∧ (s.argByte = 0 → exec .rotationMode s = .next { s with ringMode := .auto, port := s.port.answered 0x24 })
      ∧ (s.argByte = 1 → exec .rotationMode s = .next { s with ringMode := .fixed, port := s.port.answered 0x24 })
      ∧ (1 < s.argByte → exec .rotationMode s = .next { s with port := s.port.refusedCommand 0x24 .badParam })

/-- PATH ENABLE sets the enable flag, and a DISABLED path starts PROBING with its first MARK; in another state only the flag
changes (R111, R120, R123, R130). PATH RESTART releases the path and starts PROBING from any state but DISABLED, where it
is refused PATH_DISABLED; a MARK on the line of a PROBING path runs on (R120, R125). A value above 1 is refused
BAD_PARAM. That a MARK ends in elapsed time is log entry 12, at the rate in use as it begins log entry 46. -/
def Obligations.PathEnableAndRestartStartProbing : Prop :=
  (∀ s : State, s.hostReady →
     (∀ p : PathId, s.argIs (pathCode p) → (s.path p).state ≠ .disabled →
       exec .pathEnable s =
         .next
           { s with
             params := s.params.updPath p fun x => { x with enabled := true }
             port := s.port.answered 0x10 })
       ∧ (∀ p : PathId, s.argIs (pathCode p) → (s.path p).state = .disabled →
           ∃ t, exec .pathEnable s = .next t ∧ (t.params.path p).enabled = true
             ∧ t.path p = { s.path p with
                 state := .probing, silence := none, holdoff := none, holdoffOwed := false, goodRun := 0, markOrdinal := 1,
                 reportRef := none, ackThrough := (s.path p).nextSeq - 1, sentThrough := (s.path p).nextSeq - 1,
                 line := .mark 0 (s.path p).nextSeq (s.now % 2 ^ 32) (s.elapsed + markTime s.params.rate) }
             ∧ s.streamsSame { t with params := s.params } p ∧ t.entries = s.entries
             ∧ t.port.result = ⟨.done, none, 0x10, none⟩ ∧ t.port.causes = s.port.causes ||| 0x02)
       ∧ (1 < s.argByte → exec .pathEnable s = .next { s with port := s.port.refusedCommand 0x10 .badParam }))
    ∧ (∀ s : State, s.hostReady →
         (∀ p : PathId, s.argIs (pathCode p) → (s.path p).state ≠ .disabled → (s.path p).state ≠ .probing →
           ∃ t, exec .pathRestart s = .next (s.resumed t)
             ∧ t.path p = { s.path p with
                 state := .probing, window := [], backlog := [], ackThrough := (s.path p).nextSeq - 1,
                 sentThrough := (s.path p).nextSeq - 1, silence := none, holdoff := none, holdoffOwed := false,
                 repeatTimer := none, goodRun := 0,
                 markOrdinal := 1, reportRef := none,
                 line := .mark 0 (s.path p).nextSeq (s.now % 2 ^ 32) (s.elapsed + markTime s.params.rate) }
             ∧ s.streamsSame t p
             ∧ t.port.result = ⟨.done, none, 0x12, none⟩ ∧ t.port.causes = s.port.causes ||| 0x02)
           ∧ (∀ p : PathId, s.argIs (pathCode p) → (s.path p).state = .probing → (s.path p).line ≠ .fill →
               ∃ t, exec .pathRestart s = .next (s.resumed t)
                 ∧ t.path p = { s.path p with
                     window := [], backlog := [], ackThrough := (s.path p).nextSeq - 1,
                     sentThrough := (s.path p).nextSeq - 1, silence := none, holdoff := none, holdoffOwed := false,
                     repeatTimer := none, goodRun := 0, markOrdinal := 0, reportRef := none }
                 ∧ s.streamsSame t p
                 ∧ t.port.result = ⟨.done, none, 0x12, none⟩ ∧ t.port.causes = s.port.causes ||| 0x02)
           ∧ (∀ p : PathId, s.argIs (pathCode p) → (s.path p).state = .disabled →
               exec .pathRestart s = .next { s with port := s.port.refusedCommand 0x12 .pathDisabled })
           ∧ (1 < s.argByte → exec .pathRestart s = .next { s with port := s.port.refusedCommand 0x12 .badParam }))

/-- PATH DISABLE clears the enable flag and releases the path: DISABLED, window and backlog empty, timers stopped, the
line at FILL, the failure reason kept. A DISABLED path only answers DONE with the flag clear (R124). -/
def Obligations.PathDisableReleasesThePath : Prop :=
  ∀ s : State, s.hostReady →
    (∀ p : PathId, s.argIs (pathCode p) → (s.path p).state ≠ .disabled →
      ∃ t, exec .pathDisable s = .next (s.resumed t) ∧ (t.params.path p).enabled = false
        ∧ t.path p = { s.path p with
            state := .disabled, window := [], backlog := [], ackThrough := (s.path p).nextSeq - 1,
            sentThrough := (s.path p).nextSeq - 1, silence := none, holdoff := none, holdoffOwed := false,
            repeatTimer := none, line := .fill }
        ∧ s.streamsSame { t with params := s.params } p
        ∧ (∀ e ∈ s.entries, e.number ∉ (s.path p).window.map (fun w => w.entry) →
            e.number ∉ (s.path p).backlog.map (fun b => b.entry) → e ∈ t.entries)
        ∧ t.port.result = ⟨.done, none, 0x11, none⟩ ∧ t.port.causes = s.port.causes ||| 0x02)
      ∧ (∀ p : PathId, s.argIs (pathCode p) → (s.path p).state = .disabled →
          exec .pathDisable s =
            .next
              { s with
                params := s.params.updPath p fun x => { x with enabled := false }
                port := s.port.answered 0x11 })
      ∧ (1 < s.argByte → exec .pathDisable s = .next { s with port := s.port.refusedCommand 0x11 .badParam })

/-- CLEAR: every slot FREE and every entry free, sums zero, the launcher and the hold and due sets empty; every account
at its quota with LANE READY last in its queue; the banks zero; House Time, parameters, ring, pattern memory, cells'
bytes, mask, slot and lane details and store kept (R19, R56, R75, R102, R129, R180 to R183). -/
def Obligations.ClearEmptiesThePart : Prop :=
  ∀ s : State, s.hostReady →
    ∃ t, exec .clear s = .next t
      ∧ (∀ i : Fin 16, (t.slot i).state = .free ∧ t.due[i] = false ∧ t.held[i] = false
          ∧ ((s.slot i).state ≠ .free → (t.slot i).lastReason = some .cleared ∧ (t.slot i).queue = []
              ∧ (t.slot i).intake = ⟨none, false, false, false⟩)
          ∧ ((s.slot i).state = .free → t.slot i = s.slot i))
      ∧ t.sumA = 0 ∧ t.sumB = 0 ∧ t.entries = [] ∧ t.launcher = none ∧ t.ring = s.ring ∧ t.ringMode = s.ringMode
      ∧ (∀ l : Fin 4, (t.lane l).expectation = none
          ∧ (t.lane l).account = ⟨s.params.laneQuota[l], 0, none, false⟩
          ∧ (t.lane l).queue.getLast? = some (.laneReady s.params.laneQuota[l])
          ∧ (t.lane l).sending = (s.lane l).sending ∧ (t.lane l).lastFault = (s.lane l).lastFault)
      ∧ t.pattern.outstanding = s.params.patternQuota
      ∧ (∀ p : PathId, (t.path p).window = [] ∧ (t.path p).backlog = [] ∧ (t.path p).nextSeq = (s.path p).nextSeq
          ∧ (t.path p).attempts = 0 ∧ (t.path p).repeatTimer = none ∧ (t.path p).holdoff = none
          ∧ (t.path p).latest = (s.path p).latest ∧ (t.path p).failure = (s.path p).failure
          ∧ (if (s.path p).state = .disabled then (t.path p).state = .disabled else (t.path p).state = .probing))
      ∧ t.house = s.house ∧ t.params = s.params ∧ t.patternMem = s.patternMem ∧ t.store = s.store ∧ t.cellMem = s.cellMem
      ∧ t.active = Bank.zero ∧ t.frozen = Bank.zero ∧ t.frozenLabel = none
      ∧ t.port.mask = s.port.mask ∧ t.port.slotDetail = s.port.slotDetail ∧ t.port.laneDetail = s.port.laneDetail
      ∧ t.port.result = ⟨.done, none, 0x01, none⟩

/-- STORE takes the parameters as they stand and holds the port silent; its end writes the image, answers DONE or
STORE_FAILED and latches STORE_DONE (R176). RECALL holds the port silent; its end, with an invalid image, reloads nothing,
answers STORE_INVALID and latches it; with a valid one it reloads the parameters, path rate and reserve only while every
slot is FREE, the quotas only while no entry is live (R10, R70, R177). The store holds the image as bytes with a check word,
and what a good one gives back is what was stored (R178, R185). The empty result row of a BUSY command is log entry 30,
the read-back result as an operand of STORE_END at any time log entry 8, and the byte layout of the image log entry 7. -/
def Obligations.StoreAndRecallMoveTheParameters : Prop :=
  (∀ s : State,
     (s.hostReady →
       exec .store s =
         .next
           { s with
             port := { s.port.wrote 1 1 with
               busy := some (.store s.params s.elapsed), result := ⟨.busy, none, 0x02, none⟩ } })
       ∧ (∀ image since, s.power = .on → s.port.busy = some (.store image since) →
           ∀ good : Bool,
             let r : CommandResult := if good then ⟨.done, none, 0x02, none⟩ else ⟨.refused, some .storeFailed, 0x02, none⟩
             exec (.storeEnd good) s =
               .next
                 { s with
                   store := .holding image good
                   port := { s.port with
                     busy := none, result := r, lastLong := some r, causes := s.port.causes ||| 0x40 } }))
    ∧ (∀ s : State,
         (s.hostReady →
           exec .recall s =
             .next
               { s with
                 port := { s.port.wrote 1 1 with
                   busy := some (.recall s.elapsed), result := ⟨.busy, none, 0x03, none⟩ } })
           ∧ (∀ since, s.power = .on → s.port.busy = some (.recall since) →
               (s.store.valid = false →
                 let r : CommandResult := ⟨.refused, some .storeInvalid, 0x03, none⟩
                 exec .recallEnd s =
                   .next
                     { s with
                       port := { s.port with
                         busy := none, result := r, lastLong := some r, storeState := false
                         causes := s.port.causes ||| 0x80 } })
               ∧ (s.store.valid = true →
                   ∃ t, exec .recallEnd s = .next (s.resumed t) ∧ t.port.busy = none ∧ t.port.storeState = true
                     ∧ t.port.result = ⟨.done, none, 0x03, none⟩
                     ∧ t.params.catchUp = s.store.image.catchUp ∧ t.params.idleLimit = s.store.image.idleLimit
                     ∧ t.params.urgent = s.store.image.urgent ∧ t.params.repeatTime = s.store.image.repeatTime
                     ∧ t.params.nMark = s.store.image.nMark ∧ t.params.attemptLimit = s.store.image.attemptLimit
                     ∧ t.params.stepEnable = s.store.image.stepEnable
                     ∧ (∀ p : PathId, t.params.path p = s.store.image.path p)
                     ∧ (if s.allFree then t.params.rate = s.store.image.rate ∧ t.params.reserve = s.store.image.reserve
                         else t.params.rate = s.params.rate ∧ t.params.reserve = s.params.reserve)
                     ∧ (s.entries ≠ [] → t.params.laneQuota = s.params.laneQuota
                         ∧ t.params.patternQuota = s.params.patternQuota)
                     ∧ (s.entries = [] → (∀ l : Fin 4, (s.lane l).queue.length < 32) →
                         t.params.laneQuota = s.store.image.laneQuota
                           ∧ t.params.patternQuota = s.store.image.patternQuota)
                     ∧ t.slots = s.slots ∧ t.house = s.house ∧ t.ring = s.ring ∧ t.held = s.held)))
    ∧ (∀ (q : Params) (good : Bool),
         (Store.holding q good).bytes.length = 100 ∧ (Store.holding q good).valid = good
           ∧ (q.inRange → (Store.holding q good).image = q))

/-! ## Registers -/

/-- A write of a parameter is taken clamped to its range, or refused with its code and nothing changed: path rate and
reserve, which need every slot FREE (R10), the repeat parameters (R133), the catch-up table (R29), the idle limit (R35),
the urgent threshold (R48), step enable (R163), the pulse second (R151). That path rate reports STREAMS_OPEN before
BAD_VALUE is log entry 27. -/
def Obligations.ParameterWritesAreClampedOrRefused : Prop :=
  ∀ s : State, s.hostReady →
    (∀ v : Byte,
      (s.allFree = true → (v = 10 ∨ v = 25 ∨ v = 100) →
        exec (.pathRateWrite v) s =
          .next { s with params := { s.params with rate := v.toNat }, port := s.port.tookWrite 2 1 })
      ∧ (s.allFree = true → v ≠ 10 → v ≠ 25 → v ≠ 100 →
          exec (.pathRateWrite v) s = .next { s with port := s.port.refusedWrite 2 1 .badValue })
      ∧ (s.allFree = false →
          exec (.pathRateWrite v) s = .next { s with port := s.port.refusedWrite 2 1 .streamsOpen }))
      ∧ (∀ v : BitVec 16,
          (s.allFree = true →
            exec (.reserveWrite v) s =
              .next { s with params := { s.params with reserve := min 300 v.toNat }, port := s.port.tookWrite 2 4 })
          ∧ (s.allFree = false →
              exec (.reserveWrite v) s = .next { s with port := s.port.refusedWrite 2 4 .streamsOpen }))
      ∧ (∀ v : BitVec 16,
          exec (.repeatParameterWrite (.repeatTime v)) s =
            .next
              { s with
                params := { s.params with repeatTime := max 50 (min 5000 v.toNat) }
                port := s.port.tookWrite 2 6 })
      ∧ (∀ v : Byte,
          exec (.repeatParameterWrite (.nMark v)) s =
            .next
              { s with params := { s.params with nMark := max 4 (min 63 v.toNat) }, port := s.port.tookWrite 2 7 })
      ∧ (∀ v : Byte,
          exec (.repeatParameterWrite (.attemptLimit v)) s =
            .next
              { s with
                params := { s.params with attemptLimit := max 1 (min 15 v.toNat) }
                port := s.port.tookWrite 2 8 })
      ∧ (∀ (n : Fin 32) (v : Byte),
          exec (.catchUpTableWrite n v) s =
            .next
              { s with
                params := { s.params with catchUp := s.params.catchUp.set n (min v.toNat 3) }
                port := s.port.tookWrite 3 (n.val / 16 * 16 + (n.val + 1) % 16) })
      ∧ (∀ v : Byte,
          exec (.idleLimitWrite v) s =
            .next { s with params := { s.params with idleLimit := v.toNat }, port := s.port.tookWrite 3 33 })
      ∧ (∀ v : Byte,
          exec (.urgentThresholdWrite v) s =
            .next { s with params := { s.params with urgent := min v.toNat 32 }, port := s.port.tookWrite 4 8 })
      ∧ (∀ v : Byte,
          exec (.stepEnableWrite v) s =
            .next
              { s with params := { s.params with stepEnable := decide (v ≠ 0) }, port := s.port.tookWrite 5 10 })
      ∧ (∀ v : BitVec 64,
          exec (.pulseSecondWrite v) s =
            .next
              { s with
                house := { s.house with pulseSecond := min v.toNat 18446744072, labelWritten := true }
                port := s.port.tookWrite 5 24 })

/-- A write of a path parameter is taken clamped to its range (R128). A quota write is refused while an entry is live, when
the five quotas would exceed 16,384, or when the lane has no room for LANE READY; taken, outstanding credits become the
quota and the lane announces it (R70). The order of the refusals is log entry 27. -/
def Obligations.PathParameterAndQuotaWritesAreTaken : Prop :=
  ∀ s : State, s.hostReady →
    (∀ (p : PathId) (v : BitVec 16),
      exec (.pathParameterWrite p (.silence v)) s =
        .next
          { s with
            params := s.params.updPath p fun x => { x with silenceTime := max 100 (min 10000 v.toNat) }
            port := s.port.tookWrite (7 + pathCode p) 66 })
      ∧ (∀ (p : PathId) (v : BitVec 16),
          exec (.pathParameterWrite p (.holdoff v)) s =
            .next
              { s with
                params := s.params.updPath p fun x => { x with holdoff := min 1000 v.toNat }
                port := s.port.tookWrite (7 + pathCode p) 68 })
      ∧ (∀ (p : PathId) (v : Byte),
          exec (.pathParameterWrite p (.nGood v)) s =
            .next
              { s with
                params := s.params.updPath p fun x => { x with nGood := max 1 (min 15 v.toNat) }
                port := s.port.tookWrite (7 + pathCode p) 69 })
      ∧ (∀ (p : PathId) (block : Vector Byte 16),
          exec (.pathParameterWrite p (.settings block)) s =
            .next
              { s with
                params := s.params.updPath p fun x => { x with settings := block }
                port := s.port.tookWrite (7 + pathCode p) 80 })
      ∧ (∀ (o : Owner) (v : BitVec 16),
          (s.entries ≠ [] →
            exec (.quotaWrite o v) s = .next { s with port := s.port.refusedWrite (quotaPage o) 18 .entriesLive })
          ∧ (s.entries = [] → 16384 < (s.params.setQuota o v.toNat).quotaTotal →
              exec (.quotaWrite o v) s = .next { s with port := s.port.refusedWrite (quotaPage o) 18 .quotaSum }))
      ∧ (∀ (l : Fin 4) (v : BitVec 16), s.entries = [] → (s.params.setQuota (.lane l) v.toNat).quotaTotal ≤ 16384 →
          (32 ≤ (s.lane l).queue.length → (s.lane l).queue.any Notice.isCredit = false →
            exec (.quotaWrite (.lane l) v) s =
              .next { s with port := s.port.refusedWrite (9 + l.val) 18 .noticeRoom })
          ∧ (((s.lane l).queue.length < 32 ∨ (s.lane l).queue.any Notice.isCredit = true) →
              exec (.quotaWrite (.lane l) v) s =
                .next
                  { s with
                    params := { s.params with laneQuota := s.params.laneQuota.set l v.toNat }
                    lanes := s.lanes.set l
                      { s.lane l with
                        account := ⟨v.toNat, 0, none, false⟩
                        queue := ((s.lane l).queue.filter fun x => !x.isCredit) ++ [.laneReady v.toNat] }
                    port := s.port.tookWrite (9 + l.val) 18 }))
      ∧ (∀ v : BitVec 16, s.entries = [] → (s.params.setQuota .pattern v.toNat).quotaTotal ≤ 16384 →
          exec (.quotaWrite .pattern v) s =
            .next
              (s.resumed
                { s with
                  params := { s.params with patternQuota := v.toNat }
                  pattern := { s.pattern with outstanding := v.toNat }
                  port := s.port.tookWrite 13 18 }))

/-- The interrupt line is asserted while a cause is latched with its mask flag clear (R181). A write to the cause row clears
the causes of its byte with their detail flags (R180); the mask, the extension flag and the counter selectors take their
bytes (R172, R181, R182); an unknown code is refused BAD_COMMAND, and code 0 changes nothing (R175). A write transaction
of one or two bytes sets the pointer; one at another address, or while the port is silent, changes no register (R172).
A
transaction of page, offset and data does what the parameter write or the command of that place does (R172, R173, R175),
and a row event with a refused item still takes the others and reports the first refusal (R173). What an extension byte
other than 1 does is log entry 19; that a bad path rate written while a slot is open reports STREAMS_OPEN and not BAD_VALUE
is log entry 27. -/
def Obligations.PortItemsFollowTheirWrites : Prop :=
  ∀ s : State,
    (s.interruptLine = true ↔ ∃ k < 8, s.port.causes.getLsbD k = true ∧ s.port.mask.getLsbD k = false)
      ∧ (s.hostReady →
          (∀ v : Byte,
            exec (.causeClearWrite v) s =
              .next
                { s with
                  port := { s.port.wrote 6 1 with
                    causes := s.port.causes &&& ~~~v
                    slotDetail := if v.getLsbD 0 then 0 else s.port.slotDetail
                    pathDetail := if v.getLsbD 1 then 0 else s.port.pathDetail
                    laneDetail := if v.getLsbD 5 then 0 else s.port.laneDetail } })
          ∧ (∀ v : Byte, exec (.maskWrite v) s = .next { s with port := { s.port.wrote 6 17 with mask := v } })
          ∧ (∀ v : Byte,
              exec (.pageExtensionWrite v) s =
                .next { s with port := { s.port.wrote 0 8 with extension := decide (v = 1) } })
          ∧ (∀ v : Byte,
              (v.toNat ≤ 15 →
                exec (.counterSelectorWrite .slots v) s =
                  .next { s with port := { s.port.tookWrite 14 1 with slotSelector := v.toNat } })
              ∧ (15 < v.toNat →
                  exec (.counterSelectorWrite .slots v) s =
                    .next { s with port := s.port.refusedWrite 14 1 .badValue })
              ∧ (v.toNat ≤ 6 →
                  exec (.counterSelectorWrite .part v) s =
                    .next { s with port := { s.port.tookWrite 15 1 with groupSelector := v.toNat } })
              ∧ (6 < v.toNat →
                  exec (.counterSelectorWrite .part v) s =
                    .next { s with port := s.port.refusedWrite 15 1 .badValue }))
          ∧ (∀ code : Byte, unknownCode code = true →
              exec (.badCommand code) s = .next { s with port := s.port.refusedCommand code .badCommand })
          ∧ (∀ target : BitVec 7, s.isTarget target = true →
              exec (.registerWrite target [1, 0, 0]) s = .next { s with port := s.port.wrote 1 1 }))
      ∧ (∀ (target : BitVec 7) (p o : Byte), s.silent = false → s.isTarget target = true →
          let page := if s.port.extension then 256 + p.toNat else p.toNat
          exec (.registerWrite target [p, o]) s =
            .next { s with port := { s.port.wrote page o.toNat with extension := false } }
          ∧ exec (.registerWrite target [p]) s =
            .next { s with port := { s.port.wrote page 0 with extension := false } })
      ∧ (∀ (target : BitVec 7) (bytes : List Byte), s.silent = false → s.isTarget target = false →
          exec (.registerWrite target bytes) s = .next { s with port := { s.port with reading := none } })
      ∧ (∀ (target : BitVec 7) (bytes : List Byte), s.silent = true →
          exec (.registerWrite target bytes) s = .next s)
      ∧ (∀ target : BitVec 7, s.port.extension = false → s.isTarget target = true →
          let writes (page offset : Nat) (data : List Byte) (c : Instr) : Prop :=
            exec (.registerWrite target (BitVec.ofNat 8 page :: BitVec.ofNat 8 offset :: data)) s = exec c s
          writes 1 0 [0x01] .clear ∧ writes 1 0 [0x02] .store ∧ writes 1 0 [0x03] .recall
            ∧ writes 1 0 [0x10] .pathEnable ∧ writes 1 0 [0x11] .pathDisable ∧ writes 1 0 [0x12] .pathRestart
            ∧ writes 1 0 [0x20] .streamHold ∧ writes 1 0 [0x21] .streamUnhold ∧ writes 1 0 [0x22] .streamClose
            ∧ writes 1 0 [0x23] .setLowest ∧ writes 1 0 [0x24] .rotationMode ∧ writes 1 0 [0x30] .laneResetCommand
            ∧ writes 1 0 [0x40] .patternOpen ∧ writes 1 0 [0x41] .patternClose
            ∧ (∀ v : Byte, (unknownCode v = true → writes 1 0 [v] (.badCommand v))
                ∧ writes 2 0 [v] (.pathRateWrite v) ∧ writes 2 6 [v] (.repeatParameterWrite (.nMark v))
                ∧ writes 2 7 [v] (.repeatParameterWrite (.attemptLimit v)) ∧ writes 3 32 [v] (.idleLimitWrite v)
                ∧ (∀ n : Fin 32, writes 3 n.val [v] (.catchUpTableWrite n v))
                ∧ writes 4 7 [v] (.urgentThresholdWrite v) ∧ writes 5 9 [v] (.stepEnableWrite v)
                ∧ (∀ p : PathId, writes (7 + pathCode p) 68 [v] (.pathParameterWrite p (.nGood v)))
                ∧ writes 14 0 [v] (.counterSelectorWrite .slots v) ∧ writes 15 0 [v] (.counterSelectorWrite .part v)
                ∧ writes 6 0 [v] (.causeClearWrite v) ∧ writes 6 16 [v] (.maskWrite v)
                ∧ writes 0 7 [v] (.pageExtensionWrite v))
            ∧ (∀ v : BitVec 16, writes 2 2 (leBytes 2 v.toNat) (.reserveWrite v)
                ∧ writes 2 4 (leBytes 2 v.toNat) (.repeatParameterWrite (.repeatTime v))
                ∧ (∀ p : PathId, writes (7 + pathCode p) 64 (leBytes 2 v.toNat) (.pathParameterWrite p (.silence v))
                    ∧ writes (7 + pathCode p) 66 (leBytes 2 v.toNat) (.pathParameterWrite p (.holdoff v)))
                ∧ (∀ l : Fin 4, writes (9 + l.val) 16 (leBytes 2 v.toNat) (.quotaWrite (.lane l) v))
                ∧ writes 13 16 (leBytes 2 v.toNat) (.quotaWrite .pattern v))
            ∧ (∀ v : BitVec 64, writes 5 16 (leBytes 8 v.toNat) (.pulseSecondWrite v))
            ∧ (∀ (p : PathId) (block : Vector Byte 16),
                writes (7 + pathCode p) 80 block.toList (.pathParameterWrite p (.settings block))))
      ∧ (∀ (target : BitVec 7) (rate gap : Byte) (reserve time : BitVec 16), s.hostReady → s.isTarget target = true →
          let c := Instr.registerWrite target
            ([2, 0, rate, gap] ++ leBytes 2 reserve.toNat ++ leBytes 2 time.toNat)
          let timed : Params := { s.params with repeatTime := max 50 (min 5000 time.toNat) }
          (s.allFree = false →
            exec c s = .next { s with params := timed, port := s.port.refusedWrite 2 6 .streamsOpen })
          ∧ (s.allFree = true → rate ≠ 10 → rate ≠ 25 → rate ≠ 100 →
              exec c s =
                .next
                  { s with
                    params := { timed with reserve := min 300 reserve.toNat }
                    port := s.port.refusedWrite 2 6 .badValue }))

/-- A read transaction gives the bytes of the page from the pointer on, wrapping from 255 to 0, and changes nothing else but
the pointer and the read in progress. A read begun where a whole page is captured goes on giving the captured bytes
whatever has changed since; else the row it stands in keeps the values of its first byte, and later rows give their
values of now. At another address, or while the port is silent, nothing is read (R172, R174). Bytes of the page space by
name (11.2): identity, pool and status figures, parameters, ring and launcher, house time, causes, path, lane and pattern
items, frozen counters, slot views, pattern memory; a page of no content reads zero. The offsets within a row group of a
slot view are log entry 16; items over their size show their low bytes by log entry 31. That a row begun in its midst, or
come to again past offset 255, gives its values of then is log entry 47. -/
def Obligations.ReadsChangeOnlyThePortPointer : Prop :=
  (∀ (s : State) (target : BitVec 7) (count : Nat) (ends : Bool),
     (s.silent = false → s.isTarget target = true → s.port.offset < 256 →
       ∃ t, exec (.snapshotRead target true count ends) s = .next t
         ∧ t = { s with
             port := { s.port with
               offset := (s.port.offset + count) % 256
               reading := t.port.reading
               readOut := (List.range count).map fun k => s.pageByte s.port.page ((s.port.offset + k) % 256) } }
         ∧ (ends = true → t.port.reading = none) ∧ (ends = false → t.port.reading ≠ none)
         ∧ (ends = false → 0 < count →
             let captures : Prop :=
               s.port.page = 14 ∨ s.port.page = 15 ∨ (s.port.page = 4 ∨ s.port.page = 5) ∧ s.port.offset = 0
             let row := (s.port.offset + count - 1) % 256 / 16
             ∃ r, t.port.reading = some r ∧ r.row = some (row, s.rowNow s.port.page row)
               ∧ (captures → r.capture = some ((List.range 256).map fun k => s.pageByte s.port.page k))
               ∧ (¬ captures → r.capture = none)))
       ∧ (∀ r bytes, s.silent = false → s.isTarget target = true → s.port.offset < 256 → s.port.reading = some r →
           r.capture = some bytes →
           ∃ t, exec (.snapshotRead target false count ends) s = .next t
             ∧ t = { s with
                 port := { s.port with
                   offset := (s.port.offset + count) % 256
                   reading := t.port.reading
                   readOut := s.port.readOut
                     ++ (List.range count).map fun k => byteAt bytes ((s.port.offset + k) % 256) } })
       ∧ (∀ r row bytes, s.silent = false → s.isTarget target = true → s.port.offset < 256 →
           s.port.reading = some r → r.capture = none → r.row = some (row, bytes) →
           ∃ t, exec (.snapshotRead target false count ends) s = .next t
             ∧ t = { s with
                 port := { s.port with
                   offset := (s.port.offset + count) % 256
                   reading := t.port.reading
                   readOut := s.port.readOut
                     ++ (List.range count).map fun k =>
                       let at_ := s.port.offset + k
                       if row = s.port.offset / 16 ∧ at_ / 16 = row then byteAt bytes (at_ % 16)
                       else s.pageByte s.port.page (at_ % 256) } })
       ∧ (s.silent = false → s.isTarget target = false →
           exec (.snapshotRead target true count ends) s =
             .next { s with port := { s.port with reading := none } })
       ∧ (∀ starts : Bool, s.silent = true → exec (.snapshotRead target starts count ends) s = .next s))
    ∧ (∀ s : State,
         (s.pageItem 0 0 1 = 0x4E ∧ s.pageItem 0 1 2 = 0x4160 ∧ s.pageItem 0 3 1 = 1
           ∧ s.pageItem 0 16 2 = 8192 - s.entries.length ∧ s.pageItem 0 18 2 = s.freeCells
           ∧ s.pageItem 0 48 1 = s.openCount ∧ s.pageItem 0 50 2 = s.entries.length % 2 ^ 16)
         ∧ (s.pageItem 2 0 1 = s.params.rate % 2 ^ 8 ∧ s.pageItem 2 2 2 = s.params.reserve % 2 ^ 16
           ∧ s.pageItem 2 4 2 = s.params.repeatTime % 2 ^ 16 ∧ s.pageItem 3 32 1 = s.params.idleLimit % 2 ^ 8
           ∧ ∀ k : Fin 32, s.pageItem 3 k 1 = s.params.catchUp[k] % 2 ^ 8)
         ∧ ((∀ i k, s.ring[k]? = some i → k < 16 → s.pageItem 4 (48 + k) 1 = i.val)
           ∧ (s.launcher = none → ∀ off, 16 ≤ off → off < 48 → s.pageByte 4 off = 0)
           ∧ (∀ v, s.launcher = some v → s.pageItem 4 16 1 = 1 ∧ s.pageItem 4 17 1 = v.slot.val
               ∧ s.pageItem 4 20 6 = v.frame % 2 ^ 48 ∧ s.pageItem 4 26 2 = v.index % 2 ^ 16
               ∧ s.pageItem 4 32 8 = v.grantedAt % 2 ^ 64 ∧ s.pageItem 4 40 8 = v.busyUntil % 2 ^ 64))
         ∧ (s.pageItem 5 0 8 = s.house.time % 2 ^ 64 ∧ (s.pageItem 5 12 4 : Int) = s.house.trim % 2 ^ 32
           ∧ s.pageItem 5 16 8 = s.house.pulseSecond % 2 ^ 64
           ∧ s.pageByte 6 0 = s.port.causes ∧ s.pageByte 6 16 = s.port.mask
           ∧ s.pageItem 6 32 2 = s.port.slotDetail.toNat)
         ∧ (∀ p : PathId,
             let page := 7 + pathCode p
             s.pageItem page 4 4 = (s.path p).nextSeq.toNat ∧ s.pageItem page 8 4 = (s.path p).ackThrough.toNat
               ∧ s.pageItem page 12 4 = (s.path p).sentThrough.toNat
               ∧ s.pageItem page 16 2 = (s.path p).window.length % 2 ^ 16
               ∧ s.pageItem page 18 2 = (s.path p).backlog.length % 2 ^ 16
               ∧ (∀ st, (s.path p).latest = some st → s.pageItem page 32 1 = 1
                   ∧ s.pageItem page 33 1 = (if st.repeats then 1 else 0) ∧ s.pageByte page 34 = st.counter
                   ∧ s.pageItem page 40 4 = st.ack.toNat))
         ∧ (∀ l : Fin 4,
             (∀ e, (s.lane l).expectation = some e → s.pageItem (9 + l) 0 2 = e.toNat ∧ s.pageItem (9 + l) 2 1 = 1)
               ∧ s.pageItem (9 + l) 3 1 = (s.lane l).queue.length % 2 ^ 8
               ∧ s.pageItem (9 + l) 12 2 = (s.lane l).account.outstanding % 2 ^ 16
               ∧ s.pageItem (9 + l) 14 2 = (s.lane l).account.pending % 2 ^ 16
               ∧ s.pageItem (9 + l) 16 2 = s.params.laneQuota[l] % 2 ^ 16)
         ∧ (s.pageItem 13 0 1 = (if s.pattern.slot.isSome then 1 else 0)
           ∧ s.pageItem 13 4 6 = s.pattern.nextFrame % 2 ^ 48 ∧ s.pageItem 13 32 2 = s.pattern.outstanding % 2 ^ 16)
         ∧ ((∀ (i : Fin 16) (k : Fin 17), s.port.slotSelector = i.val →
               s.pageItem 14 0 1 = i.val ∧ s.pageItem 14 (16 + 4 * k) 4 = (s.frozen.slots[i])[k] % 2 ^ 32)
           ∧ (∀ k : Fin 19, s.port.groupSelector = 6 → s.pageItem 15 (16 + 4 * k) 4 = s.frozen.part[k] % 2 ^ 32)
           ∧ s.pageItem 15 4 6 = s.frozenLabel.getD 0 % 2 ^ 48)
         ∧ (∀ i : Fin 16, s.pageItem (16 + i) 2 2 = (s.slot i).tag % 2 ^ 16
             ∧ s.pageItem (16 + i) 48 8 = (s.slot i).q % 2 ^ 64 ∧ s.pageItem (16 + i) 80 6 = (s.slot i).fs % 2 ^ 48
             ∧ s.pageItem (16 + i) 86 6 = (s.slot i).fc % 2 ^ 48
             ∧ s.pageItem (16 + i) 144 8 = (s.slot i).aPrev % 2 ^ 64
             ∧ s.pageItem (16 + i) 160 2 = (s.slot i).released % 2 ^ 16
             ∧ s.pageItem (16 + i) 176 6 = (s.slot i).lastFrame.frame % 2 ^ 48)
         ∧ (∀ page off, 32 ≤ page → page ≤ 287 → s.pageByte page off = readMem s.patternMem ((page - 32) * 256 + off))
         ∧ ∀ page off, 288 ≤ page → s.pageByte page off = 0)
end

