-- ==== Sys2Proof/Laws/State.lean ====
section
/-!
SUPPORT. One lemma per field per update: what an update of one part of the state leaves in every other field, and what
it leaves in its own.
-/

namespace Sys2Proof.Machine

open Sys2Proof

/-! ## Slots -/

@[simp] theorem State.updSlot_power (s : State) (i : Fin 16) (f : Slot → Slot) :
    (s.updSlot i f).power = s.power := rfl
@[simp] theorem State.updSlot_elapsed (s : State) (i : Fin 16) (f : Slot → Slot) :
    (s.updSlot i f).elapsed = s.elapsed := rfl
@[simp] theorem State.updSlot_params (s : State) (i : Fin 16) (f : Slot → Slot) :
    (s.updSlot i f).params = s.params := rfl
@[simp] theorem State.updSlot_store (s : State) (i : Fin 16) (f : Slot → Slot) :
    (s.updSlot i f).store = s.store := rfl
@[simp] theorem State.updSlot_sumA (s : State) (i : Fin 16) (f : Slot → Slot) :
    (s.updSlot i f).sumA = s.sumA := rfl
@[simp] theorem State.updSlot_sumB (s : State) (i : Fin 16) (f : Slot → Slot) :
    (s.updSlot i f).sumB = s.sumB := rfl
@[simp] theorem State.updSlot_due (s : State) (i : Fin 16) (f : Slot → Slot) :
    (s.updSlot i f).due = s.due := rfl
@[simp] theorem State.updSlot_held (s : State) (i : Fin 16) (f : Slot → Slot) :
    (s.updSlot i f).held = s.held := rfl
@[simp] theorem State.updSlot_ring (s : State) (i : Fin 16) (f : Slot → Slot) :
    (s.updSlot i f).ring = s.ring := rfl
@[simp] theorem State.updSlot_ringMode (s : State) (i : Fin 16) (f : Slot → Slot) :
    (s.updSlot i f).ringMode = s.ringMode := rfl
@[simp] theorem State.updSlot_launcher (s : State) (i : Fin 16) (f : Slot → Slot) :
    (s.updSlot i f).launcher = s.launcher := rfl
@[simp] theorem State.updSlot_entries (s : State) (i : Fin 16) (f : Slot → Slot) :
    (s.updSlot i f).entries = s.entries := rfl
@[simp] theorem State.updSlot_cellMem (s : State) (i : Fin 16) (f : Slot → Slot) :
    (s.updSlot i f).cellMem = s.cellMem := rfl
@[simp] theorem State.updSlot_lanes (s : State) (i : Fin 16) (f : Slot → Slot) :
    (s.updSlot i f).lanes = s.lanes := rfl
@[simp] theorem State.updSlot_pathA (s : State) (i : Fin 16) (f : Slot → Slot) :
    (s.updSlot i f).pathA = s.pathA := rfl
@[simp] theorem State.updSlot_pathB (s : State) (i : Fin 16) (f : Slot → Slot) :
    (s.updSlot i f).pathB = s.pathB := rfl
@[simp] theorem State.updSlot_house (s : State) (i : Fin 16) (f : Slot → Slot) :
    (s.updSlot i f).house = s.house := rfl
@[simp] theorem State.updSlot_pattern (s : State) (i : Fin 16) (f : Slot → Slot) :
    (s.updSlot i f).pattern = s.pattern := rfl
@[simp] theorem State.updSlot_patternMem (s : State) (i : Fin 16) (f : Slot → Slot) :
    (s.updSlot i f).patternMem = s.patternMem := rfl
@[simp] theorem State.updSlot_port (s : State) (i : Fin 16) (f : Slot → Slot) :
    (s.updSlot i f).port = s.port := rfl
@[simp] theorem State.updSlot_active (s : State) (i : Fin 16) (f : Slot → Slot) :
    (s.updSlot i f).active = s.active := rfl
@[simp] theorem State.updSlot_frozen (s : State) (i : Fin 16) (f : Slot → Slot) :
    (s.updSlot i f).frozen = s.frozen := rfl
@[simp] theorem State.updSlot_frozenLabel (s : State) (i : Fin 16) (f : Slot → Slot) :
    (s.updSlot i f).frozenLabel = s.frozenLabel := rfl
@[simp] theorem State.updSlot_freeCount (s : State) (i : Fin 16) (f : Slot → Slot) :
    (s.updSlot i f).freeCount = s.freeCount := rfl
@[simp] theorem State.updSlot_pending (s : State) (i : Fin 16) (f : Slot → Slot) :
    (s.updSlot i f).pending = s.pending := rfl

@[simp] theorem State.slot_updSlot (s : State) (i : Fin 16) (f : Slot → Slot) : (s.updSlot i f).slot i = f (s.slot i) := by
  simp [State.slot, State.updSlot]

theorem State.slot_updSlot_ne (s : State) (i j : Fin 16) (f : Slot → Slot) (h : j ≠ i) :
    (s.updSlot i f).slot j = s.slot j := by
  have : (i : Nat) ≠ j := fun e => h (Fin.ext e.symm)
  simp [State.slot, State.updSlot, this]

/-! ## Lanes -/

@[simp] theorem State.updLane_power (s : State) (l : Fin 4) (f : Lane → Lane) :
    (s.updLane l f).power = s.power := rfl
@[simp] theorem State.updLane_elapsed (s : State) (l : Fin 4) (f : Lane → Lane) :
    (s.updLane l f).elapsed = s.elapsed := rfl
@[simp] theorem State.updLane_params (s : State) (l : Fin 4) (f : Lane → Lane) :
    (s.updLane l f).params = s.params := rfl
@[simp] theorem State.updLane_store (s : State) (l : Fin 4) (f : Lane → Lane) :
    (s.updLane l f).store = s.store := rfl
@[simp] theorem State.updLane_slots (s : State) (l : Fin 4) (f : Lane → Lane) :
    (s.updLane l f).slots = s.slots := rfl
@[simp] theorem State.updLane_sumA (s : State) (l : Fin 4) (f : Lane → Lane) :
    (s.updLane l f).sumA = s.sumA := rfl
@[simp] theorem State.updLane_sumB (s : State) (l : Fin 4) (f : Lane → Lane) :
    (s.updLane l f).sumB = s.sumB := rfl
@[simp] theorem State.updLane_due (s : State) (l : Fin 4) (f : Lane → Lane) :
    (s.updLane l f).due = s.due := rfl
@[simp] theorem State.updLane_held (s : State) (l : Fin 4) (f : Lane → Lane) :
    (s.updLane l f).held = s.held := rfl
@[simp] theorem State.updLane_ring (s : State) (l : Fin 4) (f : Lane → Lane) :
    (s.updLane l f).ring = s.ring := rfl
@[simp] theorem State.updLane_ringMode (s : State) (l : Fin 4) (f : Lane → Lane) :
    (s.updLane l f).ringMode = s.ringMode := rfl
@[simp] theorem State.updLane_launcher (s : State) (l : Fin 4) (f : Lane → Lane) :
    (s.updLane l f).launcher = s.launcher := rfl
@[simp] theorem State.updLane_entries (s : State) (l : Fin 4) (f : Lane → Lane) :
    (s.updLane l f).entries = s.entries := rfl
@[simp] theorem State.updLane_cellMem (s : State) (l : Fin 4) (f : Lane → Lane) :
    (s.updLane l f).cellMem = s.cellMem := rfl
@[simp] theorem State.updLane_pathA (s : State) (l : Fin 4) (f : Lane → Lane) :
    (s.updLane l f).pathA = s.pathA := rfl
@[simp] theorem State.updLane_pathB (s : State) (l : Fin 4) (f : Lane → Lane) :
    (s.updLane l f).pathB = s.pathB := rfl
@[simp] theorem State.updLane_house (s : State) (l : Fin 4) (f : Lane → Lane) :
    (s.updLane l f).house = s.house := rfl
@[simp] theorem State.updLane_pattern (s : State) (l : Fin 4) (f : Lane → Lane) :
    (s.updLane l f).pattern = s.pattern := rfl
@[simp] theorem State.updLane_patternMem (s : State) (l : Fin 4) (f : Lane → Lane) :
    (s.updLane l f).patternMem = s.patternMem := rfl
@[simp] theorem State.updLane_port (s : State) (l : Fin 4) (f : Lane → Lane) :
    (s.updLane l f).port = s.port := rfl
@[simp] theorem State.updLane_active (s : State) (l : Fin 4) (f : Lane → Lane) :
    (s.updLane l f).active = s.active := rfl
@[simp] theorem State.updLane_frozen (s : State) (l : Fin 4) (f : Lane → Lane) :
    (s.updLane l f).frozen = s.frozen := rfl
@[simp] theorem State.updLane_frozenLabel (s : State) (l : Fin 4) (f : Lane → Lane) :
    (s.updLane l f).frozenLabel = s.frozenLabel := rfl
@[simp] theorem State.updLane_freeCount (s : State) (l : Fin 4) (f : Lane → Lane) :
    (s.updLane l f).freeCount = s.freeCount := rfl
@[simp] theorem State.updLane_pending (s : State) (l : Fin 4) (f : Lane → Lane) :
    (s.updLane l f).pending = s.pending := rfl

@[simp] theorem State.lane_updLane (s : State) (l : Fin 4) (f : Lane → Lane) : (s.updLane l f).lane l = f (s.lane l) := by
  simp [State.lane, State.updLane]

theorem State.lane_updLane_ne (s : State) (l m : Fin 4) (f : Lane → Lane) (h : m ≠ l) :
    (s.updLane l f).lane m = s.lane m := by
  have : (l : Nat) ≠ m := fun e => h (Fin.ext e.symm)
  simp [State.lane, State.updLane, this]

/-! ## Paths -/

@[simp] theorem State.updPath_power (s : State) (p : PathId) (f : Path → Path) :
    (s.updPath p f).power = s.power := by cases p <;> rfl
@[simp] theorem State.updPath_elapsed (s : State) (p : PathId) (f : Path → Path) :
    (s.updPath p f).elapsed = s.elapsed := by cases p <;> rfl
@[simp] theorem State.updPath_params (s : State) (p : PathId) (f : Path → Path) :
    (s.updPath p f).params = s.params := by cases p <;> rfl
@[simp] theorem State.updPath_store (s : State) (p : PathId) (f : Path → Path) :
    (s.updPath p f).store = s.store := by cases p <;> rfl
@[simp] theorem State.updPath_slots (s : State) (p : PathId) (f : Path → Path) :
    (s.updPath p f).slots = s.slots := by cases p <;> rfl
@[simp] theorem State.updPath_sumA (s : State) (p : PathId) (f : Path → Path) :
    (s.updPath p f).sumA = s.sumA := by cases p <;> rfl
@[simp] theorem State.updPath_sumB (s : State) (p : PathId) (f : Path → Path) :
    (s.updPath p f).sumB = s.sumB := by cases p <;> rfl
@[simp] theorem State.updPath_due (s : State) (p : PathId) (f : Path → Path) :
    (s.updPath p f).due = s.due := by cases p <;> rfl
@[simp] theorem State.updPath_held (s : State) (p : PathId) (f : Path → Path) :
    (s.updPath p f).held = s.held := by cases p <;> rfl
@[simp] theorem State.updPath_ring (s : State) (p : PathId) (f : Path → Path) :
    (s.updPath p f).ring = s.ring := by cases p <;> rfl
@[simp] theorem State.updPath_ringMode (s : State) (p : PathId) (f : Path → Path) :
    (s.updPath p f).ringMode = s.ringMode := by cases p <;> rfl
@[simp] theorem State.updPath_launcher (s : State) (p : PathId) (f : Path → Path) :
    (s.updPath p f).launcher = s.launcher := by cases p <;> rfl
@[simp] theorem State.updPath_entries (s : State) (p : PathId) (f : Path → Path) :
    (s.updPath p f).entries = s.entries := by cases p <;> rfl
@[simp] theorem State.updPath_cellMem (s : State) (p : PathId) (f : Path → Path) :
    (s.updPath p f).cellMem = s.cellMem := by cases p <;> rfl
@[simp] theorem State.updPath_lanes (s : State) (p : PathId) (f : Path → Path) :
    (s.updPath p f).lanes = s.lanes := by cases p <;> rfl
@[simp] theorem State.updPath_house (s : State) (p : PathId) (f : Path → Path) :
    (s.updPath p f).house = s.house := by cases p <;> rfl
@[simp] theorem State.updPath_pattern (s : State) (p : PathId) (f : Path → Path) :
    (s.updPath p f).pattern = s.pattern := by cases p <;> rfl
@[simp] theorem State.updPath_patternMem (s : State) (p : PathId) (f : Path → Path) :
    (s.updPath p f).patternMem = s.patternMem := by cases p <;> rfl
@[simp] theorem State.updPath_port (s : State) (p : PathId) (f : Path → Path) :
    (s.updPath p f).port = s.port := by cases p <;> rfl
@[simp] theorem State.updPath_active (s : State) (p : PathId) (f : Path → Path) :
    (s.updPath p f).active = s.active := by cases p <;> rfl
@[simp] theorem State.updPath_frozen (s : State) (p : PathId) (f : Path → Path) :
    (s.updPath p f).frozen = s.frozen := by cases p <;> rfl
@[simp] theorem State.updPath_frozenLabel (s : State) (p : PathId) (f : Path → Path) :
    (s.updPath p f).frozenLabel = s.frozenLabel := by cases p <;> rfl
@[simp] theorem State.updPath_freeCount (s : State) (p : PathId) (f : Path → Path) :
    (s.updPath p f).freeCount = s.freeCount := by cases p <;> rfl
@[simp] theorem State.updPath_pending (s : State) (p : PathId) (f : Path → Path) :
    (s.updPath p f).pending = s.pending := by cases p <;> rfl

@[simp] theorem State.path_updPath (s : State) (p : PathId) (f : Path → Path) : (s.updPath p f).path p = f (s.path p) := by
  cases p <;> rfl

@[simp] theorem State.path_updPath_other (s : State) (p : PathId) (f : Path → Path) :
    (s.updPath p f).path (otherPath p) = s.path (otherPath p) := by
  cases p <;> rfl

/-! ## House -/

@[simp] theorem State.updHouse_power (s : State) (f : House → House) :
    (s.updHouse f).power = s.power := rfl
@[simp] theorem State.updHouse_elapsed (s : State) (f : House → House) :
    (s.updHouse f).elapsed = s.elapsed := rfl
@[simp] theorem State.updHouse_params (s : State) (f : House → House) :
    (s.updHouse f).params = s.params := rfl
@[simp] theorem State.updHouse_store (s : State) (f : House → House) :
    (s.updHouse f).store = s.store := rfl
@[simp] theorem State.updHouse_slots (s : State) (f : House → House) :
    (s.updHouse f).slots = s.slots := rfl
@[simp] theorem State.updHouse_sumA (s : State) (f : House → House) :
    (s.updHouse f).sumA = s.sumA := rfl
@[simp] theorem State.updHouse_sumB (s : State) (f : House → House) :
    (s.updHouse f).sumB = s.sumB := rfl
@[simp] theorem State.updHouse_due (s : State) (f : House → House) :
    (s.updHouse f).due = s.due := rfl
@[simp] theorem State.updHouse_held (s : State) (f : House → House) :
    (s.updHouse f).held = s.held := rfl
@[simp] theorem State.updHouse_ring (s : State) (f : House → House) :
    (s.updHouse f).ring = s.ring := rfl
@[simp] theorem State.updHouse_ringMode (s : State) (f : House → House) :
    (s.updHouse f).ringMode = s.ringMode := rfl
@[simp] theorem State.updHouse_launcher (s : State) (f : House → House) :
    (s.updHouse f).launcher = s.launcher := rfl
@[simp] theorem State.updHouse_entries (s : State) (f : House → House) :
    (s.updHouse f).entries = s.entries := rfl
@[simp] theorem State.updHouse_cellMem (s : State) (f : House → House) :
    (s.updHouse f).cellMem = s.cellMem := rfl
@[simp] theorem State.updHouse_lanes (s : State) (f : House → House) :
    (s.updHouse f).lanes = s.lanes := rfl
@[simp] theorem State.updHouse_pathA (s : State) (f : House → House) :
    (s.updHouse f).pathA = s.pathA := rfl
@[simp] theorem State.updHouse_pathB (s : State) (f : House → House) :
    (s.updHouse f).pathB = s.pathB := rfl
@[simp] theorem State.updHouse_pattern (s : State) (f : House → House) :
    (s.updHouse f).pattern = s.pattern := rfl
@[simp] theorem State.updHouse_patternMem (s : State) (f : House → House) :
    (s.updHouse f).patternMem = s.patternMem := rfl
@[simp] theorem State.updHouse_port (s : State) (f : House → House) :
    (s.updHouse f).port = s.port := rfl
@[simp] theorem State.updHouse_active (s : State) (f : House → House) :
    (s.updHouse f).active = s.active := rfl
@[simp] theorem State.updHouse_frozen (s : State) (f : House → House) :
    (s.updHouse f).frozen = s.frozen := rfl
@[simp] theorem State.updHouse_frozenLabel (s : State) (f : House → House) :
    (s.updHouse f).frozenLabel = s.frozenLabel := rfl
@[simp] theorem State.updHouse_freeCount (s : State) (f : House → House) :
    (s.updHouse f).freeCount = s.freeCount := rfl
@[simp] theorem State.updHouse_pending (s : State) (f : House → House) :
    (s.updHouse f).pending = s.pending := rfl

@[simp] theorem State.updHouse_house (s : State) (f : House → House) : (s.updHouse f).house = f s.house := rfl

/-! ## Port -/

@[simp] theorem State.updPort_power (s : State) (f : Port → Port) :
    (s.updPort f).power = s.power := rfl
@[simp] theorem State.updPort_elapsed (s : State) (f : Port → Port) :
    (s.updPort f).elapsed = s.elapsed := rfl
@[simp] theorem State.updPort_params (s : State) (f : Port → Port) :
    (s.updPort f).params = s.params := rfl
@[simp] theorem State.updPort_store (s : State) (f : Port → Port) :
    (s.updPort f).store = s.store := rfl
@[simp] theorem State.updPort_slots (s : State) (f : Port → Port) :
    (s.updPort f).slots = s.slots := rfl
@[simp] theorem State.updPort_sumA (s : State) (f : Port → Port) :
    (s.updPort f).sumA = s.sumA := rfl
@[simp] theorem State.updPort_sumB (s : State) (f : Port → Port) :
    (s.updPort f).sumB = s.sumB := rfl
@[simp] theorem State.updPort_due (s : State) (f : Port → Port) :
    (s.updPort f).due = s.due := rfl
@[simp] theorem State.updPort_held (s : State) (f : Port → Port) :
    (s.updPort f).held = s.held := rfl
@[simp] theorem State.updPort_ring (s : State) (f : Port → Port) :
    (s.updPort f).ring = s.ring := rfl
@[simp] theorem State.updPort_ringMode (s : State) (f : Port → Port) :
    (s.updPort f).ringMode = s.ringMode := rfl
@[simp] theorem State.updPort_launcher (s : State) (f : Port → Port) :
    (s.updPort f).launcher = s.launcher := rfl
@[simp] theorem State.updPort_entries (s : State) (f : Port → Port) :
    (s.updPort f).entries = s.entries := rfl
@[simp] theorem State.updPort_cellMem (s : State) (f : Port → Port) :
    (s.updPort f).cellMem = s.cellMem := rfl
@[simp] theorem State.updPort_lanes (s : State) (f : Port → Port) :
    (s.updPort f).lanes = s.lanes := rfl
@[simp] theorem State.updPort_pathA (s : State) (f : Port → Port) :
    (s.updPort f).pathA = s.pathA := rfl
@[simp] theorem State.updPort_pathB (s : State) (f : Port → Port) :
    (s.updPort f).pathB = s.pathB := rfl
@[simp] theorem State.updPort_house (s : State) (f : Port → Port) :
    (s.updPort f).house = s.house := rfl
@[simp] theorem State.updPort_pattern (s : State) (f : Port → Port) :
    (s.updPort f).pattern = s.pattern := rfl
@[simp] theorem State.updPort_patternMem (s : State) (f : Port → Port) :
    (s.updPort f).patternMem = s.patternMem := rfl
@[simp] theorem State.updPort_active (s : State) (f : Port → Port) :
    (s.updPort f).active = s.active := rfl
@[simp] theorem State.updPort_frozen (s : State) (f : Port → Port) :
    (s.updPort f).frozen = s.frozen := rfl
@[simp] theorem State.updPort_frozenLabel (s : State) (f : Port → Port) :
    (s.updPort f).frozenLabel = s.frozenLabel := rfl
@[simp] theorem State.updPort_freeCount (s : State) (f : Port → Port) :
    (s.updPort f).freeCount = s.freeCount := rfl
@[simp] theorem State.updPort_pending (s : State) (f : Port → Port) :
    (s.updPort f).pending = s.pending := rfl

@[simp] theorem State.updPort_port (s : State) (f : Port → Port) : (s.updPort f).port = f s.port := rfl

/-! ## PatternSource -/

@[simp] theorem State.updPattern_power (s : State) (f : PatternSource → PatternSource) :
    (s.updPattern f).power = s.power := rfl
@[simp] theorem State.updPattern_elapsed (s : State) (f : PatternSource → PatternSource) :
    (s.updPattern f).elapsed = s.elapsed := rfl
@[simp] theorem State.updPattern_params (s : State) (f : PatternSource → PatternSource) :
    (s.updPattern f).params = s.params := rfl
@[simp] theorem State.updPattern_store (s : State) (f : PatternSource → PatternSource) :
    (s.updPattern f).store = s.store := rfl
@[simp] theorem State.updPattern_slots (s : State) (f : PatternSource → PatternSource) :
    (s.updPattern f).slots = s.slots := rfl
@[simp] theorem State.updPattern_sumA (s : State) (f : PatternSource → PatternSource) :
    (s.updPattern f).sumA = s.sumA := rfl
@[simp] theorem State.updPattern_sumB (s : State) (f : PatternSource → PatternSource) :
    (s.updPattern f).sumB = s.sumB := rfl
@[simp] theorem State.updPattern_due (s : State) (f : PatternSource → PatternSource) :
    (s.updPattern f).due = s.due := rfl
@[simp] theorem State.updPattern_held (s : State) (f : PatternSource → PatternSource) :
    (s.updPattern f).held = s.held := rfl
@[simp] theorem State.updPattern_ring (s : State) (f : PatternSource → PatternSource) :
    (s.updPattern f).ring = s.ring := rfl
@[simp] theorem State.updPattern_ringMode (s : State) (f : PatternSource → PatternSource) :
    (s.updPattern f).ringMode = s.ringMode := rfl
@[simp] theorem State.updPattern_launcher (s : State) (f : PatternSource → PatternSource) :
    (s.updPattern f).launcher = s.launcher := rfl
@[simp] theorem State.updPattern_entries (s : State) (f : PatternSource → PatternSource) :
    (s.updPattern f).entries = s.entries := rfl
@[simp] theorem State.updPattern_cellMem (s : State) (f : PatternSource → PatternSource) :
    (s.updPattern f).cellMem = s.cellMem := rfl
@[simp] theorem State.updPattern_lanes (s : State) (f : PatternSource → PatternSource) :
    (s.updPattern f).lanes = s.lanes := rfl
@[simp] theorem State.updPattern_pathA (s : State) (f : PatternSource → PatternSource) :
    (s.updPattern f).pathA = s.pathA := rfl
@[simp] theorem State.updPattern_pathB (s : State) (f : PatternSource → PatternSource) :
    (s.updPattern f).pathB = s.pathB := rfl
@[simp] theorem State.updPattern_house (s : State) (f : PatternSource → PatternSource) :
    (s.updPattern f).house = s.house := rfl
@[simp] theorem State.updPattern_patternMem (s : State) (f : PatternSource → PatternSource) :
    (s.updPattern f).patternMem = s.patternMem := rfl
@[simp] theorem State.updPattern_port (s : State) (f : PatternSource → PatternSource) :
    (s.updPattern f).port = s.port := rfl
@[simp] theorem State.updPattern_active (s : State) (f : PatternSource → PatternSource) :
    (s.updPattern f).active = s.active := rfl
@[simp] theorem State.updPattern_frozen (s : State) (f : PatternSource → PatternSource) :
    (s.updPattern f).frozen = s.frozen := rfl
@[simp] theorem State.updPattern_frozenLabel (s : State) (f : PatternSource → PatternSource) :
    (s.updPattern f).frozenLabel = s.frozenLabel := rfl
@[simp] theorem State.updPattern_freeCount (s : State) (f : PatternSource → PatternSource) :
    (s.updPattern f).freeCount = s.freeCount := rfl
@[simp] theorem State.updPattern_pending (s : State) (f : PatternSource → PatternSource) :
    (s.updPattern f).pending = s.pending := rfl

@[simp] theorem State.updPattern_pattern (s : State) (f : PatternSource → PatternSource) : (s.updPattern f).pattern = f s.pattern := rfl

/-! ## Params -/

@[simp] theorem State.updParams_power (s : State) (f : Params → Params) :
    (s.updParams f).power = s.power := rfl
@[simp] theorem State.updParams_elapsed (s : State) (f : Params → Params) :
    (s.updParams f).elapsed = s.elapsed := rfl
@[simp] theorem State.updParams_store (s : State) (f : Params → Params) :
    (s.updParams f).store = s.store := rfl
@[simp] theorem State.updParams_slots (s : State) (f : Params → Params) :
    (s.updParams f).slots = s.slots := rfl
@[simp] theorem State.updParams_sumA (s : State) (f : Params → Params) :
    (s.updParams f).sumA = s.sumA := rfl
@[simp] theorem State.updParams_sumB (s : State) (f : Params → Params) :
    (s.updParams f).sumB = s.sumB := rfl
@[simp] theorem State.updParams_due (s : State) (f : Params → Params) :
    (s.updParams f).due = s.due := rfl
@[simp] theorem State.updParams_held (s : State) (f : Params → Params) :
    (s.updParams f).held = s.held := rfl
@[simp] theorem State.updParams_ring (s : State) (f : Params → Params) :
    (s.updParams f).ring = s.ring := rfl
@[simp] theorem State.updParams_ringMode (s : State) (f : Params → Params) :
    (s.updParams f).ringMode = s.ringMode := rfl
@[simp] theorem State.updParams_launcher (s : State) (f : Params → Params) :
    (s.updParams f).launcher = s.launcher := rfl
@[simp] theorem State.updParams_entries (s : State) (f : Params → Params) :
    (s.updParams f).entries = s.entries := rfl
@[simp] theorem State.updParams_cellMem (s : State) (f : Params → Params) :
    (s.updParams f).cellMem = s.cellMem := rfl
@[simp] theorem State.updParams_lanes (s : State) (f : Params → Params) :
    (s.updParams f).lanes = s.lanes := rfl
@[simp] theorem State.updParams_pathA (s : State) (f : Params → Params) :
    (s.updParams f).pathA = s.pathA := rfl
@[simp] theorem State.updParams_pathB (s : State) (f : Params → Params) :
    (s.updParams f).pathB = s.pathB := rfl
@[simp] theorem State.updParams_house (s : State) (f : Params → Params) :
    (s.updParams f).house = s.house := rfl
@[simp] theorem State.updParams_pattern (s : State) (f : Params → Params) :
    (s.updParams f).pattern = s.pattern := rfl
@[simp] theorem State.updParams_patternMem (s : State) (f : Params → Params) :
    (s.updParams f).patternMem = s.patternMem := rfl
@[simp] theorem State.updParams_port (s : State) (f : Params → Params) :
    (s.updParams f).port = s.port := rfl
@[simp] theorem State.updParams_active (s : State) (f : Params → Params) :
    (s.updParams f).active = s.active := rfl
@[simp] theorem State.updParams_frozen (s : State) (f : Params → Params) :
    (s.updParams f).frozen = s.frozen := rfl
@[simp] theorem State.updParams_frozenLabel (s : State) (f : Params → Params) :
    (s.updParams f).frozenLabel = s.frozenLabel := rfl
@[simp] theorem State.updParams_freeCount (s : State) (f : Params → Params) :
    (s.updParams f).freeCount = s.freeCount := rfl
@[simp] theorem State.updParams_pending (s : State) (f : Params → Params) :
    (s.updParams f).pending = s.pending := rfl

@[simp] theorem State.updParams_params (s : State) (f : Params → Params) : (s.updParams f).params = f s.params := rfl

/-! ## Bank -/

@[simp] theorem State.updActive_power (s : State) (f : Bank → Bank) :
    (s.updActive f).power = s.power := rfl
@[simp] theorem State.updActive_elapsed (s : State) (f : Bank → Bank) :
    (s.updActive f).elapsed = s.elapsed := rfl
@[simp] theorem State.updActive_params (s : State) (f : Bank → Bank) :
    (s.updActive f).params = s.params := rfl
@[simp] theorem State.updActive_store (s : State) (f : Bank → Bank) :
    (s.updActive f).store = s.store := rfl
@[simp] theorem State.updActive_slots (s : State) (f : Bank → Bank) :
    (s.updActive f).slots = s.slots := rfl
@[simp] theorem State.updActive_sumA (s : State) (f : Bank → Bank) :
    (s.updActive f).sumA = s.sumA := rfl
@[simp] theorem State.updActive_sumB (s : State) (f : Bank → Bank) :
    (s.updActive f).sumB = s.sumB := rfl
@[simp] theorem State.updActive_due (s : State) (f : Bank → Bank) :
    (s.updActive f).due = s.due := rfl
@[simp] theorem State.updActive_held (s : State) (f : Bank → Bank) :
    (s.updActive f).held = s.held := rfl
@[simp] theorem State.updActive_ring (s : State) (f : Bank → Bank) :
    (s.updActive f).ring = s.ring := rfl
@[simp] theorem State.updActive_ringMode (s : State) (f : Bank → Bank) :
    (s.updActive f).ringMode = s.ringMode := rfl
@[simp] theorem State.updActive_launcher (s : State) (f : Bank → Bank) :
    (s.updActive f).launcher = s.launcher := rfl
@[simp] theorem State.updActive_entries (s : State) (f : Bank → Bank) :
    (s.updActive f).entries = s.entries := rfl
@[simp] theorem State.updActive_cellMem (s : State) (f : Bank → Bank) :
    (s.updActive f).cellMem = s.cellMem := rfl
@[simp] theorem State.updActive_lanes (s : State) (f : Bank → Bank) :
    (s.updActive f).lanes = s.lanes := rfl
@[simp] theorem State.updActive_pathA (s : State) (f : Bank → Bank) :
    (s.updActive f).pathA = s.pathA := rfl
@[simp] theorem State.updActive_pathB (s : State) (f : Bank → Bank) :
    (s.updActive f).pathB = s.pathB := rfl
@[simp] theorem State.updActive_house (s : State) (f : Bank → Bank) :
    (s.updActive f).house = s.house := rfl
@[simp] theorem State.updActive_pattern (s : State) (f : Bank → Bank) :
    (s.updActive f).pattern = s.pattern := rfl
@[simp] theorem State.updActive_patternMem (s : State) (f : Bank → Bank) :
    (s.updActive f).patternMem = s.patternMem := rfl
@[simp] theorem State.updActive_port (s : State) (f : Bank → Bank) :
    (s.updActive f).port = s.port := rfl
@[simp] theorem State.updActive_frozen (s : State) (f : Bank → Bank) :
    (s.updActive f).frozen = s.frozen := rfl
@[simp] theorem State.updActive_frozenLabel (s : State) (f : Bank → Bank) :
    (s.updActive f).frozenLabel = s.frozenLabel := rfl
@[simp] theorem State.updActive_freeCount (s : State) (f : Bank → Bank) :
    (s.updActive f).freeCount = s.freeCount := rfl
@[simp] theorem State.updActive_pending (s : State) (f : Bank → Bank) :
    (s.updActive f).pending = s.pending := rfl

@[simp] theorem State.updActive_active (s : State) (f : Bank → Bank) : (s.updActive f).active = f s.active := rfl

/-! ## Entries and accounts -/

@[simp] theorem State.updEntry_power (s : State) (n : Nat) (f : Entry → Entry) :
    (s.updEntry n f).power = s.power := rfl
@[simp] theorem State.updEntry_elapsed (s : State) (n : Nat) (f : Entry → Entry) :
    (s.updEntry n f).elapsed = s.elapsed := rfl
@[simp] theorem State.updEntry_params (s : State) (n : Nat) (f : Entry → Entry) :
    (s.updEntry n f).params = s.params := rfl
@[simp] theorem State.updEntry_store (s : State) (n : Nat) (f : Entry → Entry) :
    (s.updEntry n f).store = s.store := rfl
@[simp] theorem State.updEntry_slots (s : State) (n : Nat) (f : Entry → Entry) :
    (s.updEntry n f).slots = s.slots := rfl
@[simp] theorem State.updEntry_sumA (s : State) (n : Nat) (f : Entry → Entry) :
    (s.updEntry n f).sumA = s.sumA := rfl
@[simp] theorem State.updEntry_sumB (s : State) (n : Nat) (f : Entry → Entry) :
    (s.updEntry n f).sumB = s.sumB := rfl
@[simp] theorem State.updEntry_due (s : State) (n : Nat) (f : Entry → Entry) :
    (s.updEntry n f).due = s.due := rfl
@[simp] theorem State.updEntry_held (s : State) (n : Nat) (f : Entry → Entry) :
    (s.updEntry n f).held = s.held := rfl
@[simp] theorem State.updEntry_ring (s : State) (n : Nat) (f : Entry → Entry) :
    (s.updEntry n f).ring = s.ring := rfl
@[simp] theorem State.updEntry_ringMode (s : State) (n : Nat) (f : Entry → Entry) :
    (s.updEntry n f).ringMode = s.ringMode := rfl
@[simp] theorem State.updEntry_launcher (s : State) (n : Nat) (f : Entry → Entry) :
    (s.updEntry n f).launcher = s.launcher := rfl
@[simp] theorem State.updEntry_cellMem (s : State) (n : Nat) (f : Entry → Entry) :
    (s.updEntry n f).cellMem = s.cellMem := rfl
@[simp] theorem State.updEntry_lanes (s : State) (n : Nat) (f : Entry → Entry) :
    (s.updEntry n f).lanes = s.lanes := rfl
@[simp] theorem State.updEntry_pathA (s : State) (n : Nat) (f : Entry → Entry) :
    (s.updEntry n f).pathA = s.pathA := rfl
@[simp] theorem State.updEntry_pathB (s : State) (n : Nat) (f : Entry → Entry) :
    (s.updEntry n f).pathB = s.pathB := rfl
@[simp] theorem State.updEntry_house (s : State) (n : Nat) (f : Entry → Entry) :
    (s.updEntry n f).house = s.house := rfl
@[simp] theorem State.updEntry_pattern (s : State) (n : Nat) (f : Entry → Entry) :
    (s.updEntry n f).pattern = s.pattern := rfl
@[simp] theorem State.updEntry_patternMem (s : State) (n : Nat) (f : Entry → Entry) :
    (s.updEntry n f).patternMem = s.patternMem := rfl
@[simp] theorem State.updEntry_port (s : State) (n : Nat) (f : Entry → Entry) :
    (s.updEntry n f).port = s.port := rfl
@[simp] theorem State.updEntry_active (s : State) (n : Nat) (f : Entry → Entry) :
    (s.updEntry n f).active = s.active := rfl
@[simp] theorem State.updEntry_frozen (s : State) (n : Nat) (f : Entry → Entry) :
    (s.updEntry n f).frozen = s.frozen := rfl
@[simp] theorem State.updEntry_frozenLabel (s : State) (n : Nat) (f : Entry → Entry) :
    (s.updEntry n f).frozenLabel = s.frozenLabel := rfl
@[simp] theorem State.updEntry_freeCount (s : State) (n : Nat) (f : Entry → Entry) :
    (s.updEntry n f).freeCount = s.freeCount := rfl
@[simp] theorem State.updEntry_pending (s : State) (n : Nat) (f : Entry → Entry) :
    (s.updEntry n f).pending = s.pending := rfl

@[simp] theorem State.updAccount_power (s : State) (l : Fin 4) (f : Account → Account) :
    (s.updAccount l f).power = s.power := rfl
@[simp] theorem State.updAccount_elapsed (s : State) (l : Fin 4) (f : Account → Account) :
    (s.updAccount l f).elapsed = s.elapsed := rfl
@[simp] theorem State.updAccount_params (s : State) (l : Fin 4) (f : Account → Account) :
    (s.updAccount l f).params = s.params := rfl
@[simp] theorem State.updAccount_store (s : State) (l : Fin 4) (f : Account → Account) :
    (s.updAccount l f).store = s.store := rfl
@[simp] theorem State.updAccount_slots (s : State) (l : Fin 4) (f : Account → Account) :
    (s.updAccount l f).slots = s.slots := rfl
@[simp] theorem State.updAccount_sumA (s : State) (l : Fin 4) (f : Account → Account) :
    (s.updAccount l f).sumA = s.sumA := rfl
@[simp] theorem State.updAccount_sumB (s : State) (l : Fin 4) (f : Account → Account) :
    (s.updAccount l f).sumB = s.sumB := rfl
@[simp] theorem State.updAccount_due (s : State) (l : Fin 4) (f : Account → Account) :
    (s.updAccount l f).due = s.due := rfl
@[simp] theorem State.updAccount_held (s : State) (l : Fin 4) (f : Account → Account) :
    (s.updAccount l f).held = s.held := rfl
@[simp] theorem State.updAccount_ring (s : State) (l : Fin 4) (f : Account → Account) :
    (s.updAccount l f).ring = s.ring := rfl
@[simp] theorem State.updAccount_ringMode (s : State) (l : Fin 4) (f : Account → Account) :
    (s.updAccount l f).ringMode = s.ringMode := rfl
@[simp] theorem State.updAccount_launcher (s : State) (l : Fin 4) (f : Account → Account) :
    (s.updAccount l f).launcher = s.launcher := rfl
@[simp] theorem State.updAccount_entries (s : State) (l : Fin 4) (f : Account → Account) :
    (s.updAccount l f).entries = s.entries := rfl
@[simp] theorem State.updAccount_cellMem (s : State) (l : Fin 4) (f : Account → Account) :
    (s.updAccount l f).cellMem = s.cellMem := rfl
@[simp] theorem State.updAccount_pathA (s : State) (l : Fin 4) (f : Account → Account) :
    (s.updAccount l f).pathA = s.pathA := rfl
@[simp] theorem State.updAccount_pathB (s : State) (l : Fin 4) (f : Account → Account) :
    (s.updAccount l f).pathB = s.pathB := rfl
@[simp] theorem State.updAccount_house (s : State) (l : Fin 4) (f : Account → Account) :
    (s.updAccount l f).house = s.house := rfl
@[simp] theorem State.updAccount_pattern (s : State) (l : Fin 4) (f : Account → Account) :
    (s.updAccount l f).pattern = s.pattern := rfl
@[simp] theorem State.updAccount_patternMem (s : State) (l : Fin 4) (f : Account → Account) :
    (s.updAccount l f).patternMem = s.patternMem := rfl
@[simp] theorem State.updAccount_port (s : State) (l : Fin 4) (f : Account → Account) :
    (s.updAccount l f).port = s.port := rfl
@[simp] theorem State.updAccount_active (s : State) (l : Fin 4) (f : Account → Account) :
    (s.updAccount l f).active = s.active := rfl
@[simp] theorem State.updAccount_frozen (s : State) (l : Fin 4) (f : Account → Account) :
    (s.updAccount l f).frozen = s.frozen := rfl
@[simp] theorem State.updAccount_frozenLabel (s : State) (l : Fin 4) (f : Account → Account) :
    (s.updAccount l f).frozenLabel = s.frozenLabel := rfl
@[simp] theorem State.updAccount_freeCount (s : State) (l : Fin 4) (f : Account → Account) :
    (s.updAccount l f).freeCount = s.freeCount := rfl
@[simp] theorem State.updAccount_pending (s : State) (l : Fin 4) (f : Account → Account) :
    (s.updAccount l f).pending = s.pending := rfl

@[simp] theorem State.lane_updAccount (s : State) (l : Fin 4) (f : Account → Account) :
    (s.updAccount l f).lane l = { s.lane l with account := f (s.lane l).account } := by
  simp [State.updAccount]

/-! ## Counters -/

@[simp] theorem State.countSlot_power (s : State) (i : Fin 16) (c : SlotCounter) (n : Nat) :
    (s.countSlot i c n).power = s.power := rfl
@[simp] theorem State.countSlot_elapsed (s : State) (i : Fin 16) (c : SlotCounter) (n : Nat) :
    (s.countSlot i c n).elapsed = s.elapsed := rfl
@[simp] theorem State.countSlot_params (s : State) (i : Fin 16) (c : SlotCounter) (n : Nat) :
    (s.countSlot i c n).params = s.params := rfl
@[simp] theorem State.countSlot_store (s : State) (i : Fin 16) (c : SlotCounter) (n : Nat) :
    (s.countSlot i c n).store = s.store := rfl
@[simp] theorem State.countSlot_slots (s : State) (i : Fin 16) (c : SlotCounter) (n : Nat) :
    (s.countSlot i c n).slots = s.slots := rfl
@[simp] theorem State.countSlot_sumA (s : State) (i : Fin 16) (c : SlotCounter) (n : Nat) :
    (s.countSlot i c n).sumA = s.sumA := rfl
@[simp] theorem State.countSlot_sumB (s : State) (i : Fin 16) (c : SlotCounter) (n : Nat) :
    (s.countSlot i c n).sumB = s.sumB := rfl
@[simp] theorem State.countSlot_due (s : State) (i : Fin 16) (c : SlotCounter) (n : Nat) :
    (s.countSlot i c n).due = s.due := rfl
@[simp] theorem State.countSlot_held (s : State) (i : Fin 16) (c : SlotCounter) (n : Nat) :
    (s.countSlot i c n).held = s.held := rfl
@[simp] theorem State.countSlot_ring (s : State) (i : Fin 16) (c : SlotCounter) (n : Nat) :
    (s.countSlot i c n).ring = s.ring := rfl
@[simp] theorem State.countSlot_ringMode (s : State) (i : Fin 16) (c : SlotCounter) (n : Nat) :
    (s.countSlot i c n).ringMode = s.ringMode := rfl
@[simp] theorem State.countSlot_launcher (s : State) (i : Fin 16) (c : SlotCounter) (n : Nat) :
    (s.countSlot i c n).launcher = s.launcher := rfl
@[simp] theorem State.countSlot_entries (s : State) (i : Fin 16) (c : SlotCounter) (n : Nat) :
    (s.countSlot i c n).entries = s.entries := rfl
@[simp] theorem State.countSlot_cellMem (s : State) (i : Fin 16) (c : SlotCounter) (n : Nat) :
    (s.countSlot i c n).cellMem = s.cellMem := rfl
@[simp] theorem State.countSlot_lanes (s : State) (i : Fin 16) (c : SlotCounter) (n : Nat) :
    (s.countSlot i c n).lanes = s.lanes := rfl
@[simp] theorem State.countSlot_pathA (s : State) (i : Fin 16) (c : SlotCounter) (n : Nat) :
    (s.countSlot i c n).pathA = s.pathA := rfl
@[simp] theorem State.countSlot_pathB (s : State) (i : Fin 16) (c : SlotCounter) (n : Nat) :
    (s.countSlot i c n).pathB = s.pathB := rfl
@[simp] theorem State.countSlot_house (s : State) (i : Fin 16) (c : SlotCounter) (n : Nat) :
    (s.countSlot i c n).house = s.house := rfl
@[simp] theorem State.countSlot_pattern (s : State) (i : Fin 16) (c : SlotCounter) (n : Nat) :
    (s.countSlot i c n).pattern = s.pattern := rfl
@[simp] theorem State.countSlot_patternMem (s : State) (i : Fin 16) (c : SlotCounter) (n : Nat) :
    (s.countSlot i c n).patternMem = s.patternMem := rfl
@[simp] theorem State.countSlot_port (s : State) (i : Fin 16) (c : SlotCounter) (n : Nat) :
    (s.countSlot i c n).port = s.port := rfl
@[simp] theorem State.countSlot_frozen (s : State) (i : Fin 16) (c : SlotCounter) (n : Nat) :
    (s.countSlot i c n).frozen = s.frozen := rfl
@[simp] theorem State.countSlot_frozenLabel (s : State) (i : Fin 16) (c : SlotCounter) (n : Nat) :
    (s.countSlot i c n).frozenLabel = s.frozenLabel := rfl
@[simp] theorem State.countSlot_freeCount (s : State) (i : Fin 16) (c : SlotCounter) (n : Nat) :
    (s.countSlot i c n).freeCount = s.freeCount := rfl
@[simp] theorem State.countSlot_pending (s : State) (i : Fin 16) (c : SlotCounter) (n : Nat) :
    (s.countSlot i c n).pending = s.pending := rfl

@[simp] theorem State.countLane_power (s : State) (l : Fin 4) (c : LaneCounter) (n : Nat) :
    (s.countLane l c n).power = s.power := rfl
@[simp] theorem State.countLane_elapsed (s : State) (l : Fin 4) (c : LaneCounter) (n : Nat) :
    (s.countLane l c n).elapsed = s.elapsed := rfl
@[simp] theorem State.countLane_params (s : State) (l : Fin 4) (c : LaneCounter) (n : Nat) :
    (s.countLane l c n).params = s.params := rfl
@[simp] theorem State.countLane_store (s : State) (l : Fin 4) (c : LaneCounter) (n : Nat) :
    (s.countLane l c n).store = s.store := rfl
@[simp] theorem State.countLane_slots (s : State) (l : Fin 4) (c : LaneCounter) (n : Nat) :
    (s.countLane l c n).slots = s.slots := rfl
@[simp] theorem State.countLane_sumA (s : State) (l : Fin 4) (c : LaneCounter) (n : Nat) :
    (s.countLane l c n).sumA = s.sumA := rfl
@[simp] theorem State.countLane_sumB (s : State) (l : Fin 4) (c : LaneCounter) (n : Nat) :
    (s.countLane l c n).sumB = s.sumB := rfl
@[simp] theorem State.countLane_due (s : State) (l : Fin 4) (c : LaneCounter) (n : Nat) :
    (s.countLane l c n).due = s.due := rfl
@[simp] theorem State.countLane_held (s : State) (l : Fin 4) (c : LaneCounter) (n : Nat) :
    (s.countLane l c n).held = s.held := rfl
@[simp] theorem State.countLane_ring (s : State) (l : Fin 4) (c : LaneCounter) (n : Nat) :
    (s.countLane l c n).ring = s.ring := rfl
@[simp] theorem State.countLane_ringMode (s : State) (l : Fin 4) (c : LaneCounter) (n : Nat) :
    (s.countLane l c n).ringMode = s.ringMode := rfl
@[simp] theorem State.countLane_launcher (s : State) (l : Fin 4) (c : LaneCounter) (n : Nat) :
    (s.countLane l c n).launcher = s.launcher := rfl
@[simp] theorem State.countLane_entries (s : State) (l : Fin 4) (c : LaneCounter) (n : Nat) :
    (s.countLane l c n).entries = s.entries := rfl
@[simp] theorem State.countLane_cellMem (s : State) (l : Fin 4) (c : LaneCounter) (n : Nat) :
    (s.countLane l c n).cellMem = s.cellMem := rfl
@[simp] theorem State.countLane_lanes (s : State) (l : Fin 4) (c : LaneCounter) (n : Nat) :
    (s.countLane l c n).lanes = s.lanes := rfl
@[simp] theorem State.countLane_pathA (s : State) (l : Fin 4) (c : LaneCounter) (n : Nat) :
    (s.countLane l c n).pathA = s.pathA := rfl
@[simp] theorem State.countLane_pathB (s : State) (l : Fin 4) (c : LaneCounter) (n : Nat) :
    (s.countLane l c n).pathB = s.pathB := rfl
@[simp] theorem State.countLane_house (s : State) (l : Fin 4) (c : LaneCounter) (n : Nat) :
    (s.countLane l c n).house = s.house := rfl
@[simp] theorem State.countLane_pattern (s : State) (l : Fin 4) (c : LaneCounter) (n : Nat) :
    (s.countLane l c n).pattern = s.pattern := rfl
@[simp] theorem State.countLane_patternMem (s : State) (l : Fin 4) (c : LaneCounter) (n : Nat) :
    (s.countLane l c n).patternMem = s.patternMem := rfl
@[simp] theorem State.countLane_port (s : State) (l : Fin 4) (c : LaneCounter) (n : Nat) :
    (s.countLane l c n).port = s.port := rfl
@[simp] theorem State.countLane_frozen (s : State) (l : Fin 4) (c : LaneCounter) (n : Nat) :
    (s.countLane l c n).frozen = s.frozen := rfl
@[simp] theorem State.countLane_frozenLabel (s : State) (l : Fin 4) (c : LaneCounter) (n : Nat) :
    (s.countLane l c n).frozenLabel = s.frozenLabel := rfl
@[simp] theorem State.countLane_freeCount (s : State) (l : Fin 4) (c : LaneCounter) (n : Nat) :
    (s.countLane l c n).freeCount = s.freeCount := rfl
@[simp] theorem State.countLane_pending (s : State) (l : Fin 4) (c : LaneCounter) (n : Nat) :
    (s.countLane l c n).pending = s.pending := rfl

@[simp] theorem State.countPath_power (s : State) (p : PathId) (c : PathCounter) (n : Nat) :
    (s.countPath p c n).power = s.power := rfl
@[simp] theorem State.countPath_elapsed (s : State) (p : PathId) (c : PathCounter) (n : Nat) :
    (s.countPath p c n).elapsed = s.elapsed := rfl
@[simp] theorem State.countPath_params (s : State) (p : PathId) (c : PathCounter) (n : Nat) :
    (s.countPath p c n).params = s.params := rfl
@[simp] theorem State.countPath_store (s : State) (p : PathId) (c : PathCounter) (n : Nat) :
    (s.countPath p c n).store = s.store := rfl
@[simp] theorem State.countPath_slots (s : State) (p : PathId) (c : PathCounter) (n : Nat) :
    (s.countPath p c n).slots = s.slots := rfl
@[simp] theorem State.countPath_sumA (s : State) (p : PathId) (c : PathCounter) (n : Nat) :
    (s.countPath p c n).sumA = s.sumA := rfl
@[simp] theorem State.countPath_sumB (s : State) (p : PathId) (c : PathCounter) (n : Nat) :
    (s.countPath p c n).sumB = s.sumB := rfl
@[simp] theorem State.countPath_due (s : State) (p : PathId) (c : PathCounter) (n : Nat) :
    (s.countPath p c n).due = s.due := rfl
@[simp] theorem State.countPath_held (s : State) (p : PathId) (c : PathCounter) (n : Nat) :
    (s.countPath p c n).held = s.held := rfl
@[simp] theorem State.countPath_ring (s : State) (p : PathId) (c : PathCounter) (n : Nat) :
    (s.countPath p c n).ring = s.ring := rfl
@[simp] theorem State.countPath_ringMode (s : State) (p : PathId) (c : PathCounter) (n : Nat) :
    (s.countPath p c n).ringMode = s.ringMode := rfl
@[simp] theorem State.countPath_launcher (s : State) (p : PathId) (c : PathCounter) (n : Nat) :
    (s.countPath p c n).launcher = s.launcher := rfl
@[simp] theorem State.countPath_entries (s : State) (p : PathId) (c : PathCounter) (n : Nat) :
    (s.countPath p c n).entries = s.entries := rfl
@[simp] theorem State.countPath_cellMem (s : State) (p : PathId) (c : PathCounter) (n : Nat) :
    (s.countPath p c n).cellMem = s.cellMem := rfl
@[simp] theorem State.countPath_lanes (s : State) (p : PathId) (c : PathCounter) (n : Nat) :
    (s.countPath p c n).lanes = s.lanes := rfl
@[simp] theorem State.countPath_pathA (s : State) (p : PathId) (c : PathCounter) (n : Nat) :
    (s.countPath p c n).pathA = s.pathA := rfl
@[simp] theorem State.countPath_pathB (s : State) (p : PathId) (c : PathCounter) (n : Nat) :
    (s.countPath p c n).pathB = s.pathB := rfl
@[simp] theorem State.countPath_house (s : State) (p : PathId) (c : PathCounter) (n : Nat) :
    (s.countPath p c n).house = s.house := rfl
@[simp] theorem State.countPath_pattern (s : State) (p : PathId) (c : PathCounter) (n : Nat) :
    (s.countPath p c n).pattern = s.pattern := rfl
@[simp] theorem State.countPath_patternMem (s : State) (p : PathId) (c : PathCounter) (n : Nat) :
    (s.countPath p c n).patternMem = s.patternMem := rfl
@[simp] theorem State.countPath_port (s : State) (p : PathId) (c : PathCounter) (n : Nat) :
    (s.countPath p c n).port = s.port := rfl
@[simp] theorem State.countPath_frozen (s : State) (p : PathId) (c : PathCounter) (n : Nat) :
    (s.countPath p c n).frozen = s.frozen := rfl
@[simp] theorem State.countPath_frozenLabel (s : State) (p : PathId) (c : PathCounter) (n : Nat) :
    (s.countPath p c n).frozenLabel = s.frozenLabel := rfl
@[simp] theorem State.countPath_freeCount (s : State) (p : PathId) (c : PathCounter) (n : Nat) :
    (s.countPath p c n).freeCount = s.freeCount := rfl
@[simp] theorem State.countPath_pending (s : State) (p : PathId) (c : PathCounter) (n : Nat) :
    (s.countPath p c n).pending = s.pending := rfl

@[simp] theorem State.countPart_power (s : State) (c : PartCounter) (n : Nat) :
    (s.countPart c n).power = s.power := rfl
@[simp] theorem State.countPart_elapsed (s : State) (c : PartCounter) (n : Nat) :
    (s.countPart c n).elapsed = s.elapsed := rfl
@[simp] theorem State.countPart_params (s : State) (c : PartCounter) (n : Nat) :
    (s.countPart c n).params = s.params := rfl
@[simp] theorem State.countPart_store (s : State) (c : PartCounter) (n : Nat) :
    (s.countPart c n).store = s.store := rfl
@[simp] theorem State.countPart_slots (s : State) (c : PartCounter) (n : Nat) :
    (s.countPart c n).slots = s.slots := rfl
@[simp] theorem State.countPart_sumA (s : State) (c : PartCounter) (n : Nat) :
    (s.countPart c n).sumA = s.sumA := rfl
@[simp] theorem State.countPart_sumB (s : State) (c : PartCounter) (n : Nat) :
    (s.countPart c n).sumB = s.sumB := rfl
@[simp] theorem State.countPart_due (s : State) (c : PartCounter) (n : Nat) :
    (s.countPart c n).due = s.due := rfl
@[simp] theorem State.countPart_held (s : State) (c : PartCounter) (n : Nat) :
    (s.countPart c n).held = s.held := rfl
@[simp] theorem State.countPart_ring (s : State) (c : PartCounter) (n : Nat) :
    (s.countPart c n).ring = s.ring := rfl
@[simp] theorem State.countPart_ringMode (s : State) (c : PartCounter) (n : Nat) :
    (s.countPart c n).ringMode = s.ringMode := rfl
@[simp] theorem State.countPart_launcher (s : State) (c : PartCounter) (n : Nat) :
    (s.countPart c n).launcher = s.launcher := rfl
@[simp] theorem State.countPart_entries (s : State) (c : PartCounter) (n : Nat) :
    (s.countPart c n).entries = s.entries := rfl
@[simp] theorem State.countPart_cellMem (s : State) (c : PartCounter) (n : Nat) :
    (s.countPart c n).cellMem = s.cellMem := rfl
@[simp] theorem State.countPart_lanes (s : State) (c : PartCounter) (n : Nat) :
    (s.countPart c n).lanes = s.lanes := rfl
@[simp] theorem State.countPart_pathA (s : State) (c : PartCounter) (n : Nat) :
    (s.countPart c n).pathA = s.pathA := rfl
@[simp] theorem State.countPart_pathB (s : State) (c : PartCounter) (n : Nat) :
    (s.countPart c n).pathB = s.pathB := rfl
@[simp] theorem State.countPart_house (s : State) (c : PartCounter) (n : Nat) :
    (s.countPart c n).house = s.house := rfl
@[simp] theorem State.countPart_pattern (s : State) (c : PartCounter) (n : Nat) :
    (s.countPart c n).pattern = s.pattern := rfl
@[simp] theorem State.countPart_patternMem (s : State) (c : PartCounter) (n : Nat) :
    (s.countPart c n).patternMem = s.patternMem := rfl
@[simp] theorem State.countPart_port (s : State) (c : PartCounter) (n : Nat) :
    (s.countPart c n).port = s.port := rfl
@[simp] theorem State.countPart_frozen (s : State) (c : PartCounter) (n : Nat) :
    (s.countPart c n).frozen = s.frozen := rfl
@[simp] theorem State.countPart_frozenLabel (s : State) (c : PartCounter) (n : Nat) :
    (s.countPart c n).frozenLabel = s.frozenLabel := rfl
@[simp] theorem State.countPart_freeCount (s : State) (c : PartCounter) (n : Nat) :
    (s.countPart c n).freeCount = s.freeCount := rfl
@[simp] theorem State.countPart_pending (s : State) (c : PartCounter) (n : Nat) :
    (s.countPart c n).pending = s.pending := rfl

@[simp] theorem State.peakPart_power (s : State) (c : PartCounter) (v : Nat) :
    (s.peakPart c v).power = s.power := rfl
@[simp] theorem State.peakPart_elapsed (s : State) (c : PartCounter) (v : Nat) :
    (s.peakPart c v).elapsed = s.elapsed := rfl
@[simp] theorem State.peakPart_params (s : State) (c : PartCounter) (v : Nat) :
    (s.peakPart c v).params = s.params := rfl
@[simp] theorem State.peakPart_store (s : State) (c : PartCounter) (v : Nat) :
    (s.peakPart c v).store = s.store := rfl
@[simp] theorem State.peakPart_slots (s : State) (c : PartCounter) (v : Nat) :
    (s.peakPart c v).slots = s.slots := rfl
@[simp] theorem State.peakPart_sumA (s : State) (c : PartCounter) (v : Nat) :
    (s.peakPart c v).sumA = s.sumA := rfl
@[simp] theorem State.peakPart_sumB (s : State) (c : PartCounter) (v : Nat) :
    (s.peakPart c v).sumB = s.sumB := rfl
@[simp] theorem State.peakPart_due (s : State) (c : PartCounter) (v : Nat) :
    (s.peakPart c v).due = s.due := rfl
@[simp] theorem State.peakPart_held (s : State) (c : PartCounter) (v : Nat) :
    (s.peakPart c v).held = s.held := rfl
@[simp] theorem State.peakPart_ring (s : State) (c : PartCounter) (v : Nat) :
    (s.peakPart c v).ring = s.ring := rfl
@[simp] theorem State.peakPart_ringMode (s : State) (c : PartCounter) (v : Nat) :
    (s.peakPart c v).ringMode = s.ringMode := rfl
@[simp] theorem State.peakPart_launcher (s : State) (c : PartCounter) (v : Nat) :
    (s.peakPart c v).launcher = s.launcher := rfl
@[simp] theorem State.peakPart_entries (s : State) (c : PartCounter) (v : Nat) :
    (s.peakPart c v).entries = s.entries := rfl
@[simp] theorem State.peakPart_cellMem (s : State) (c : PartCounter) (v : Nat) :
    (s.peakPart c v).cellMem = s.cellMem := rfl
@[simp] theorem State.peakPart_lanes (s : State) (c : PartCounter) (v : Nat) :
    (s.peakPart c v).lanes = s.lanes := rfl
@[simp] theorem State.peakPart_pathA (s : State) (c : PartCounter) (v : Nat) :
    (s.peakPart c v).pathA = s.pathA := rfl
@[simp] theorem State.peakPart_pathB (s : State) (c : PartCounter) (v : Nat) :
    (s.peakPart c v).pathB = s.pathB := rfl
@[simp] theorem State.peakPart_house (s : State) (c : PartCounter) (v : Nat) :
    (s.peakPart c v).house = s.house := rfl
@[simp] theorem State.peakPart_pattern (s : State) (c : PartCounter) (v : Nat) :
    (s.peakPart c v).pattern = s.pattern := rfl
@[simp] theorem State.peakPart_patternMem (s : State) (c : PartCounter) (v : Nat) :
    (s.peakPart c v).patternMem = s.patternMem := rfl
@[simp] theorem State.peakPart_port (s : State) (c : PartCounter) (v : Nat) :
    (s.peakPart c v).port = s.port := rfl
@[simp] theorem State.peakPart_frozen (s : State) (c : PartCounter) (v : Nat) :
    (s.peakPart c v).frozen = s.frozen := rfl
@[simp] theorem State.peakPart_frozenLabel (s : State) (c : PartCounter) (v : Nat) :
    (s.peakPart c v).frozenLabel = s.frozenLabel := rfl
@[simp] theorem State.peakPart_freeCount (s : State) (c : PartCounter) (v : Nat) :
    (s.peakPart c v).freeCount = s.freeCount := rfl
@[simp] theorem State.peakPart_pending (s : State) (c : PartCounter) (v : Nat) :
    (s.peakPart c v).pending = s.pending := rfl

/-! ## Causes -/

@[simp] theorem State.latch_power (s : State) (c : Cause) :
    (s.latch c).power = s.power := rfl
@[simp] theorem State.latch_elapsed (s : State) (c : Cause) :
    (s.latch c).elapsed = s.elapsed := rfl
@[simp] theorem State.latch_params (s : State) (c : Cause) :
    (s.latch c).params = s.params := rfl
@[simp] theorem State.latch_store (s : State) (c : Cause) :
    (s.latch c).store = s.store := rfl
@[simp] theorem State.latch_slots (s : State) (c : Cause) :
    (s.latch c).slots = s.slots := rfl
@[simp] theorem State.latch_sumA (s : State) (c : Cause) :
    (s.latch c).sumA = s.sumA := rfl
@[simp] theorem State.latch_sumB (s : State) (c : Cause) :
    (s.latch c).sumB = s.sumB := rfl
@[simp] theorem State.latch_due (s : State) (c : Cause) :
    (s.latch c).due = s.due := rfl
@[simp] theorem State.latch_held (s : State) (c : Cause) :
    (s.latch c).held = s.held := rfl
@[simp] theorem State.latch_ring (s : State) (c : Cause) :
    (s.latch c).ring = s.ring := rfl
@[simp] theorem State.latch_ringMode (s : State) (c : Cause) :
    (s.latch c).ringMode = s.ringMode := rfl
@[simp] theorem State.latch_launcher (s : State) (c : Cause) :
    (s.latch c).launcher = s.launcher := rfl
@[simp] theorem State.latch_entries (s : State) (c : Cause) :
    (s.latch c).entries = s.entries := rfl
@[simp] theorem State.latch_cellMem (s : State) (c : Cause) :
    (s.latch c).cellMem = s.cellMem := rfl
@[simp] theorem State.latch_lanes (s : State) (c : Cause) :
    (s.latch c).lanes = s.lanes := rfl
@[simp] theorem State.latch_pathA (s : State) (c : Cause) :
    (s.latch c).pathA = s.pathA := rfl
@[simp] theorem State.latch_pathB (s : State) (c : Cause) :
    (s.latch c).pathB = s.pathB := rfl
@[simp] theorem State.latch_house (s : State) (c : Cause) :
    (s.latch c).house = s.house := rfl
@[simp] theorem State.latch_pattern (s : State) (c : Cause) :
    (s.latch c).pattern = s.pattern := rfl
@[simp] theorem State.latch_patternMem (s : State) (c : Cause) :
    (s.latch c).patternMem = s.patternMem := rfl
@[simp] theorem State.latch_active (s : State) (c : Cause) :
    (s.latch c).active = s.active := rfl
@[simp] theorem State.latch_frozen (s : State) (c : Cause) :
    (s.latch c).frozen = s.frozen := rfl
@[simp] theorem State.latch_frozenLabel (s : State) (c : Cause) :
    (s.latch c).frozenLabel = s.frozenLabel := rfl
@[simp] theorem State.latch_freeCount (s : State) (c : Cause) :
    (s.latch c).freeCount = s.freeCount := rfl
@[simp] theorem State.latch_pending (s : State) (c : Cause) :
    (s.latch c).pending = s.pending := rfl

@[simp] theorem State.latchSlot_power (s : State) (i : Fin 16) :
    (s.latchSlot i).power = s.power := rfl
@[simp] theorem State.latchSlot_elapsed (s : State) (i : Fin 16) :
    (s.latchSlot i).elapsed = s.elapsed := rfl
@[simp] theorem State.latchSlot_params (s : State) (i : Fin 16) :
    (s.latchSlot i).params = s.params := rfl
@[simp] theorem State.latchSlot_store (s : State) (i : Fin 16) :
    (s.latchSlot i).store = s.store := rfl
@[simp] theorem State.latchSlot_slots (s : State) (i : Fin 16) :
    (s.latchSlot i).slots = s.slots := rfl
@[simp] theorem State.latchSlot_sumA (s : State) (i : Fin 16) :
    (s.latchSlot i).sumA = s.sumA := rfl
@[simp] theorem State.latchSlot_sumB (s : State) (i : Fin 16) :
    (s.latchSlot i).sumB = s.sumB := rfl
@[simp] theorem State.latchSlot_due (s : State) (i : Fin 16) :
    (s.latchSlot i).due = s.due := rfl
@[simp] theorem State.latchSlot_held (s : State) (i : Fin 16) :
    (s.latchSlot i).held = s.held := rfl
@[simp] theorem State.latchSlot_ring (s : State) (i : Fin 16) :
    (s.latchSlot i).ring = s.ring := rfl
@[simp] theorem State.latchSlot_ringMode (s : State) (i : Fin 16) :
    (s.latchSlot i).ringMode = s.ringMode := rfl
@[simp] theorem State.latchSlot_launcher (s : State) (i : Fin 16) :
    (s.latchSlot i).launcher = s.launcher := rfl
@[simp] theorem State.latchSlot_entries (s : State) (i : Fin 16) :
    (s.latchSlot i).entries = s.entries := rfl
@[simp] theorem State.latchSlot_cellMem (s : State) (i : Fin 16) :
    (s.latchSlot i).cellMem = s.cellMem := rfl
@[simp] theorem State.latchSlot_lanes (s : State) (i : Fin 16) :
    (s.latchSlot i).lanes = s.lanes := rfl
@[simp] theorem State.latchSlot_pathA (s : State) (i : Fin 16) :
    (s.latchSlot i).pathA = s.pathA := rfl
@[simp] theorem State.latchSlot_pathB (s : State) (i : Fin 16) :
    (s.latchSlot i).pathB = s.pathB := rfl
@[simp] theorem State.latchSlot_house (s : State) (i : Fin 16) :
    (s.latchSlot i).house = s.house := rfl
@[simp] theorem State.latchSlot_pattern (s : State) (i : Fin 16) :
    (s.latchSlot i).pattern = s.pattern := rfl
@[simp] theorem State.latchSlot_patternMem (s : State) (i : Fin 16) :
    (s.latchSlot i).patternMem = s.patternMem := rfl
@[simp] theorem State.latchSlot_active (s : State) (i : Fin 16) :
    (s.latchSlot i).active = s.active := rfl
@[simp] theorem State.latchSlot_frozen (s : State) (i : Fin 16) :
    (s.latchSlot i).frozen = s.frozen := rfl
@[simp] theorem State.latchSlot_frozenLabel (s : State) (i : Fin 16) :
    (s.latchSlot i).frozenLabel = s.frozenLabel := rfl
@[simp] theorem State.latchSlot_freeCount (s : State) (i : Fin 16) :
    (s.latchSlot i).freeCount = s.freeCount := rfl
@[simp] theorem State.latchSlot_pending (s : State) (i : Fin 16) :
    (s.latchSlot i).pending = s.pending := rfl

@[simp] theorem State.latchPath_power (s : State) (p : PathId) :
    (s.latchPath p).power = s.power := rfl
@[simp] theorem State.latchPath_elapsed (s : State) (p : PathId) :
    (s.latchPath p).elapsed = s.elapsed := rfl
@[simp] theorem State.latchPath_params (s : State) (p : PathId) :
    (s.latchPath p).params = s.params := rfl
@[simp] theorem State.latchPath_store (s : State) (p : PathId) :
    (s.latchPath p).store = s.store := rfl
@[simp] theorem State.latchPath_slots (s : State) (p : PathId) :
    (s.latchPath p).slots = s.slots := rfl
@[simp] theorem State.latchPath_sumA (s : State) (p : PathId) :
    (s.latchPath p).sumA = s.sumA := rfl
@[simp] theorem State.latchPath_sumB (s : State) (p : PathId) :
    (s.latchPath p).sumB = s.sumB := rfl
@[simp] theorem State.latchPath_due (s : State) (p : PathId) :
    (s.latchPath p).due = s.due := rfl
@[simp] theorem State.latchPath_held (s : State) (p : PathId) :
    (s.latchPath p).held = s.held := rfl
@[simp] theorem State.latchPath_ring (s : State) (p : PathId) :
    (s.latchPath p).ring = s.ring := rfl
@[simp] theorem State.latchPath_ringMode (s : State) (p : PathId) :
    (s.latchPath p).ringMode = s.ringMode := rfl
@[simp] theorem State.latchPath_launcher (s : State) (p : PathId) :
    (s.latchPath p).launcher = s.launcher := rfl
@[simp] theorem State.latchPath_entries (s : State) (p : PathId) :
    (s.latchPath p).entries = s.entries := rfl
@[simp] theorem State.latchPath_cellMem (s : State) (p : PathId) :
    (s.latchPath p).cellMem = s.cellMem := rfl
@[simp] theorem State.latchPath_lanes (s : State) (p : PathId) :
    (s.latchPath p).lanes = s.lanes := rfl
@[simp] theorem State.latchPath_pathA (s : State) (p : PathId) :
    (s.latchPath p).pathA = s.pathA := rfl
@[simp] theorem State.latchPath_pathB (s : State) (p : PathId) :
    (s.latchPath p).pathB = s.pathB := rfl
@[simp] theorem State.latchPath_house (s : State) (p : PathId) :
    (s.latchPath p).house = s.house := rfl
@[simp] theorem State.latchPath_pattern (s : State) (p : PathId) :
    (s.latchPath p).pattern = s.pattern := rfl
@[simp] theorem State.latchPath_patternMem (s : State) (p : PathId) :
    (s.latchPath p).patternMem = s.patternMem := rfl
@[simp] theorem State.latchPath_active (s : State) (p : PathId) :
    (s.latchPath p).active = s.active := rfl
@[simp] theorem State.latchPath_frozen (s : State) (p : PathId) :
    (s.latchPath p).frozen = s.frozen := rfl
@[simp] theorem State.latchPath_frozenLabel (s : State) (p : PathId) :
    (s.latchPath p).frozenLabel = s.frozenLabel := rfl
@[simp] theorem State.latchPath_freeCount (s : State) (p : PathId) :
    (s.latchPath p).freeCount = s.freeCount := rfl
@[simp] theorem State.latchPath_pending (s : State) (p : PathId) :
    (s.latchPath p).pending = s.pending := rfl

@[simp] theorem State.latchLane_power (s : State) (l : Fin 4) :
    (s.latchLane l).power = s.power := rfl
@[simp] theorem State.latchLane_elapsed (s : State) (l : Fin 4) :
    (s.latchLane l).elapsed = s.elapsed := rfl
@[simp] theorem State.latchLane_params (s : State) (l : Fin 4) :
    (s.latchLane l).params = s.params := rfl
@[simp] theorem State.latchLane_store (s : State) (l : Fin 4) :
    (s.latchLane l).store = s.store := rfl
@[simp] theorem State.latchLane_slots (s : State) (l : Fin 4) :
    (s.latchLane l).slots = s.slots := rfl
@[simp] theorem State.latchLane_sumA (s : State) (l : Fin 4) :
    (s.latchLane l).sumA = s.sumA := rfl
@[simp] theorem State.latchLane_sumB (s : State) (l : Fin 4) :
    (s.latchLane l).sumB = s.sumB := rfl
@[simp] theorem State.latchLane_due (s : State) (l : Fin 4) :
    (s.latchLane l).due = s.due := rfl
@[simp] theorem State.latchLane_held (s : State) (l : Fin 4) :
    (s.latchLane l).held = s.held := rfl
@[simp] theorem State.latchLane_ring (s : State) (l : Fin 4) :
    (s.latchLane l).ring = s.ring := rfl
@[simp] theorem State.latchLane_ringMode (s : State) (l : Fin 4) :
    (s.latchLane l).ringMode = s.ringMode := rfl
@[simp] theorem State.latchLane_launcher (s : State) (l : Fin 4) :
    (s.latchLane l).launcher = s.launcher := rfl
@[simp] theorem State.latchLane_entries (s : State) (l : Fin 4) :
    (s.latchLane l).entries = s.entries := rfl
@[simp] theorem State.latchLane_cellMem (s : State) (l : Fin 4) :
    (s.latchLane l).cellMem = s.cellMem := rfl
@[simp] theorem State.latchLane_lanes (s : State) (l : Fin 4) :
    (s.latchLane l).lanes = s.lanes := rfl
@[simp] theorem State.latchLane_pathA (s : State) (l : Fin 4) :
    (s.latchLane l).pathA = s.pathA := rfl
@[simp] theorem State.latchLane_pathB (s : State) (l : Fin 4) :
    (s.latchLane l).pathB = s.pathB := rfl
@[simp] theorem State.latchLane_house (s : State) (l : Fin 4) :
    (s.latchLane l).house = s.house := rfl
@[simp] theorem State.latchLane_pattern (s : State) (l : Fin 4) :
    (s.latchLane l).pattern = s.pattern := rfl
@[simp] theorem State.latchLane_patternMem (s : State) (l : Fin 4) :
    (s.latchLane l).patternMem = s.patternMem := rfl
@[simp] theorem State.latchLane_active (s : State) (l : Fin 4) :
    (s.latchLane l).active = s.active := rfl
@[simp] theorem State.latchLane_frozen (s : State) (l : Fin 4) :
    (s.latchLane l).frozen = s.frozen := rfl
@[simp] theorem State.latchLane_frozenLabel (s : State) (l : Fin 4) :
    (s.latchLane l).frozenLabel = s.frozenLabel := rfl
@[simp] theorem State.latchLane_freeCount (s : State) (l : Fin 4) :
    (s.latchLane l).freeCount = s.freeCount := rfl
@[simp] theorem State.latchLane_pending (s : State) (l : Fin 4) :
    (s.latchLane l).pending = s.pending := rfl

/-! ## Reading a part through another update -/

@[simp] theorem State.lane_updSlot (s : State) (i : Fin 16) (f : Slot → Slot) (m : Fin 4) :
    (s.updSlot i f).lane m = s.lane m := rfl
@[simp] theorem State.path_updSlot (s : State) (i : Fin 16) (f : Slot → Slot) (q : PathId) :
    (s.updSlot i f).path q = s.path q := by cases q <;> rfl

@[simp] theorem State.slot_updLane (s : State) (l : Fin 4) (f : Lane → Lane) (j : Fin 16) :
    (s.updLane l f).slot j = s.slot j := rfl
@[simp] theorem State.path_updLane (s : State) (l : Fin 4) (f : Lane → Lane) (q : PathId) :
    (s.updLane l f).path q = s.path q := by cases q <;> rfl

@[simp] theorem State.slot_updPath (s : State) (p : PathId) (f : Path → Path) (j : Fin 16) :
    (s.updPath p f).slot j = s.slot j := by cases p <;> rfl
@[simp] theorem State.lane_updPath (s : State) (p : PathId) (f : Path → Path) (m : Fin 4) :
    (s.updPath p f).lane m = s.lane m := by cases p <;> rfl

@[simp] theorem State.slot_updHouse (s : State) (f : House → House) (j : Fin 16) :
    (s.updHouse f).slot j = s.slot j := rfl
@[simp] theorem State.lane_updHouse (s : State) (f : House → House) (m : Fin 4) :
    (s.updHouse f).lane m = s.lane m := rfl
@[simp] theorem State.path_updHouse (s : State) (f : House → House) (q : PathId) :
    (s.updHouse f).path q = s.path q := by cases q <;> rfl

@[simp] theorem State.slot_updPort (s : State) (f : Port → Port) (j : Fin 16) :
    (s.updPort f).slot j = s.slot j := rfl
@[simp] theorem State.lane_updPort (s : State) (f : Port → Port) (m : Fin 4) :
    (s.updPort f).lane m = s.lane m := rfl
@[simp] theorem State.path_updPort (s : State) (f : Port → Port) (q : PathId) :
    (s.updPort f).path q = s.path q := by cases q <;> rfl

@[simp] theorem State.slot_updPattern (s : State) (f : PatternSource → PatternSource) (j : Fin 16) :
    (s.updPattern f).slot j = s.slot j := rfl
@[simp] theorem State.lane_updPattern (s : State) (f : PatternSource → PatternSource) (m : Fin 4) :
    (s.updPattern f).lane m = s.lane m := rfl
@[simp] theorem State.path_updPattern (s : State) (f : PatternSource → PatternSource) (q : PathId) :
    (s.updPattern f).path q = s.path q := by cases q <;> rfl

@[simp] theorem State.slot_updParams (s : State) (f : Params → Params) (j : Fin 16) :
    (s.updParams f).slot j = s.slot j := rfl
@[simp] theorem State.lane_updParams (s : State) (f : Params → Params) (m : Fin 4) :
    (s.updParams f).lane m = s.lane m := rfl
@[simp] theorem State.path_updParams (s : State) (f : Params → Params) (q : PathId) :
    (s.updParams f).path q = s.path q := by cases q <;> rfl

@[simp] theorem State.slot_updActive (s : State) (f : Bank → Bank) (j : Fin 16) :
    (s.updActive f).slot j = s.slot j := rfl
@[simp] theorem State.lane_updActive (s : State) (f : Bank → Bank) (m : Fin 4) :
    (s.updActive f).lane m = s.lane m := rfl
@[simp] theorem State.path_updActive (s : State) (f : Bank → Bank) (q : PathId) :
    (s.updActive f).path q = s.path q := by cases q <;> rfl

@[simp] theorem State.slot_updEntry (s : State) (n : Nat) (f : Entry → Entry) (j : Fin 16) :
    (s.updEntry n f).slot j = s.slot j := rfl
@[simp] theorem State.lane_updEntry (s : State) (n : Nat) (f : Entry → Entry) (m : Fin 4) :
    (s.updEntry n f).lane m = s.lane m := rfl
@[simp] theorem State.path_updEntry (s : State) (n : Nat) (f : Entry → Entry) (q : PathId) :
    (s.updEntry n f).path q = s.path q := by cases q <;> rfl

@[simp] theorem State.slot_updAccount (s : State) (l : Fin 4) (f : Account → Account) (j : Fin 16) :
    (s.updAccount l f).slot j = s.slot j := rfl
@[simp] theorem State.path_updAccount (s : State) (l : Fin 4) (f : Account → Account) (q : PathId) :
    (s.updAccount l f).path q = s.path q := by cases q <;> rfl

@[simp] theorem State.slot_countSlot (s : State) (i : Fin 16) (c : SlotCounter) (n : Nat) (j : Fin 16) :
    (s.countSlot i c n).slot j = s.slot j := rfl
@[simp] theorem State.lane_countSlot (s : State) (i : Fin 16) (c : SlotCounter) (n : Nat) (m : Fin 4) :
    (s.countSlot i c n).lane m = s.lane m := rfl
@[simp] theorem State.path_countSlot (s : State) (i : Fin 16) (c : SlotCounter) (n : Nat) (q : PathId) :
    (s.countSlot i c n).path q = s.path q := by cases q <;> rfl

@[simp] theorem State.slot_countLane (s : State) (l : Fin 4) (c : LaneCounter) (n : Nat) (j : Fin 16) :
    (s.countLane l c n).slot j = s.slot j := rfl
@[simp] theorem State.lane_countLane (s : State) (l : Fin 4) (c : LaneCounter) (n : Nat) (m : Fin 4) :
    (s.countLane l c n).lane m = s.lane m := rfl
@[simp] theorem State.path_countLane (s : State) (l : Fin 4) (c : LaneCounter) (n : Nat) (q : PathId) :
    (s.countLane l c n).path q = s.path q := by cases q <;> rfl

@[simp] theorem State.slot_countPath (s : State) (p : PathId) (c : PathCounter) (n : Nat) (j : Fin 16) :
    (s.countPath p c n).slot j = s.slot j := rfl
@[simp] theorem State.lane_countPath (s : State) (p : PathId) (c : PathCounter) (n : Nat) (m : Fin 4) :
    (s.countPath p c n).lane m = s.lane m := rfl
@[simp] theorem State.path_countPath (s : State) (p : PathId) (c : PathCounter) (n : Nat) (q : PathId) :
    (s.countPath p c n).path q = s.path q := by cases q <;> rfl

@[simp] theorem State.slot_countPart (s : State) (c : PartCounter) (n : Nat) (j : Fin 16) :
    (s.countPart c n).slot j = s.slot j := rfl
@[simp] theorem State.lane_countPart (s : State) (c : PartCounter) (n : Nat) (m : Fin 4) :
    (s.countPart c n).lane m = s.lane m := rfl
@[simp] theorem State.path_countPart (s : State) (c : PartCounter) (n : Nat) (q : PathId) :
    (s.countPart c n).path q = s.path q := by cases q <;> rfl

@[simp] theorem State.slot_latch (s : State) (c : Cause) (j : Fin 16) :
    (s.latch c).slot j = s.slot j := rfl
@[simp] theorem State.lane_latch (s : State) (c : Cause) (m : Fin 4) :
    (s.latch c).lane m = s.lane m := rfl
@[simp] theorem State.path_latch (s : State) (c : Cause) (q : PathId) :
    (s.latch c).path q = s.path q := by cases q <;> rfl

@[simp] theorem State.slot_latchSlot (s : State) (i : Fin 16) (j : Fin 16) :
    (s.latchSlot i).slot j = s.slot j := rfl
@[simp] theorem State.lane_latchSlot (s : State) (i : Fin 16) (m : Fin 4) :
    (s.latchSlot i).lane m = s.lane m := rfl
@[simp] theorem State.path_latchSlot (s : State) (i : Fin 16) (q : PathId) :
    (s.latchSlot i).path q = s.path q := by cases q <;> rfl

@[simp] theorem State.slot_latchPath (s : State) (p : PathId) (j : Fin 16) :
    (s.latchPath p).slot j = s.slot j := rfl
@[simp] theorem State.lane_latchPath (s : State) (p : PathId) (m : Fin 4) :
    (s.latchPath p).lane m = s.lane m := rfl
@[simp] theorem State.path_latchPath (s : State) (p : PathId) (q : PathId) :
    (s.latchPath p).path q = s.path q := by cases q <;> rfl

@[simp] theorem State.slot_latchLane (s : State) (l : Fin 4) (j : Fin 16) :
    (s.latchLane l).slot j = s.slot j := rfl
@[simp] theorem State.lane_latchLane (s : State) (l : Fin 4) (m : Fin 4) :
    (s.latchLane l).lane m = s.lane m := rfl
@[simp] theorem State.path_latchLane (s : State) (l : Fin 4) (q : PathId) :
    (s.latchLane l).path q = s.path q := by cases q <;> rfl

end Sys2Proof.Machine
end

