-- ==== Sys2Proof/Laws/Cells.lean ====
section
/-!
SUPPORT. Cell Memory: what freeing, dropping a holder, refunding and filling leave of the rest of the state, and the
cases of dropping a holder.
-/

namespace Sys2Proof.Machine

open Sys2Proof

/-! ## Credit -/

@[simp] theorem State.returnCells_power (s : State) (o : Owner) (c : Nat) :
    (s.returnCells o c).power = s.power := by cases o <;> rfl
@[simp] theorem State.returnCells_elapsed (s : State) (o : Owner) (c : Nat) :
    (s.returnCells o c).elapsed = s.elapsed := by cases o <;> rfl
@[simp] theorem State.returnCells_params (s : State) (o : Owner) (c : Nat) :
    (s.returnCells o c).params = s.params := by cases o <;> rfl
@[simp] theorem State.returnCells_store (s : State) (o : Owner) (c : Nat) :
    (s.returnCells o c).store = s.store := by cases o <;> rfl
@[simp] theorem State.returnCells_slots (s : State) (o : Owner) (c : Nat) :
    (s.returnCells o c).slots = s.slots := by cases o <;> rfl
@[simp] theorem State.returnCells_sumA (s : State) (o : Owner) (c : Nat) :
    (s.returnCells o c).sumA = s.sumA := by cases o <;> rfl
@[simp] theorem State.returnCells_sumB (s : State) (o : Owner) (c : Nat) :
    (s.returnCells o c).sumB = s.sumB := by cases o <;> rfl
@[simp] theorem State.returnCells_due (s : State) (o : Owner) (c : Nat) :
    (s.returnCells o c).due = s.due := by cases o <;> rfl
@[simp] theorem State.returnCells_held (s : State) (o : Owner) (c : Nat) :
    (s.returnCells o c).held = s.held := by cases o <;> rfl
@[simp] theorem State.returnCells_ring (s : State) (o : Owner) (c : Nat) :
    (s.returnCells o c).ring = s.ring := by cases o <;> rfl
@[simp] theorem State.returnCells_ringMode (s : State) (o : Owner) (c : Nat) :
    (s.returnCells o c).ringMode = s.ringMode := by cases o <;> rfl
@[simp] theorem State.returnCells_launcher (s : State) (o : Owner) (c : Nat) :
    (s.returnCells o c).launcher = s.launcher := by cases o <;> rfl
@[simp] theorem State.returnCells_entries (s : State) (o : Owner) (c : Nat) :
    (s.returnCells o c).entries = s.entries := by cases o <;> rfl
@[simp] theorem State.returnCells_cellMem (s : State) (o : Owner) (c : Nat) :
    (s.returnCells o c).cellMem = s.cellMem := by cases o <;> rfl
@[simp] theorem State.returnCells_pathA (s : State) (o : Owner) (c : Nat) :
    (s.returnCells o c).pathA = s.pathA := by cases o <;> rfl
@[simp] theorem State.returnCells_pathB (s : State) (o : Owner) (c : Nat) :
    (s.returnCells o c).pathB = s.pathB := by cases o <;> rfl
@[simp] theorem State.returnCells_house (s : State) (o : Owner) (c : Nat) :
    (s.returnCells o c).house = s.house := by cases o <;> rfl
@[simp] theorem State.returnCells_patternMem (s : State) (o : Owner) (c : Nat) :
    (s.returnCells o c).patternMem = s.patternMem := by cases o <;> rfl
@[simp] theorem State.returnCells_port (s : State) (o : Owner) (c : Nat) :
    (s.returnCells o c).port = s.port := by cases o <;> rfl
@[simp] theorem State.returnCells_active (s : State) (o : Owner) (c : Nat) :
    (s.returnCells o c).active = s.active := by cases o <;> rfl
@[simp] theorem State.returnCells_frozen (s : State) (o : Owner) (c : Nat) :
    (s.returnCells o c).frozen = s.frozen := by cases o <;> rfl
@[simp] theorem State.returnCells_frozenLabel (s : State) (o : Owner) (c : Nat) :
    (s.returnCells o c).frozenLabel = s.frozenLabel := by cases o <;> rfl
@[simp] theorem State.returnCells_freeCount (s : State) (o : Owner) (c : Nat) :
    (s.returnCells o c).freeCount = s.freeCount := by cases o <;> rfl
@[simp] theorem State.returnCells_pending (s : State) (o : Owner) (c : Nat) :
    (s.returnCells o c).pending = s.pending := by cases o <;> rfl

@[simp] theorem State.refund_power (s : State) (l : Fin 4) (c : Nat) :
    (s.refund l c).power = s.power := by unfold State.refund; split <;> rfl
@[simp] theorem State.refund_elapsed (s : State) (l : Fin 4) (c : Nat) :
    (s.refund l c).elapsed = s.elapsed := by unfold State.refund; split <;> rfl
@[simp] theorem State.refund_params (s : State) (l : Fin 4) (c : Nat) :
    (s.refund l c).params = s.params := by unfold State.refund; split <;> rfl
@[simp] theorem State.refund_store (s : State) (l : Fin 4) (c : Nat) :
    (s.refund l c).store = s.store := by unfold State.refund; split <;> rfl
@[simp] theorem State.refund_slots (s : State) (l : Fin 4) (c : Nat) :
    (s.refund l c).slots = s.slots := by unfold State.refund; split <;> rfl
@[simp] theorem State.refund_sumA (s : State) (l : Fin 4) (c : Nat) :
    (s.refund l c).sumA = s.sumA := by unfold State.refund; split <;> rfl
@[simp] theorem State.refund_sumB (s : State) (l : Fin 4) (c : Nat) :
    (s.refund l c).sumB = s.sumB := by unfold State.refund; split <;> rfl
@[simp] theorem State.refund_due (s : State) (l : Fin 4) (c : Nat) :
    (s.refund l c).due = s.due := by unfold State.refund; split <;> rfl
@[simp] theorem State.refund_held (s : State) (l : Fin 4) (c : Nat) :
    (s.refund l c).held = s.held := by unfold State.refund; split <;> rfl
@[simp] theorem State.refund_ring (s : State) (l : Fin 4) (c : Nat) :
    (s.refund l c).ring = s.ring := by unfold State.refund; split <;> rfl
@[simp] theorem State.refund_ringMode (s : State) (l : Fin 4) (c : Nat) :
    (s.refund l c).ringMode = s.ringMode := by unfold State.refund; split <;> rfl
@[simp] theorem State.refund_launcher (s : State) (l : Fin 4) (c : Nat) :
    (s.refund l c).launcher = s.launcher := by unfold State.refund; split <;> rfl
@[simp] theorem State.refund_entries (s : State) (l : Fin 4) (c : Nat) :
    (s.refund l c).entries = s.entries := by unfold State.refund; split <;> rfl
@[simp] theorem State.refund_cellMem (s : State) (l : Fin 4) (c : Nat) :
    (s.refund l c).cellMem = s.cellMem := by unfold State.refund; split <;> rfl
@[simp] theorem State.refund_pathA (s : State) (l : Fin 4) (c : Nat) :
    (s.refund l c).pathA = s.pathA := by unfold State.refund; split <;> rfl
@[simp] theorem State.refund_pathB (s : State) (l : Fin 4) (c : Nat) :
    (s.refund l c).pathB = s.pathB := by unfold State.refund; split <;> rfl
@[simp] theorem State.refund_house (s : State) (l : Fin 4) (c : Nat) :
    (s.refund l c).house = s.house := by unfold State.refund; split <;> rfl
@[simp] theorem State.refund_pattern (s : State) (l : Fin 4) (c : Nat) :
    (s.refund l c).pattern = s.pattern := by unfold State.refund; split <;> rfl
@[simp] theorem State.refund_patternMem (s : State) (l : Fin 4) (c : Nat) :
    (s.refund l c).patternMem = s.patternMem := by unfold State.refund; split <;> rfl
@[simp] theorem State.refund_port (s : State) (l : Fin 4) (c : Nat) :
    (s.refund l c).port = s.port := by unfold State.refund; split <;> rfl
@[simp] theorem State.refund_active (s : State) (l : Fin 4) (c : Nat) :
    (s.refund l c).active = s.active := by unfold State.refund; split <;> rfl
@[simp] theorem State.refund_frozen (s : State) (l : Fin 4) (c : Nat) :
    (s.refund l c).frozen = s.frozen := by unfold State.refund; split <;> rfl
@[simp] theorem State.refund_frozenLabel (s : State) (l : Fin 4) (c : Nat) :
    (s.refund l c).frozenLabel = s.frozenLabel := by unfold State.refund; split <;> rfl
@[simp] theorem State.refund_freeCount (s : State) (l : Fin 4) (c : Nat) :
    (s.refund l c).freeCount = s.freeCount := by unfold State.refund; split <;> rfl
@[simp] theorem State.refund_pending (s : State) (l : Fin 4) (c : Nat) :
    (s.refund l c).pending = s.pending := by unfold State.refund; split <;> rfl

/-- Returned cells change nothing of a lane but its account. -/
theorem State.lane_returnCells (s : State) (o : Owner) (c : Nat) (l : Fin 4) :
    (s.returnCells o c).lane l = { s.lane l with account := ((s.returnCells o c).lane l).account } := by
  cases o with
  | pattern => rfl
  | lane m =>
    by_cases h : l = m
    · subst h; simp [State.returnCells]
    · simp [State.returnCells, State.updAccount, State.lane_updLane_ne _ _ _ _ h]

/-! ## Freeing -/

@[simp] theorem State.freeOne_power (s : State) (e : Entry) (c : PartCounter) :
    (s.freeOne e c).power = s.power := by simp [State.freeOne]
@[simp] theorem State.freeOne_elapsed (s : State) (e : Entry) (c : PartCounter) :
    (s.freeOne e c).elapsed = s.elapsed := by simp [State.freeOne]
@[simp] theorem State.freeOne_params (s : State) (e : Entry) (c : PartCounter) :
    (s.freeOne e c).params = s.params := by simp [State.freeOne]
@[simp] theorem State.freeOne_store (s : State) (e : Entry) (c : PartCounter) :
    (s.freeOne e c).store = s.store := by simp [State.freeOne]
@[simp] theorem State.freeOne_slots (s : State) (e : Entry) (c : PartCounter) :
    (s.freeOne e c).slots = s.slots := by simp [State.freeOne]
@[simp] theorem State.freeOne_sumA (s : State) (e : Entry) (c : PartCounter) :
    (s.freeOne e c).sumA = s.sumA := by simp [State.freeOne]
@[simp] theorem State.freeOne_sumB (s : State) (e : Entry) (c : PartCounter) :
    (s.freeOne e c).sumB = s.sumB := by simp [State.freeOne]
@[simp] theorem State.freeOne_due (s : State) (e : Entry) (c : PartCounter) :
    (s.freeOne e c).due = s.due := by simp [State.freeOne]
@[simp] theorem State.freeOne_held (s : State) (e : Entry) (c : PartCounter) :
    (s.freeOne e c).held = s.held := by simp [State.freeOne]
@[simp] theorem State.freeOne_ring (s : State) (e : Entry) (c : PartCounter) :
    (s.freeOne e c).ring = s.ring := by simp [State.freeOne]
@[simp] theorem State.freeOne_ringMode (s : State) (e : Entry) (c : PartCounter) :
    (s.freeOne e c).ringMode = s.ringMode := by simp [State.freeOne]
@[simp] theorem State.freeOne_launcher (s : State) (e : Entry) (c : PartCounter) :
    (s.freeOne e c).launcher = s.launcher := by simp [State.freeOne]
@[simp] theorem State.freeOne_cellMem (s : State) (e : Entry) (c : PartCounter) :
    (s.freeOne e c).cellMem = s.cellMem := by simp [State.freeOne]
@[simp] theorem State.freeOne_pathA (s : State) (e : Entry) (c : PartCounter) :
    (s.freeOne e c).pathA = s.pathA := by simp [State.freeOne]
@[simp] theorem State.freeOne_pathB (s : State) (e : Entry) (c : PartCounter) :
    (s.freeOne e c).pathB = s.pathB := by simp [State.freeOne]
@[simp] theorem State.freeOne_house (s : State) (e : Entry) (c : PartCounter) :
    (s.freeOne e c).house = s.house := by simp [State.freeOne]
@[simp] theorem State.freeOne_patternMem (s : State) (e : Entry) (c : PartCounter) :
    (s.freeOne e c).patternMem = s.patternMem := by simp [State.freeOne]
@[simp] theorem State.freeOne_port (s : State) (e : Entry) (c : PartCounter) :
    (s.freeOne e c).port = s.port := by simp [State.freeOne]
@[simp] theorem State.freeOne_frozen (s : State) (e : Entry) (c : PartCounter) :
    (s.freeOne e c).frozen = s.frozen := by simp [State.freeOne]
@[simp] theorem State.freeOne_frozenLabel (s : State) (e : Entry) (c : PartCounter) :
    (s.freeOne e c).frozenLabel = s.frozenLabel := by simp [State.freeOne]
@[simp] theorem State.freeOne_freeCount (s : State) (e : Entry) (c : PartCounter) :
    (s.freeOne e c).freeCount = s.freeCount := by simp [State.freeOne]
@[simp] theorem State.freeOne_pending (s : State) (e : Entry) (c : PartCounter) :
    (s.freeOne e c).pending = s.pending := by simp [State.freeOne]

/-- The entries an entry's freeing leaves. -/
@[simp] theorem State.freeOne_entries (s : State) (e : Entry) (c : PartCounter) :
    (s.freeOne e c).entries = s.entries.filter fun x => decide (x.number ≠ e.number) := by
  simp [State.freeOne]

/-- A freeing changes nothing of a lane but its account. -/
theorem State.lane_freeOne (s : State) (e : Entry) (c : PartCounter) (l : Fin 4) :
    (s.freeOne e c).lane l = { s.lane l with account := ((s.freeOne e c).lane l).account } := by
  simpa [State.freeOne, State.lane] using State.lane_returnCells
    { s with entries := s.entries.filter fun x => decide (x.number ≠ e.number) } e.owner e.cells.length l

/-- Dropping a holder does nothing, frees the entry whose last holder it is, or leaves the entry its other holders. -/
theorem State.dropHolder_cases (s : State) (n : Nat) (x : Holder) (c : PartCounter) :
    s.dropHolder n x c = s
      ∨ (∃ e, s.entry? n = some e ∧ e.holders.has x = true ∧ (e.holders.put x false).isEmpty = true
          ∧ s.dropHolder n x c = s.freeOne e c)
      ∨ (∃ e, s.entry? n = some e ∧ e.holders.has x = true ∧ (e.holders.put x false).isEmpty = false
          ∧ s.dropHolder n x c = s.updEntry n fun y => { y with holders := e.holders.put x false }) := by
  unfold State.dropHolder
  split
  · exact .inl rfl
  · rename_i e he
    by_cases hx : e.holders.has x = true
    · by_cases hz : (e.holders.put x false).isEmpty = true
      · exact .inr (.inl ⟨e, he, hx, hz, by simp [hx, hz]⟩)
      · exact .inr (.inr ⟨e, he, hx, by simpa using hz, by simp [hx, hz]⟩)
    · exact .inl (by simp [hx])

@[simp] theorem State.dropHolder_power (s : State) (n : Nat) (x : Holder) (c : PartCounter) :
    (s.dropHolder n x c).power = s.power := by
  rcases s.dropHolder_cases n x c with h | ⟨e, _, _, _, h⟩ | ⟨e, _, _, _, h⟩ <;> simp [h]
@[simp] theorem State.dropHolder_elapsed (s : State) (n : Nat) (x : Holder) (c : PartCounter) :
    (s.dropHolder n x c).elapsed = s.elapsed := by
  rcases s.dropHolder_cases n x c with h | ⟨e, _, _, _, h⟩ | ⟨e, _, _, _, h⟩ <;> simp [h]
@[simp] theorem State.dropHolder_params (s : State) (n : Nat) (x : Holder) (c : PartCounter) :
    (s.dropHolder n x c).params = s.params := by
  rcases s.dropHolder_cases n x c with h | ⟨e, _, _, _, h⟩ | ⟨e, _, _, _, h⟩ <;> simp [h]
@[simp] theorem State.dropHolder_store (s : State) (n : Nat) (x : Holder) (c : PartCounter) :
    (s.dropHolder n x c).store = s.store := by
  rcases s.dropHolder_cases n x c with h | ⟨e, _, _, _, h⟩ | ⟨e, _, _, _, h⟩ <;> simp [h]
@[simp] theorem State.dropHolder_slots (s : State) (n : Nat) (x : Holder) (c : PartCounter) :
    (s.dropHolder n x c).slots = s.slots := by
  rcases s.dropHolder_cases n x c with h | ⟨e, _, _, _, h⟩ | ⟨e, _, _, _, h⟩ <;> simp [h]
@[simp] theorem State.dropHolder_sumA (s : State) (n : Nat) (x : Holder) (c : PartCounter) :
    (s.dropHolder n x c).sumA = s.sumA := by
  rcases s.dropHolder_cases n x c with h | ⟨e, _, _, _, h⟩ | ⟨e, _, _, _, h⟩ <;> simp [h]
@[simp] theorem State.dropHolder_sumB (s : State) (n : Nat) (x : Holder) (c : PartCounter) :
    (s.dropHolder n x c).sumB = s.sumB := by
  rcases s.dropHolder_cases n x c with h | ⟨e, _, _, _, h⟩ | ⟨e, _, _, _, h⟩ <;> simp [h]
@[simp] theorem State.dropHolder_due (s : State) (n : Nat) (x : Holder) (c : PartCounter) :
    (s.dropHolder n x c).due = s.due := by
  rcases s.dropHolder_cases n x c with h | ⟨e, _, _, _, h⟩ | ⟨e, _, _, _, h⟩ <;> simp [h]
@[simp] theorem State.dropHolder_held (s : State) (n : Nat) (x : Holder) (c : PartCounter) :
    (s.dropHolder n x c).held = s.held := by
  rcases s.dropHolder_cases n x c with h | ⟨e, _, _, _, h⟩ | ⟨e, _, _, _, h⟩ <;> simp [h]
@[simp] theorem State.dropHolder_ring (s : State) (n : Nat) (x : Holder) (c : PartCounter) :
    (s.dropHolder n x c).ring = s.ring := by
  rcases s.dropHolder_cases n x c with h | ⟨e, _, _, _, h⟩ | ⟨e, _, _, _, h⟩ <;> simp [h]
@[simp] theorem State.dropHolder_ringMode (s : State) (n : Nat) (x : Holder) (c : PartCounter) :
    (s.dropHolder n x c).ringMode = s.ringMode := by
  rcases s.dropHolder_cases n x c with h | ⟨e, _, _, _, h⟩ | ⟨e, _, _, _, h⟩ <;> simp [h]
@[simp] theorem State.dropHolder_launcher (s : State) (n : Nat) (x : Holder) (c : PartCounter) :
    (s.dropHolder n x c).launcher = s.launcher := by
  rcases s.dropHolder_cases n x c with h | ⟨e, _, _, _, h⟩ | ⟨e, _, _, _, h⟩ <;> simp [h]
@[simp] theorem State.dropHolder_cellMem (s : State) (n : Nat) (x : Holder) (c : PartCounter) :
    (s.dropHolder n x c).cellMem = s.cellMem := by
  rcases s.dropHolder_cases n x c with h | ⟨e, _, _, _, h⟩ | ⟨e, _, _, _, h⟩ <;> simp [h]
@[simp] theorem State.dropHolder_pathA (s : State) (n : Nat) (x : Holder) (c : PartCounter) :
    (s.dropHolder n x c).pathA = s.pathA := by
  rcases s.dropHolder_cases n x c with h | ⟨e, _, _, _, h⟩ | ⟨e, _, _, _, h⟩ <;> simp [h]
@[simp] theorem State.dropHolder_pathB (s : State) (n : Nat) (x : Holder) (c : PartCounter) :
    (s.dropHolder n x c).pathB = s.pathB := by
  rcases s.dropHolder_cases n x c with h | ⟨e, _, _, _, h⟩ | ⟨e, _, _, _, h⟩ <;> simp [h]
@[simp] theorem State.dropHolder_house (s : State) (n : Nat) (x : Holder) (c : PartCounter) :
    (s.dropHolder n x c).house = s.house := by
  rcases s.dropHolder_cases n x c with h | ⟨e, _, _, _, h⟩ | ⟨e, _, _, _, h⟩ <;> simp [h]
@[simp] theorem State.dropHolder_patternMem (s : State) (n : Nat) (x : Holder) (c : PartCounter) :
    (s.dropHolder n x c).patternMem = s.patternMem := by
  rcases s.dropHolder_cases n x c with h | ⟨e, _, _, _, h⟩ | ⟨e, _, _, _, h⟩ <;> simp [h]
@[simp] theorem State.dropHolder_port (s : State) (n : Nat) (x : Holder) (c : PartCounter) :
    (s.dropHolder n x c).port = s.port := by
  rcases s.dropHolder_cases n x c with h | ⟨e, _, _, _, h⟩ | ⟨e, _, _, _, h⟩ <;> simp [h]
@[simp] theorem State.dropHolder_frozen (s : State) (n : Nat) (x : Holder) (c : PartCounter) :
    (s.dropHolder n x c).frozen = s.frozen := by
  rcases s.dropHolder_cases n x c with h | ⟨e, _, _, _, h⟩ | ⟨e, _, _, _, h⟩ <;> simp [h]
@[simp] theorem State.dropHolder_frozenLabel (s : State) (n : Nat) (x : Holder) (c : PartCounter) :
    (s.dropHolder n x c).frozenLabel = s.frozenLabel := by
  rcases s.dropHolder_cases n x c with h | ⟨e, _, _, _, h⟩ | ⟨e, _, _, _, h⟩ <;> simp [h]
@[simp] theorem State.dropHolder_freeCount (s : State) (n : Nat) (x : Holder) (c : PartCounter) :
    (s.dropHolder n x c).freeCount = s.freeCount := by
  rcases s.dropHolder_cases n x c with h | ⟨e, _, _, _, h⟩ | ⟨e, _, _, _, h⟩ <;> simp [h]
@[simp] theorem State.dropHolder_pending (s : State) (n : Nat) (x : Holder) (c : PartCounter) :
    (s.dropHolder n x c).pending = s.pending := by
  rcases s.dropHolder_cases n x c with h | ⟨e, _, _, _, h⟩ | ⟨e, _, _, _, h⟩ <;> simp [h]

/-- Dropping a holder changes nothing of a lane but its account. -/
theorem State.lane_dropHolder (s : State) (n : Nat) (x : Holder) (c : PartCounter) (l : Fin 4) :
    (s.dropHolder n x c).lane l = { s.lane l with account := ((s.dropHolder n x c).lane l).account } := by
  rcases s.dropHolder_cases n x c with h | ⟨e, _, _, _, h⟩ | ⟨e, _, _, _, h⟩
  · rw [h]
  · rw [h]; exact s.lane_freeOne e c l
  · rw [h]; rfl

/-- Dropping a holder of entry `n` leaves every other entry. -/
theorem State.mem_dropHolder (s : State) (n : Nat) (x : Holder) (c : PartCounter) {e : Entry} (he : e ∈ s.entries)
    (h : e.number ≠ n) : e ∈ (s.dropHolder n x c).entries := by
  rcases s.dropHolder_cases n x c with hd | ⟨y, hy, _, _, hd⟩ | ⟨y, _, _, _, hd⟩
  · rw [hd]; exact he
  · have hn : y.number = n := by simpa using List.find?_some hy
    rw [hd, State.freeOne_entries]
    exact List.mem_filter.mpr ⟨he, by simpa [hn] using h⟩
  · rw [hd]
    exact List.mem_map.mpr ⟨e, he, by simp [h]⟩

@[simp] theorem State.dropAll_power (s : State) (x : Holder) (c : PartCounter) (ns : List Nat) :
    (s.dropAll x c ns).power = s.power := by
  induction ns generalizing s with
  | nil => rfl
  | cons n ns ih => simp [State.dropAll, ih]
@[simp] theorem State.dropAll_elapsed (s : State) (x : Holder) (c : PartCounter) (ns : List Nat) :
    (s.dropAll x c ns).elapsed = s.elapsed := by
  induction ns generalizing s with
  | nil => rfl
  | cons n ns ih => simp [State.dropAll, ih]
@[simp] theorem State.dropAll_params (s : State) (x : Holder) (c : PartCounter) (ns : List Nat) :
    (s.dropAll x c ns).params = s.params := by
  induction ns generalizing s with
  | nil => rfl
  | cons n ns ih => simp [State.dropAll, ih]
@[simp] theorem State.dropAll_store (s : State) (x : Holder) (c : PartCounter) (ns : List Nat) :
    (s.dropAll x c ns).store = s.store := by
  induction ns generalizing s with
  | nil => rfl
  | cons n ns ih => simp [State.dropAll, ih]
@[simp] theorem State.dropAll_slots (s : State) (x : Holder) (c : PartCounter) (ns : List Nat) :
    (s.dropAll x c ns).slots = s.slots := by
  induction ns generalizing s with
  | nil => rfl
  | cons n ns ih => simp [State.dropAll, ih]
@[simp] theorem State.dropAll_sumA (s : State) (x : Holder) (c : PartCounter) (ns : List Nat) :
    (s.dropAll x c ns).sumA = s.sumA := by
  induction ns generalizing s with
  | nil => rfl
  | cons n ns ih => simp [State.dropAll, ih]
@[simp] theorem State.dropAll_sumB (s : State) (x : Holder) (c : PartCounter) (ns : List Nat) :
    (s.dropAll x c ns).sumB = s.sumB := by
  induction ns generalizing s with
  | nil => rfl
  | cons n ns ih => simp [State.dropAll, ih]
@[simp] theorem State.dropAll_due (s : State) (x : Holder) (c : PartCounter) (ns : List Nat) :
    (s.dropAll x c ns).due = s.due := by
  induction ns generalizing s with
  | nil => rfl
  | cons n ns ih => simp [State.dropAll, ih]
@[simp] theorem State.dropAll_held (s : State) (x : Holder) (c : PartCounter) (ns : List Nat) :
    (s.dropAll x c ns).held = s.held := by
  induction ns generalizing s with
  | nil => rfl
  | cons n ns ih => simp [State.dropAll, ih]
@[simp] theorem State.dropAll_ring (s : State) (x : Holder) (c : PartCounter) (ns : List Nat) :
    (s.dropAll x c ns).ring = s.ring := by
  induction ns generalizing s with
  | nil => rfl
  | cons n ns ih => simp [State.dropAll, ih]
@[simp] theorem State.dropAll_ringMode (s : State) (x : Holder) (c : PartCounter) (ns : List Nat) :
    (s.dropAll x c ns).ringMode = s.ringMode := by
  induction ns generalizing s with
  | nil => rfl
  | cons n ns ih => simp [State.dropAll, ih]
@[simp] theorem State.dropAll_launcher (s : State) (x : Holder) (c : PartCounter) (ns : List Nat) :
    (s.dropAll x c ns).launcher = s.launcher := by
  induction ns generalizing s with
  | nil => rfl
  | cons n ns ih => simp [State.dropAll, ih]
@[simp] theorem State.dropAll_cellMem (s : State) (x : Holder) (c : PartCounter) (ns : List Nat) :
    (s.dropAll x c ns).cellMem = s.cellMem := by
  induction ns generalizing s with
  | nil => rfl
  | cons n ns ih => simp [State.dropAll, ih]
@[simp] theorem State.dropAll_pathA (s : State) (x : Holder) (c : PartCounter) (ns : List Nat) :
    (s.dropAll x c ns).pathA = s.pathA := by
  induction ns generalizing s with
  | nil => rfl
  | cons n ns ih => simp [State.dropAll, ih]
@[simp] theorem State.dropAll_pathB (s : State) (x : Holder) (c : PartCounter) (ns : List Nat) :
    (s.dropAll x c ns).pathB = s.pathB := by
  induction ns generalizing s with
  | nil => rfl
  | cons n ns ih => simp [State.dropAll, ih]
@[simp] theorem State.dropAll_house (s : State) (x : Holder) (c : PartCounter) (ns : List Nat) :
    (s.dropAll x c ns).house = s.house := by
  induction ns generalizing s with
  | nil => rfl
  | cons n ns ih => simp [State.dropAll, ih]
@[simp] theorem State.dropAll_patternMem (s : State) (x : Holder) (c : PartCounter) (ns : List Nat) :
    (s.dropAll x c ns).patternMem = s.patternMem := by
  induction ns generalizing s with
  | nil => rfl
  | cons n ns ih => simp [State.dropAll, ih]
@[simp] theorem State.dropAll_port (s : State) (x : Holder) (c : PartCounter) (ns : List Nat) :
    (s.dropAll x c ns).port = s.port := by
  induction ns generalizing s with
  | nil => rfl
  | cons n ns ih => simp [State.dropAll, ih]
@[simp] theorem State.dropAll_frozen (s : State) (x : Holder) (c : PartCounter) (ns : List Nat) :
    (s.dropAll x c ns).frozen = s.frozen := by
  induction ns generalizing s with
  | nil => rfl
  | cons n ns ih => simp [State.dropAll, ih]
@[simp] theorem State.dropAll_frozenLabel (s : State) (x : Holder) (c : PartCounter) (ns : List Nat) :
    (s.dropAll x c ns).frozenLabel = s.frozenLabel := by
  induction ns generalizing s with
  | nil => rfl
  | cons n ns ih => simp [State.dropAll, ih]
@[simp] theorem State.dropAll_freeCount (s : State) (x : Holder) (c : PartCounter) (ns : List Nat) :
    (s.dropAll x c ns).freeCount = s.freeCount := by
  induction ns generalizing s with
  | nil => rfl
  | cons n ns ih => simp [State.dropAll, ih]
@[simp] theorem State.dropAll_pending (s : State) (x : Holder) (c : PartCounter) (ns : List Nat) :
    (s.dropAll x c ns).pending = s.pending := by
  induction ns generalizing s with
  | nil => rfl
  | cons n ns ih => simp [State.dropAll, ih]

/-- Dropping holders changes nothing of a lane but its account. -/
theorem State.lane_dropAll (s : State) (x : Holder) (c : PartCounter) (ns : List Nat) (l : Fin 4) :
    (s.dropAll x c ns).lane l = { s.lane l with account := ((s.dropAll x c ns).lane l).account } := by
  induction ns generalizing s with
  | nil => rfl
  | cons n ns ih => rw [State.dropAll, ih, s.lane_dropHolder n x c l]

/-- Dropping holders of some entries leaves every other entry. -/
theorem State.mem_dropAll (s : State) (x : Holder) (c : PartCounter) (ns : List Nat) {e : Entry} (he : e ∈ s.entries)
    (h : e.number ∉ ns) : e ∈ (s.dropAll x c ns).entries := by
  induction ns generalizing s with
  | nil => exact he
  | cons n ns ih =>
    simp only [List.mem_cons, not_or] at h
    exact ih _ (s.mem_dropHolder n x c he h.1) h.2

/-! ## Filling -/

@[simp] theorem State.fill_power (s : State) (n : Nat) (i : Fin 16) (o : Owner) (f k : Nat) (b : List Byte) (g : ConditionFlags) :
    (s.fill n i o f k b g).power = s.power := by
  cases o <;> simp [State.fill]
@[simp] theorem State.fill_elapsed (s : State) (n : Nat) (i : Fin 16) (o : Owner) (f k : Nat) (b : List Byte) (g : ConditionFlags) :
    (s.fill n i o f k b g).elapsed = s.elapsed := by
  cases o <;> simp [State.fill]
@[simp] theorem State.fill_params (s : State) (n : Nat) (i : Fin 16) (o : Owner) (f k : Nat) (b : List Byte) (g : ConditionFlags) :
    (s.fill n i o f k b g).params = s.params := by
  cases o <;> simp [State.fill]
@[simp] theorem State.fill_store (s : State) (n : Nat) (i : Fin 16) (o : Owner) (f k : Nat) (b : List Byte) (g : ConditionFlags) :
    (s.fill n i o f k b g).store = s.store := by
  cases o <;> simp [State.fill]
@[simp] theorem State.fill_sumA (s : State) (n : Nat) (i : Fin 16) (o : Owner) (f k : Nat) (b : List Byte) (g : ConditionFlags) :
    (s.fill n i o f k b g).sumA = s.sumA := by
  cases o <;> simp [State.fill]
@[simp] theorem State.fill_sumB (s : State) (n : Nat) (i : Fin 16) (o : Owner) (f k : Nat) (b : List Byte) (g : ConditionFlags) :
    (s.fill n i o f k b g).sumB = s.sumB := by
  cases o <;> simp [State.fill]
@[simp] theorem State.fill_due (s : State) (n : Nat) (i : Fin 16) (o : Owner) (f k : Nat) (b : List Byte) (g : ConditionFlags) :
    (s.fill n i o f k b g).due = s.due := by
  cases o <;> simp [State.fill]
@[simp] theorem State.fill_held (s : State) (n : Nat) (i : Fin 16) (o : Owner) (f k : Nat) (b : List Byte) (g : ConditionFlags) :
    (s.fill n i o f k b g).held = s.held := by
  cases o <;> simp [State.fill]
@[simp] theorem State.fill_ring (s : State) (n : Nat) (i : Fin 16) (o : Owner) (f k : Nat) (b : List Byte) (g : ConditionFlags) :
    (s.fill n i o f k b g).ring = s.ring := by
  cases o <;> simp [State.fill]
@[simp] theorem State.fill_ringMode (s : State) (n : Nat) (i : Fin 16) (o : Owner) (f k : Nat) (b : List Byte) (g : ConditionFlags) :
    (s.fill n i o f k b g).ringMode = s.ringMode := by
  cases o <;> simp [State.fill]
@[simp] theorem State.fill_launcher (s : State) (n : Nat) (i : Fin 16) (o : Owner) (f k : Nat) (b : List Byte) (g : ConditionFlags) :
    (s.fill n i o f k b g).launcher = s.launcher := by
  cases o <;> simp [State.fill]
@[simp] theorem State.fill_pathA (s : State) (n : Nat) (i : Fin 16) (o : Owner) (f k : Nat) (b : List Byte) (g : ConditionFlags) :
    (s.fill n i o f k b g).pathA = s.pathA := by
  cases o <;> simp [State.fill]
@[simp] theorem State.fill_pathB (s : State) (n : Nat) (i : Fin 16) (o : Owner) (f k : Nat) (b : List Byte) (g : ConditionFlags) :
    (s.fill n i o f k b g).pathB = s.pathB := by
  cases o <;> simp [State.fill]
@[simp] theorem State.fill_house (s : State) (n : Nat) (i : Fin 16) (o : Owner) (f k : Nat) (b : List Byte) (g : ConditionFlags) :
    (s.fill n i o f k b g).house = s.house := by
  cases o <;> simp [State.fill]
@[simp] theorem State.fill_patternMem (s : State) (n : Nat) (i : Fin 16) (o : Owner) (f k : Nat) (b : List Byte) (g : ConditionFlags) :
    (s.fill n i o f k b g).patternMem = s.patternMem := by
  cases o <;> simp [State.fill]
@[simp] theorem State.fill_port (s : State) (n : Nat) (i : Fin 16) (o : Owner) (f k : Nat) (b : List Byte) (g : ConditionFlags) :
    (s.fill n i o f k b g).port = s.port := by
  cases o <;> simp [State.fill]
@[simp] theorem State.fill_frozen (s : State) (n : Nat) (i : Fin 16) (o : Owner) (f k : Nat) (b : List Byte) (g : ConditionFlags) :
    (s.fill n i o f k b g).frozen = s.frozen := by
  cases o <;> simp [State.fill]
@[simp] theorem State.fill_frozenLabel (s : State) (n : Nat) (i : Fin 16) (o : Owner) (f k : Nat) (b : List Byte) (g : ConditionFlags) :
    (s.fill n i o f k b g).frozenLabel = s.frozenLabel := by
  cases o <;> simp [State.fill]
@[simp] theorem State.fill_freeCount (s : State) (n : Nat) (i : Fin 16) (o : Owner) (f k : Nat) (b : List Byte) (g : ConditionFlags) :
    (s.fill n i o f k b g).freeCount = s.freeCount := by
  cases o <;> simp [State.fill]
@[simp] theorem State.fill_pending (s : State) (n : Nat) (i : Fin 16) (o : Owner) (f k : Nat) (b : List Byte) (g : ConditionFlags) :
    (s.fill n i o f k b g).pending = s.pending := by
  cases o <;> simp [State.fill]

/-- A filling writes the payload into the cells it takes. -/
theorem State.fill_cellMem (s : State) (n : Nat) (i : Fin 16) (o : Owner) (f k : Nat) (b : List Byte)
    (g : ConditionFlags) :
    (s.fill n i o f k b g).cellMem = writePayload s.cellMem (s.takeCells (cellsFor b.length)) b := by
  cases o <;> simp [State.fill]

/-- Inserting an entry keeps every entry and adds the one. -/
theorem mem_insertEntry (e x : Entry) (es : List Entry) : x ∈ insertEntry e es ↔ x = e ∨ x ∈ es := by
  induction es with
  | nil => simp [insertEntry]
  | cons y ys ih =>
    simp only [insertEntry]
    split
    · simp
    · simp only [List.mem_cons, ih]
      tauto

/-- The cells a filling takes are free and at or above the first one tried. -/
theorem mem_lowestCells {held : List Nat} {fuel c need x : Nat} (h : x ∈ lowestCells held fuel c need) :
    c ≤ x ∧ x ∉ held := by
  induction fuel generalizing c need with
  | zero => simp [lowestCells] at h
  | succ fuel ih =>
    cases need with
    | zero => simp [lowestCells] at h
    | succ need =>
      simp only [lowestCells] at h
      split at h
      · have := ih h
        exact ⟨by omega, this.2⟩
      · rename_i hc
        rcases List.mem_cons.mp h with rfl | h
        · exact ⟨Nat.le_refl _, by simpa using hc⟩
        · have := ih h
          exact ⟨by omega, this.2⟩

/-- A filling takes its cells in increasing number. -/
theorem lowestCells_increasing (held : List Nat) (fuel c need : Nat) :
    (lowestCells held fuel c need).Pairwise (· < ·) := by
  induction fuel generalizing c need with
  | zero => simp [lowestCells]
  | succ fuel ih =>
    cases need with
    | zero => simp [lowestCells]
    | succ need =>
      simp only [lowestCells]
      split
      · exact ih _ _
      · refine List.pairwise_cons.mpr ⟨fun x hx => ?_, ih _ _⟩
        have := (mem_lowestCells hx).1
        omega

end Sys2Proof.Machine
end

