-- ==== Sys2Proof/Laws/Views.lean ====
section
/-!
SUPPORT. What the small updates leave in the views of the state: a slot, a lane, a path, house time, an entry.
-/

namespace Sys2Proof.Machine

open Sys2Proof

@[simp] theorem State.now_updSlot (s : State) (i : Fin 16) (f : Slot → Slot) :
    (s.updSlot i f).now = s.now := by simp [State.now]
@[simp] theorem State.entry_updSlot (s : State) (i : Fin 16) (f : Slot → Slot) (a : Nat) :
    (s.updSlot i f).entry? a = s.entry? a := by simp [State.entry?]

@[simp] theorem State.now_updLane (s : State) (l : Fin 4) (f : Lane → Lane) :
    (s.updLane l f).now = s.now := by simp [State.now]
@[simp] theorem State.entry_updLane (s : State) (l : Fin 4) (f : Lane → Lane) (a : Nat) :
    (s.updLane l f).entry? a = s.entry? a := by simp [State.entry?]

@[simp] theorem State.now_updPath (s : State) (p : PathId) (f : Path → Path) :
    (s.updPath p f).now = s.now := by simp [State.now]
@[simp] theorem State.entry_updPath (s : State) (p : PathId) (f : Path → Path) (a : Nat) :
    (s.updPath p f).entry? a = s.entry? a := by simp [State.entry?]

@[simp] theorem State.entry_updHouse (s : State) (f : House → House) (a : Nat) :
    (s.updHouse f).entry? a = s.entry? a := by simp [State.entry?]

@[simp] theorem State.now_updPort (s : State) (f : Port → Port) :
    (s.updPort f).now = s.now := by simp [State.now]
@[simp] theorem State.entry_updPort (s : State) (f : Port → Port) (a : Nat) :
    (s.updPort f).entry? a = s.entry? a := by simp [State.entry?]

@[simp] theorem State.now_updPattern (s : State) (f : PatternSource → PatternSource) :
    (s.updPattern f).now = s.now := by simp [State.now]
@[simp] theorem State.entry_updPattern (s : State) (f : PatternSource → PatternSource) (a : Nat) :
    (s.updPattern f).entry? a = s.entry? a := by simp [State.entry?]

@[simp] theorem State.now_updParams (s : State) (f : Params → Params) :
    (s.updParams f).now = s.now := by simp [State.now]
@[simp] theorem State.entry_updParams (s : State) (f : Params → Params) (a : Nat) :
    (s.updParams f).entry? a = s.entry? a := by simp [State.entry?]

@[simp] theorem State.now_updEntry (s : State) (n : Nat) (f : Entry → Entry) :
    (s.updEntry n f).now = s.now := by simp [State.now]

@[simp] theorem State.now_updAccount (s : State) (l : Fin 4) (f : Account → Account) :
    (s.updAccount l f).now = s.now := by simp [State.now]
@[simp] theorem State.entry_updAccount (s : State) (l : Fin 4) (f : Account → Account) (a : Nat) :
    (s.updAccount l f).entry? a = s.entry? a := by simp [State.entry?]

@[simp] theorem State.now_countSlot (s : State) (i : Fin 16) (c : SlotCounter) (n : Nat) :
    (s.countSlot i c n).now = s.now := by simp [State.now]
@[simp] theorem State.entry_countSlot (s : State) (i : Fin 16) (c : SlotCounter) (n : Nat) (a : Nat) :
    (s.countSlot i c n).entry? a = s.entry? a := by simp [State.entry?]

@[simp] theorem State.now_countLane (s : State) (l : Fin 4) (c : LaneCounter) (n : Nat) :
    (s.countLane l c n).now = s.now := by simp [State.now]
@[simp] theorem State.entry_countLane (s : State) (l : Fin 4) (c : LaneCounter) (n : Nat) (a : Nat) :
    (s.countLane l c n).entry? a = s.entry? a := by simp [State.entry?]

@[simp] theorem State.now_countPath (s : State) (p : PathId) (c : PathCounter) (n : Nat) :
    (s.countPath p c n).now = s.now := by simp [State.now]
@[simp] theorem State.entry_countPath (s : State) (p : PathId) (c : PathCounter) (n : Nat) (a : Nat) :
    (s.countPath p c n).entry? a = s.entry? a := by simp [State.entry?]

@[simp] theorem State.now_countPart (s : State) (c : PartCounter) (n : Nat) :
    (s.countPart c n).now = s.now := by simp [State.now]
@[simp] theorem State.entry_countPart (s : State) (c : PartCounter) (n : Nat) (a : Nat) :
    (s.countPart c n).entry? a = s.entry? a := by simp [State.entry?]

@[simp] theorem State.now_latch (s : State) (c : Cause) :
    (s.latch c).now = s.now := by simp [State.now]
@[simp] theorem State.entry_latch (s : State) (c : Cause) (a : Nat) :
    (s.latch c).entry? a = s.entry? a := by simp [State.entry?]

@[simp] theorem State.now_latchSlot (s : State) (i : Fin 16) :
    (s.latchSlot i).now = s.now := by simp [State.now]
@[simp] theorem State.entry_latchSlot (s : State) (i : Fin 16) (a : Nat) :
    (s.latchSlot i).entry? a = s.entry? a := by simp [State.entry?]

@[simp] theorem State.now_latchPath (s : State) (p : PathId) :
    (s.latchPath p).now = s.now := by simp [State.now]
@[simp] theorem State.entry_latchPath (s : State) (p : PathId) (a : Nat) :
    (s.latchPath p).entry? a = s.entry? a := by simp [State.entry?]

@[simp] theorem State.now_latchLane (s : State) (l : Fin 4) :
    (s.latchLane l).now = s.now := by simp [State.now]
@[simp] theorem State.entry_latchLane (s : State) (l : Fin 4) (a : Nat) :
    (s.latchLane l).entry? a = s.entry? a := by simp [State.entry?]

@[simp] theorem State.slot_returnCells (s : State) (o : Owner) (c : Nat) (j : Fin 16) :
    (s.returnCells o c).slot j = s.slot j := by simp [State.slot]
@[simp] theorem State.path_returnCells (s : State) (o : Owner) (c : Nat) (z : PathId) :
    (s.returnCells o c).path z = s.path z := by cases z <;> simp [State.path]
@[simp] theorem State.now_returnCells (s : State) (o : Owner) (c : Nat) :
    (s.returnCells o c).now = s.now := by simp [State.now]
@[simp] theorem State.entry_returnCells (s : State) (o : Owner) (c : Nat) (a : Nat) :
    (s.returnCells o c).entry? a = s.entry? a := by simp [State.entry?]

@[simp] theorem State.slot_refund (s : State) (l : Fin 4) (c : Nat) (j : Fin 16) :
    (s.refund l c).slot j = s.slot j := by simp [State.slot]
@[simp] theorem State.path_refund (s : State) (l : Fin 4) (c : Nat) (z : PathId) :
    (s.refund l c).path z = s.path z := by cases z <;> simp [State.path]
@[simp] theorem State.now_refund (s : State) (l : Fin 4) (c : Nat) :
    (s.refund l c).now = s.now := by simp [State.now]
@[simp] theorem State.entry_refund (s : State) (l : Fin 4) (c : Nat) (a : Nat) :
    (s.refund l c).entry? a = s.entry? a := by simp [State.entry?]

@[simp] theorem State.slot_freeOne (s : State) (e : Entry) (c : PartCounter) (j : Fin 16) :
    (s.freeOne e c).slot j = s.slot j := by simp [State.slot]
@[simp] theorem State.path_freeOne (s : State) (e : Entry) (c : PartCounter) (z : PathId) :
    (s.freeOne e c).path z = s.path z := by cases z <;> simp [State.path]
@[simp] theorem State.now_freeOne (s : State) (e : Entry) (c : PartCounter) :
    (s.freeOne e c).now = s.now := by simp [State.now]

@[simp] theorem State.slot_dropHolder (s : State) (n : Nat) (x : Holder) (c : PartCounter) (j : Fin 16) :
    (s.dropHolder n x c).slot j = s.slot j := by simp [State.slot]
@[simp] theorem State.path_dropHolder (s : State) (n : Nat) (x : Holder) (c : PartCounter) (z : PathId) :
    (s.dropHolder n x c).path z = s.path z := by cases z <;> simp [State.path]
@[simp] theorem State.now_dropHolder (s : State) (n : Nat) (x : Holder) (c : PartCounter) :
    (s.dropHolder n x c).now = s.now := by simp [State.now]

@[simp] theorem State.slot_dropAll (s : State) (x : Holder) (c : PartCounter) (ns : List Nat) (j : Fin 16) :
    (s.dropAll x c ns).slot j = s.slot j := by simp [State.slot]
@[simp] theorem State.path_dropAll (s : State) (x : Holder) (c : PartCounter) (ns : List Nat) (z : PathId) :
    (s.dropAll x c ns).path z = s.path z := by cases z <;> simp [State.path]
@[simp] theorem State.now_dropAll (s : State) (x : Holder) (c : PartCounter) (ns : List Nat) :
    (s.dropAll x c ns).now = s.now := by simp [State.now]

end Sys2Proof.Machine
end

