-- ==== Sys2Proof/Laws/Streams.lean ====
section
/-!
SUPPORT. Notices, opening and closing of streams: what each leaves, what it writes, its cases.
-/

namespace Sys2Proof.Machine

open Sys2Proof

@[simp] theorem State.queueNotice_power (s : State) (l : Fin 4) (t : Notice) :
    (s.queueNotice l t).power = s.power := by simp [State.queueNotice]
@[simp] theorem State.queueNotice_elapsed (s : State) (l : Fin 4) (t : Notice) :
    (s.queueNotice l t).elapsed = s.elapsed := by simp [State.queueNotice]
@[simp] theorem State.queueNotice_params (s : State) (l : Fin 4) (t : Notice) :
    (s.queueNotice l t).params = s.params := by simp [State.queueNotice]
@[simp] theorem State.queueNotice_store (s : State) (l : Fin 4) (t : Notice) :
    (s.queueNotice l t).store = s.store := by simp [State.queueNotice]
@[simp] theorem State.queueNotice_slots (s : State) (l : Fin 4) (t : Notice) :
    (s.queueNotice l t).slots = s.slots := by simp [State.queueNotice]
@[simp] theorem State.queueNotice_sumA (s : State) (l : Fin 4) (t : Notice) :
    (s.queueNotice l t).sumA = s.sumA := by simp [State.queueNotice]
@[simp] theorem State.queueNotice_sumB (s : State) (l : Fin 4) (t : Notice) :
    (s.queueNotice l t).sumB = s.sumB := by simp [State.queueNotice]
@[simp] theorem State.queueNotice_due (s : State) (l : Fin 4) (t : Notice) :
    (s.queueNotice l t).due = s.due := by simp [State.queueNotice]
@[simp] theorem State.queueNotice_held (s : State) (l : Fin 4) (t : Notice) :
    (s.queueNotice l t).held = s.held := by simp [State.queueNotice]
@[simp] theorem State.queueNotice_ring (s : State) (l : Fin 4) (t : Notice) :
    (s.queueNotice l t).ring = s.ring := by simp [State.queueNotice]
@[simp] theorem State.queueNotice_ringMode (s : State) (l : Fin 4) (t : Notice) :
    (s.queueNotice l t).ringMode = s.ringMode := by simp [State.queueNotice]
@[simp] theorem State.queueNotice_launcher (s : State) (l : Fin 4) (t : Notice) :
    (s.queueNotice l t).launcher = s.launcher := by simp [State.queueNotice]
@[simp] theorem State.queueNotice_entries (s : State) (l : Fin 4) (t : Notice) :
    (s.queueNotice l t).entries = s.entries := by simp [State.queueNotice]
@[simp] theorem State.queueNotice_cellMem (s : State) (l : Fin 4) (t : Notice) :
    (s.queueNotice l t).cellMem = s.cellMem := by simp [State.queueNotice]
@[simp] theorem State.queueNotice_pathA (s : State) (l : Fin 4) (t : Notice) :
    (s.queueNotice l t).pathA = s.pathA := by simp [State.queueNotice]
@[simp] theorem State.queueNotice_pathB (s : State) (l : Fin 4) (t : Notice) :
    (s.queueNotice l t).pathB = s.pathB := by simp [State.queueNotice]
@[simp] theorem State.queueNotice_house (s : State) (l : Fin 4) (t : Notice) :
    (s.queueNotice l t).house = s.house := by simp [State.queueNotice]
@[simp] theorem State.queueNotice_pattern (s : State) (l : Fin 4) (t : Notice) :
    (s.queueNotice l t).pattern = s.pattern := by simp [State.queueNotice]
@[simp] theorem State.queueNotice_patternMem (s : State) (l : Fin 4) (t : Notice) :
    (s.queueNotice l t).patternMem = s.patternMem := by simp [State.queueNotice]
@[simp] theorem State.queueNotice_port (s : State) (l : Fin 4) (t : Notice) :
    (s.queueNotice l t).port = s.port := by simp [State.queueNotice]
@[simp] theorem State.queueNotice_active (s : State) (l : Fin 4) (t : Notice) :
    (s.queueNotice l t).active = s.active := by simp [State.queueNotice]
@[simp] theorem State.queueNotice_frozen (s : State) (l : Fin 4) (t : Notice) :
    (s.queueNotice l t).frozen = s.frozen := by simp [State.queueNotice]
@[simp] theorem State.queueNotice_frozenLabel (s : State) (l : Fin 4) (t : Notice) :
    (s.queueNotice l t).frozenLabel = s.frozenLabel := by simp [State.queueNotice]
@[simp] theorem State.queueNotice_freeCount (s : State) (l : Fin 4) (t : Notice) :
    (s.queueNotice l t).freeCount = s.freeCount := by simp [State.queueNotice]
@[simp] theorem State.queueNotice_pending (s : State) (l : Fin 4) (t : Notice) :
    (s.queueNotice l t).pending = s.pending := by simp [State.queueNotice]

@[simp] theorem State.slot_queueNotice (s : State) (l : Fin 4) (t : Notice) (j : Fin 16) :
    (s.queueNotice l t).slot j = s.slot j := by simp [State.slot]
@[simp] theorem State.path_queueNotice (s : State) (l : Fin 4) (t : Notice) (z : PathId) :
    (s.queueNotice l t).path z = s.path z := by cases z <;> simp [State.path]
@[simp] theorem State.now_queueNotice (s : State) (l : Fin 4) (t : Notice) :
    (s.queueNotice l t).now = s.now := by simp [State.now]
@[simp] theorem State.entry_queueNotice (s : State) (l : Fin 4) (t : Notice) (a : Nat) :
    (s.queueNotice l t).entry? a = s.entry? a := by simp [State.entry?]

@[simp] theorem State.queueLaneReady_power (s : State) (l : Fin 4) (c : Nat) :
    (s.queueLaneReady l c).power = s.power := by simp [State.queueLaneReady]
@[simp] theorem State.queueLaneReady_elapsed (s : State) (l : Fin 4) (c : Nat) :
    (s.queueLaneReady l c).elapsed = s.elapsed := by simp [State.queueLaneReady]
@[simp] theorem State.queueLaneReady_params (s : State) (l : Fin 4) (c : Nat) :
    (s.queueLaneReady l c).params = s.params := by simp [State.queueLaneReady]
@[simp] theorem State.queueLaneReady_store (s : State) (l : Fin 4) (c : Nat) :
    (s.queueLaneReady l c).store = s.store := by simp [State.queueLaneReady]
@[simp] theorem State.queueLaneReady_slots (s : State) (l : Fin 4) (c : Nat) :
    (s.queueLaneReady l c).slots = s.slots := by simp [State.queueLaneReady]
@[simp] theorem State.queueLaneReady_sumA (s : State) (l : Fin 4) (c : Nat) :
    (s.queueLaneReady l c).sumA = s.sumA := by simp [State.queueLaneReady]
@[simp] theorem State.queueLaneReady_sumB (s : State) (l : Fin 4) (c : Nat) :
    (s.queueLaneReady l c).sumB = s.sumB := by simp [State.queueLaneReady]
@[simp] theorem State.queueLaneReady_due (s : State) (l : Fin 4) (c : Nat) :
    (s.queueLaneReady l c).due = s.due := by simp [State.queueLaneReady]
@[simp] theorem State.queueLaneReady_held (s : State) (l : Fin 4) (c : Nat) :
    (s.queueLaneReady l c).held = s.held := by simp [State.queueLaneReady]
@[simp] theorem State.queueLaneReady_ring (s : State) (l : Fin 4) (c : Nat) :
    (s.queueLaneReady l c).ring = s.ring := by simp [State.queueLaneReady]
@[simp] theorem State.queueLaneReady_ringMode (s : State) (l : Fin 4) (c : Nat) :
    (s.queueLaneReady l c).ringMode = s.ringMode := by simp [State.queueLaneReady]
@[simp] theorem State.queueLaneReady_launcher (s : State) (l : Fin 4) (c : Nat) :
    (s.queueLaneReady l c).launcher = s.launcher := by simp [State.queueLaneReady]
@[simp] theorem State.queueLaneReady_entries (s : State) (l : Fin 4) (c : Nat) :
    (s.queueLaneReady l c).entries = s.entries := by simp [State.queueLaneReady]
@[simp] theorem State.queueLaneReady_cellMem (s : State) (l : Fin 4) (c : Nat) :
    (s.queueLaneReady l c).cellMem = s.cellMem := by simp [State.queueLaneReady]
@[simp] theorem State.queueLaneReady_pathA (s : State) (l : Fin 4) (c : Nat) :
    (s.queueLaneReady l c).pathA = s.pathA := by simp [State.queueLaneReady]
@[simp] theorem State.queueLaneReady_pathB (s : State) (l : Fin 4) (c : Nat) :
    (s.queueLaneReady l c).pathB = s.pathB := by simp [State.queueLaneReady]
@[simp] theorem State.queueLaneReady_house (s : State) (l : Fin 4) (c : Nat) :
    (s.queueLaneReady l c).house = s.house := by simp [State.queueLaneReady]
@[simp] theorem State.queueLaneReady_pattern (s : State) (l : Fin 4) (c : Nat) :
    (s.queueLaneReady l c).pattern = s.pattern := by simp [State.queueLaneReady]
@[simp] theorem State.queueLaneReady_patternMem (s : State) (l : Fin 4) (c : Nat) :
    (s.queueLaneReady l c).patternMem = s.patternMem := by simp [State.queueLaneReady]
@[simp] theorem State.queueLaneReady_port (s : State) (l : Fin 4) (c : Nat) :
    (s.queueLaneReady l c).port = s.port := by simp [State.queueLaneReady]
@[simp] theorem State.queueLaneReady_active (s : State) (l : Fin 4) (c : Nat) :
    (s.queueLaneReady l c).active = s.active := by simp [State.queueLaneReady]
@[simp] theorem State.queueLaneReady_frozen (s : State) (l : Fin 4) (c : Nat) :
    (s.queueLaneReady l c).frozen = s.frozen := by simp [State.queueLaneReady]
@[simp] theorem State.queueLaneReady_frozenLabel (s : State) (l : Fin 4) (c : Nat) :
    (s.queueLaneReady l c).frozenLabel = s.frozenLabel := by simp [State.queueLaneReady]
@[simp] theorem State.queueLaneReady_freeCount (s : State) (l : Fin 4) (c : Nat) :
    (s.queueLaneReady l c).freeCount = s.freeCount := by simp [State.queueLaneReady]
@[simp] theorem State.queueLaneReady_pending (s : State) (l : Fin 4) (c : Nat) :
    (s.queueLaneReady l c).pending = s.pending := by simp [State.queueLaneReady]

@[simp] theorem State.slot_queueLaneReady (s : State) (l : Fin 4) (c : Nat) (j : Fin 16) :
    (s.queueLaneReady l c).slot j = s.slot j := by simp [State.slot]
@[simp] theorem State.path_queueLaneReady (s : State) (l : Fin 4) (c : Nat) (z : PathId) :
    (s.queueLaneReady l c).path z = s.path z := by cases z <;> simp [State.path]
@[simp] theorem State.now_queueLaneReady (s : State) (l : Fin 4) (c : Nat) :
    (s.queueLaneReady l c).now = s.now := by simp [State.now]
@[simp] theorem State.entry_queueLaneReady (s : State) (l : Fin 4) (c : Nat) (a : Nat) :
    (s.queueLaneReady l c).entry? a = s.entry? a := by simp [State.entry?]

/-- A queued notice stands at the tail of its lane's queue. -/
@[simp] theorem State.lane_queueNotice_self (s : State) (l : Fin 4) (t : Notice) :
    (s.queueNotice l t).lane l = { s.lane l with queue := (s.lane l).queue ++ [t] } := by
  simp [State.queueNotice]

theorem State.lane_queueNotice_ne (s : State) (l m : Fin 4) (t : Notice) (h : m ≠ l) :
    (s.queueNotice l t).lane m = s.lane m := s.lane_updLane_ne l m _ h

/-- A queued LANE READY stands at the tail, and no CREDIT stands before it. -/
@[simp] theorem State.lane_queueLaneReady_self (s : State) (l : Fin 4) (c : Nat) :
    (s.queueLaneReady l c).lane l =
      { s.lane l with queue := ((s.lane l).queue.filter fun t => !t.isCredit) ++ [.laneReady c] } := by
  simp [State.queueLaneReady]

theorem State.lane_queueLaneReady_ne (s : State) (l m : Fin 4) (c : Nat) (h : m ≠ l) :
    (s.queueLaneReady l c).lane m = s.lane m := s.lane_updLane_ne l m _ h

@[simp] theorem State.offerClosed_power (s : State) (l : Fin 4) (t : Notice) :
    (s.offerClosed l t).power = s.power := by unfold State.offerClosed; split <;> simp
@[simp] theorem State.offerClosed_elapsed (s : State) (l : Fin 4) (t : Notice) :
    (s.offerClosed l t).elapsed = s.elapsed := by unfold State.offerClosed; split <;> simp
@[simp] theorem State.offerClosed_params (s : State) (l : Fin 4) (t : Notice) :
    (s.offerClosed l t).params = s.params := by unfold State.offerClosed; split <;> simp
@[simp] theorem State.offerClosed_store (s : State) (l : Fin 4) (t : Notice) :
    (s.offerClosed l t).store = s.store := by unfold State.offerClosed; split <;> simp
@[simp] theorem State.offerClosed_slots (s : State) (l : Fin 4) (t : Notice) :
    (s.offerClosed l t).slots = s.slots := by unfold State.offerClosed; split <;> simp
@[simp] theorem State.offerClosed_sumA (s : State) (l : Fin 4) (t : Notice) :
    (s.offerClosed l t).sumA = s.sumA := by unfold State.offerClosed; split <;> simp
@[simp] theorem State.offerClosed_sumB (s : State) (l : Fin 4) (t : Notice) :
    (s.offerClosed l t).sumB = s.sumB := by unfold State.offerClosed; split <;> simp
@[simp] theorem State.offerClosed_due (s : State) (l : Fin 4) (t : Notice) :
    (s.offerClosed l t).due = s.due := by unfold State.offerClosed; split <;> simp
@[simp] theorem State.offerClosed_held (s : State) (l : Fin 4) (t : Notice) :
    (s.offerClosed l t).held = s.held := by unfold State.offerClosed; split <;> simp
@[simp] theorem State.offerClosed_ring (s : State) (l : Fin 4) (t : Notice) :
    (s.offerClosed l t).ring = s.ring := by unfold State.offerClosed; split <;> simp
@[simp] theorem State.offerClosed_ringMode (s : State) (l : Fin 4) (t : Notice) :
    (s.offerClosed l t).ringMode = s.ringMode := by unfold State.offerClosed; split <;> simp
@[simp] theorem State.offerClosed_launcher (s : State) (l : Fin 4) (t : Notice) :
    (s.offerClosed l t).launcher = s.launcher := by unfold State.offerClosed; split <;> simp
@[simp] theorem State.offerClosed_entries (s : State) (l : Fin 4) (t : Notice) :
    (s.offerClosed l t).entries = s.entries := by unfold State.offerClosed; split <;> simp
@[simp] theorem State.offerClosed_cellMem (s : State) (l : Fin 4) (t : Notice) :
    (s.offerClosed l t).cellMem = s.cellMem := by unfold State.offerClosed; split <;> simp
@[simp] theorem State.offerClosed_pathA (s : State) (l : Fin 4) (t : Notice) :
    (s.offerClosed l t).pathA = s.pathA := by unfold State.offerClosed; split <;> simp
@[simp] theorem State.offerClosed_pathB (s : State) (l : Fin 4) (t : Notice) :
    (s.offerClosed l t).pathB = s.pathB := by unfold State.offerClosed; split <;> simp
@[simp] theorem State.offerClosed_house (s : State) (l : Fin 4) (t : Notice) :
    (s.offerClosed l t).house = s.house := by unfold State.offerClosed; split <;> simp
@[simp] theorem State.offerClosed_pattern (s : State) (l : Fin 4) (t : Notice) :
    (s.offerClosed l t).pattern = s.pattern := by unfold State.offerClosed; split <;> simp
@[simp] theorem State.offerClosed_patternMem (s : State) (l : Fin 4) (t : Notice) :
    (s.offerClosed l t).patternMem = s.patternMem := by unfold State.offerClosed; split <;> simp
@[simp] theorem State.offerClosed_frozen (s : State) (l : Fin 4) (t : Notice) :
    (s.offerClosed l t).frozen = s.frozen := by unfold State.offerClosed; split <;> simp
@[simp] theorem State.offerClosed_frozenLabel (s : State) (l : Fin 4) (t : Notice) :
    (s.offerClosed l t).frozenLabel = s.frozenLabel := by unfold State.offerClosed; split <;> simp
@[simp] theorem State.offerClosed_freeCount (s : State) (l : Fin 4) (t : Notice) :
    (s.offerClosed l t).freeCount = s.freeCount := by unfold State.offerClosed; split <;> simp
@[simp] theorem State.offerClosed_pending (s : State) (l : Fin 4) (t : Notice) :
    (s.offerClosed l t).pending = s.pending := by unfold State.offerClosed; split <;> simp

@[simp] theorem State.slot_offerClosed (s : State) (l : Fin 4) (t : Notice) (j : Fin 16) :
    (s.offerClosed l t).slot j = s.slot j := by simp [State.slot]
@[simp] theorem State.path_offerClosed (s : State) (l : Fin 4) (t : Notice) (z : PathId) :
    (s.offerClosed l t).path z = s.path z := by cases z <;> simp [State.path]
@[simp] theorem State.now_offerClosed (s : State) (l : Fin 4) (t : Notice) :
    (s.offerClosed l t).now = s.now := by simp [State.now]
@[simp] theorem State.entry_offerClosed (s : State) (l : Fin 4) (t : Notice) (a : Nat) :
    (s.offerClosed l t).entry? a = s.entry? a := by simp [State.entry?]

/-- A CLOSED notice joins the queue, or, with 32 queued, the queue stays and NOTICE_LOST is the last fault. -/
theorem State.offerClosed_cases (s : State) (l : Fin 4) (t : Notice) :
    ((s.lane l).queue.length < Config.noticeLimit ∧ s.offerClosed l t = s.queueNotice l t)
      ∨ (Config.noticeLimit ≤ (s.lane l).queue.length
          ∧ (s.offerClosed l t).lane l = { s.lane l with lastFault := some .noticeLost }) := by
  by_cases h : (s.lane l).queue.length < Config.noticeLimit
  · exact .inl ⟨h, by simp [State.offerClosed, Lane.hasRoom, h]⟩
  · exact .inr ⟨by omega, by simp [State.offerClosed, Lane.hasRoom, h]⟩

/-- An offered CLOSED notice keeps a notice queue within its limit. -/
theorem State.offerClosed_length (s : State) (l m : Fin 4) (t : Notice)
    (h : (s.lane m).queue.length ≤ Config.noticeLimit) :
    ((s.offerClosed l t).lane m).queue.length ≤ Config.noticeLimit := by
  by_cases e : m = l
  · subst e
    rcases s.offerClosed_cases m t with ⟨hl, hq⟩ | ⟨_, hq⟩
    · rw [hq]; simpa using hl
    · rw [hq]; exact h
  · have : (s.offerClosed l t).lane m = s.lane m := by
      unfold State.offerClosed
      split
      · exact s.lane_queueNotice_ne l m t e
      · simpa using s.lane_updLane_ne l m _ e
    rw [this]; exact h

/-! ## Opening -/

/-- Everything the Stream Table can do with an OPEN (R2): it refuses and changes nothing, for one of three reasons in
order, or it arms the lowest FREE slot and adds its loads to the sums. -/
theorem State.takeOpen_cases (s : State) (own : Owner) (o : OpenParams) (req : Option Nat) (reg : Option (Nat × Nat))
    (bad : Bool) :
    (s.lowestFree = none ∧ s.takeOpen own o req reg bad = (s, .error .noSlot))
    ∨ (∃ i, s.lowestFree = some i ∧ (badOpen o || bad) = true ∧ s.takeOpen own o req reg bad = (s, .error .badParam))
    ∨ (∃ i, s.lowestFree = some i ∧ (badOpen o || bad) = false ∧ s.admits o.pathSet (openLoad s.params.rate o) = false
        ∧ s.takeOpen own o req reg bad = (s, .error .capacity))
    ∨ (∃ i t, s.lowestFree = some i ∧ (badOpen o || bad) = false ∧ s.admits o.pathSet (openLoad s.params.rate o) = true
        ∧ t = openedSlot own o req reg (openLoad s.params.rate o) (chooseStart o req s.now)
        ∧ s.takeOpen own o req reg bad =
          ({ (s.updSlot i fun _ => t) with sumA := s.sumA + t.loadA, sumB := s.sumB + t.loadB },
            .ok ⟨i, chooseStart o req s.now, t.loadA, t.loadB⟩)) := by
  unfold State.takeOpen
  cases hf : s.lowestFree with
  | none => exact .inl ⟨rfl, rfl⟩
  | some i =>
    refine .inr ?_
    by_cases hb : (badOpen o || bad) = true
    · exact .inl ⟨i, rfl, hb, by simp [hb]⟩
    · have hb' : (badOpen o || bad) = false := by simpa using hb
      refine .inr ?_
      by_cases ha : s.admits o.pathSet (openLoad s.params.rate o) = true
      · exact .inr ⟨i, _, rfl, hb', ha, rfl, by simp [hb', ha]⟩
      · exact .inl ⟨i, rfl, hb', by simpa using ha, by simp [hb', ha]⟩

/-- The slot an OPEN takes is FREE. -/
theorem State.lowestFree_free {s : State} {i : Fin 16} (h : s.lowestFree = some i) : (s.slot i).state = .free := by
  have := List.find?_some h
  revert this
  cases hs : (s.slot i).state <;> simp [SlotState.isOpen]

/-! ## Closure -/

/-- A closure but for its latch. -/
def State.closeCore (s : State) (i : Fin 16) (reason : ClosureReason) : State :=
  let t := s.slot i
  let s := (s.dropAll .queued .freedUnlaunched t.queue).updSlot i (closedSlot reason)
  let s := { s with
    sumA := s.sumA - t.loadA
    sumB := s.sumB - t.loadB
    due := s.due.set i false
    held := s.held.set i false }
  match t.owner with
  | .lane l => if reason = .laneReset then s else s.offerClosed l (.closed t.tag i reason)
  | .pattern => s.updPattern PatternSource.stopped

theorem State.closeStream_eq (s : State) (i : Fin 16) (reason : ClosureReason) (fromRecord : Bool) :
    s.closeStream i reason fromRecord =
      if closureLatches reason fromRecord then (s.closeCore i reason).latchSlot i else s.closeCore i reason := rfl

@[simp] theorem State.closeCore_power (s : State) (i : Fin 16) (r : ClosureReason) :
    (s.closeCore i r).power = s.power := by
  unfold State.closeCore; dsimp only; split <;> (try split) <;> simp
@[simp] theorem State.closeCore_elapsed (s : State) (i : Fin 16) (r : ClosureReason) :
    (s.closeCore i r).elapsed = s.elapsed := by
  unfold State.closeCore; dsimp only; split <;> (try split) <;> simp
@[simp] theorem State.closeCore_params (s : State) (i : Fin 16) (r : ClosureReason) :
    (s.closeCore i r).params = s.params := by
  unfold State.closeCore; dsimp only; split <;> (try split) <;> simp
@[simp] theorem State.closeCore_store (s : State) (i : Fin 16) (r : ClosureReason) :
    (s.closeCore i r).store = s.store := by
  unfold State.closeCore; dsimp only; split <;> (try split) <;> simp
@[simp] theorem State.closeCore_ring (s : State) (i : Fin 16) (r : ClosureReason) :
    (s.closeCore i r).ring = s.ring := by
  unfold State.closeCore; dsimp only; split <;> (try split) <;> simp
@[simp] theorem State.closeCore_ringMode (s : State) (i : Fin 16) (r : ClosureReason) :
    (s.closeCore i r).ringMode = s.ringMode := by
  unfold State.closeCore; dsimp only; split <;> (try split) <;> simp
@[simp] theorem State.closeCore_launcher (s : State) (i : Fin 16) (r : ClosureReason) :
    (s.closeCore i r).launcher = s.launcher := by
  unfold State.closeCore; dsimp only; split <;> (try split) <;> simp
@[simp] theorem State.closeCore_cellMem (s : State) (i : Fin 16) (r : ClosureReason) :
    (s.closeCore i r).cellMem = s.cellMem := by
  unfold State.closeCore; dsimp only; split <;> (try split) <;> simp
@[simp] theorem State.closeCore_pathA (s : State) (i : Fin 16) (r : ClosureReason) :
    (s.closeCore i r).pathA = s.pathA := by
  unfold State.closeCore; dsimp only; split <;> (try split) <;> simp
@[simp] theorem State.closeCore_pathB (s : State) (i : Fin 16) (r : ClosureReason) :
    (s.closeCore i r).pathB = s.pathB := by
  unfold State.closeCore; dsimp only; split <;> (try split) <;> simp
@[simp] theorem State.closeCore_house (s : State) (i : Fin 16) (r : ClosureReason) :
    (s.closeCore i r).house = s.house := by
  unfold State.closeCore; dsimp only; split <;> (try split) <;> simp
@[simp] theorem State.closeCore_patternMem (s : State) (i : Fin 16) (r : ClosureReason) :
    (s.closeCore i r).patternMem = s.patternMem := by
  unfold State.closeCore; dsimp only; split <;> (try split) <;> simp
@[simp] theorem State.closeCore_frozen (s : State) (i : Fin 16) (r : ClosureReason) :
    (s.closeCore i r).frozen = s.frozen := by
  unfold State.closeCore; dsimp only; split <;> (try split) <;> simp
@[simp] theorem State.closeCore_frozenLabel (s : State) (i : Fin 16) (r : ClosureReason) :
    (s.closeCore i r).frozenLabel = s.frozenLabel := by
  unfold State.closeCore; dsimp only; split <;> (try split) <;> simp
@[simp] theorem State.closeCore_freeCount (s : State) (i : Fin 16) (r : ClosureReason) :
    (s.closeCore i r).freeCount = s.freeCount := by
  unfold State.closeCore; dsimp only; split <;> (try split) <;> simp
@[simp] theorem State.closeCore_pending (s : State) (i : Fin 16) (r : ClosureReason) :
    (s.closeCore i r).pending = s.pending := by
  unfold State.closeCore; dsimp only; split <;> (try split) <;> simp

@[simp] theorem State.path_closeCore (s : State) (i : Fin 16) (r : ClosureReason) (z : PathId) :
    (s.closeCore i r).path z = s.path z := by cases z <;> simp [State.path]
@[simp] theorem State.now_closeCore (s : State) (i : Fin 16) (r : ClosureReason) :
    (s.closeCore i r).now = s.now := by simp [State.now]

@[simp] theorem State.closeStream_power (s : State) (i : Fin 16) (r : ClosureReason) (b : Bool) :
    (s.closeStream i r b).power = s.power := by rw [State.closeStream_eq]; split <;> simp
@[simp] theorem State.closeStream_elapsed (s : State) (i : Fin 16) (r : ClosureReason) (b : Bool) :
    (s.closeStream i r b).elapsed = s.elapsed := by rw [State.closeStream_eq]; split <;> simp
@[simp] theorem State.closeStream_params (s : State) (i : Fin 16) (r : ClosureReason) (b : Bool) :
    (s.closeStream i r b).params = s.params := by rw [State.closeStream_eq]; split <;> simp
@[simp] theorem State.closeStream_store (s : State) (i : Fin 16) (r : ClosureReason) (b : Bool) :
    (s.closeStream i r b).store = s.store := by rw [State.closeStream_eq]; split <;> simp
@[simp] theorem State.closeStream_ring (s : State) (i : Fin 16) (r : ClosureReason) (b : Bool) :
    (s.closeStream i r b).ring = s.ring := by rw [State.closeStream_eq]; split <;> simp
@[simp] theorem State.closeStream_ringMode (s : State) (i : Fin 16) (r : ClosureReason) (b : Bool) :
    (s.closeStream i r b).ringMode = s.ringMode := by rw [State.closeStream_eq]; split <;> simp
@[simp] theorem State.closeStream_launcher (s : State) (i : Fin 16) (r : ClosureReason) (b : Bool) :
    (s.closeStream i r b).launcher = s.launcher := by rw [State.closeStream_eq]; split <;> simp
@[simp] theorem State.closeStream_cellMem (s : State) (i : Fin 16) (r : ClosureReason) (b : Bool) :
    (s.closeStream i r b).cellMem = s.cellMem := by rw [State.closeStream_eq]; split <;> simp
@[simp] theorem State.closeStream_pathA (s : State) (i : Fin 16) (r : ClosureReason) (b : Bool) :
    (s.closeStream i r b).pathA = s.pathA := by rw [State.closeStream_eq]; split <;> simp
@[simp] theorem State.closeStream_pathB (s : State) (i : Fin 16) (r : ClosureReason) (b : Bool) :
    (s.closeStream i r b).pathB = s.pathB := by rw [State.closeStream_eq]; split <;> simp
@[simp] theorem State.closeStream_house (s : State) (i : Fin 16) (r : ClosureReason) (b : Bool) :
    (s.closeStream i r b).house = s.house := by rw [State.closeStream_eq]; split <;> simp
@[simp] theorem State.closeStream_patternMem (s : State) (i : Fin 16) (r : ClosureReason) (b : Bool) :
    (s.closeStream i r b).patternMem = s.patternMem := by rw [State.closeStream_eq]; split <;> simp
@[simp] theorem State.closeStream_frozen (s : State) (i : Fin 16) (r : ClosureReason) (b : Bool) :
    (s.closeStream i r b).frozen = s.frozen := by rw [State.closeStream_eq]; split <;> simp
@[simp] theorem State.closeStream_frozenLabel (s : State) (i : Fin 16) (r : ClosureReason) (b : Bool) :
    (s.closeStream i r b).frozenLabel = s.frozenLabel := by rw [State.closeStream_eq]; split <;> simp
@[simp] theorem State.closeStream_freeCount (s : State) (i : Fin 16) (r : ClosureReason) (b : Bool) :
    (s.closeStream i r b).freeCount = s.freeCount := by rw [State.closeStream_eq]; split <;> simp
@[simp] theorem State.closeStream_pending (s : State) (i : Fin 16) (r : ClosureReason) (b : Bool) :
    (s.closeStream i r b).pending = s.pending := by rw [State.closeStream_eq]; split <;> simp

@[simp] theorem State.path_closeStream (s : State) (i : Fin 16) (r : ClosureReason) (b : Bool) (z : PathId) :
    (s.closeStream i r b).path z = s.path z := by cases z <;> simp [State.path]
@[simp] theorem State.now_closeStream (s : State) (i : Fin 16) (r : ClosureReason) (b : Bool) :
    (s.closeStream i r b).now = s.now := by simp [State.now]

@[simp] theorem State.closeCore_sumA (s : State) (i : Fin 16) (r : ClosureReason) :
    (s.closeCore i r).sumA = s.sumA - (s.slot i).loadA := by
  unfold State.closeCore; dsimp only; split <;> (try split) <;> simp [State.updSlot, State.slot]

@[simp] theorem State.closeStream_sumA (s : State) (i : Fin 16) (r : ClosureReason) (b : Bool) :
    (s.closeStream i r b).sumA = s.sumA - (s.slot i).loadA := by
  rw [State.closeStream_eq]; split <;> simp

@[simp] theorem State.closeCore_sumB (s : State) (i : Fin 16) (r : ClosureReason) :
    (s.closeCore i r).sumB = s.sumB - (s.slot i).loadB := by
  unfold State.closeCore; dsimp only; split <;> (try split) <;> simp [State.updSlot, State.slot]

@[simp] theorem State.closeStream_sumB (s : State) (i : Fin 16) (r : ClosureReason) (b : Bool) :
    (s.closeStream i r b).sumB = s.sumB - (s.slot i).loadB := by
  rw [State.closeStream_eq]; split <;> simp

@[simp] theorem State.closeCore_due (s : State) (i : Fin 16) (r : ClosureReason) :
    (s.closeCore i r).due = s.due.set i false := by
  unfold State.closeCore; dsimp only; split <;> (try split) <;> simp [State.updSlot, State.slot]

@[simp] theorem State.closeStream_due (s : State) (i : Fin 16) (r : ClosureReason) (b : Bool) :
    (s.closeStream i r b).due = s.due.set i false := by
  rw [State.closeStream_eq]; split <;> simp

@[simp] theorem State.closeCore_held (s : State) (i : Fin 16) (r : ClosureReason) :
    (s.closeCore i r).held = s.held.set i false := by
  unfold State.closeCore; dsimp only; split <;> (try split) <;> simp [State.updSlot, State.slot]

@[simp] theorem State.closeStream_held (s : State) (i : Fin 16) (r : ClosureReason) (b : Bool) :
    (s.closeStream i r b).held = s.held.set i false := by
  rw [State.closeStream_eq]; split <;> simp

@[simp] theorem State.closeCore_slots (s : State) (i : Fin 16) (r : ClosureReason) :
    (s.closeCore i r).slots = s.slots.set i (closedSlot r (s.slot i)) := by
  unfold State.closeCore; dsimp only; split <;> (try split) <;> simp [State.updSlot, State.slot]

@[simp] theorem State.closeStream_slots (s : State) (i : Fin 16) (r : ClosureReason) (b : Bool) :
    (s.closeStream i r b).slots = s.slots.set i (closedSlot r (s.slot i)) := by
  rw [State.closeStream_eq]; split <;> simp

@[simp] theorem State.closeCore_entries (s : State) (i : Fin 16) (r : ClosureReason) :
    (s.closeCore i r).entries = (s.dropAll .queued .freedUnlaunched (s.slot i).queue).entries := by
  unfold State.closeCore; dsimp only; split <;> (try split) <;> simp [State.updSlot, State.slot]

@[simp] theorem State.closeStream_entries (s : State) (i : Fin 16) (r : ClosureReason) (b : Bool) :
    (s.closeStream i r b).entries = (s.dropAll .queued .freedUnlaunched (s.slot i).queue).entries := by
  rw [State.closeStream_eq]; split <;> simp

/-- A closure writes its slot's context. -/
theorem State.slot_closeStream (s : State) (i : Fin 16) (r : ClosureReason) (b : Bool) :
    (s.closeStream i r b).slot i = closedSlot r (s.slot i) := by
  simp [State.slot]

/-- A closure leaves every other slot. -/
theorem State.slot_closeStream_ne (s : State) (i j : Fin 16) (r : ClosureReason) (b : Bool) (h : j ≠ i) :
    (s.closeStream i r b).slot j = s.slot j := by
  have : (i : Nat) ≠ j := fun e => h (Fin.ext e.symm)
  simp [State.slot, this]

/-- A closure leaves every entry that is not in its stream's queue. -/
theorem State.mem_closeStream (s : State) (i : Fin 16) (r : ClosureReason) (b : Bool) {e : Entry} (he : e ∈ s.entries)
    (h : e.number ∉ (s.slot i).queue) : e ∈ (s.closeStream i r b).entries := by
  rw [State.closeStream_entries]
  exact s.mem_dropAll _ _ _ he h

/-- A closure keeps every notice queue within its limit. -/
theorem State.closeStream_queue_length (s : State) (i : Fin 16) (r : ClosureReason) (b : Bool) (m : Fin 4)
    (h : (s.lane m).queue.length ≤ Config.noticeLimit) :
    ((s.closeStream i r b).lane m).queue.length ≤ Config.noticeLimit := by
  have hd : ((s.dropAll .queued .freedUnlaunched (s.slot i).queue).lane m).queue.length ≤ Config.noticeLimit := by
    rw [s.lane_dropAll]; exact h
  have hc : ((s.closeCore i r).lane m).queue.length ≤ Config.noticeLimit := by
    unfold State.closeCore
    dsimp only
    split
    · split
      · exact hd
      · exact State.offerClosed_length _ _ _ _ hd
    · exact hd
  rw [State.closeStream_eq]
  split
  · exact hc
  · exact hc

/-- The test for DRAINED closes the stream or changes nothing. -/
theorem State.closeIfDrained_cases (s : State) (i : Fin 16) :
    s.closeIfDrained i = s
      ∨ ((s.slot i).state = .draining ∧ (s.slot i).queue = [] ∧ s.closeIfDrained i = s.closeStream i .drained false) := by
  unfold State.closeIfDrained
  split
  · rename_i h; exact .inr ⟨h.1, h.2, rfl⟩
  · exact .inl rfl

@[simp] theorem State.closeIfDrained_power (s : State) (i : Fin 16) :
    (s.closeIfDrained i).power = s.power := by unfold State.closeIfDrained; split <;> simp
@[simp] theorem State.closeIfDrained_elapsed (s : State) (i : Fin 16) :
    (s.closeIfDrained i).elapsed = s.elapsed := by unfold State.closeIfDrained; split <;> simp
@[simp] theorem State.closeIfDrained_params (s : State) (i : Fin 16) :
    (s.closeIfDrained i).params = s.params := by unfold State.closeIfDrained; split <;> simp
@[simp] theorem State.closeIfDrained_store (s : State) (i : Fin 16) :
    (s.closeIfDrained i).store = s.store := by unfold State.closeIfDrained; split <;> simp
@[simp] theorem State.closeIfDrained_ring (s : State) (i : Fin 16) :
    (s.closeIfDrained i).ring = s.ring := by unfold State.closeIfDrained; split <;> simp
@[simp] theorem State.closeIfDrained_ringMode (s : State) (i : Fin 16) :
    (s.closeIfDrained i).ringMode = s.ringMode := by unfold State.closeIfDrained; split <;> simp
@[simp] theorem State.closeIfDrained_launcher (s : State) (i : Fin 16) :
    (s.closeIfDrained i).launcher = s.launcher := by unfold State.closeIfDrained; split <;> simp
@[simp] theorem State.closeIfDrained_cellMem (s : State) (i : Fin 16) :
    (s.closeIfDrained i).cellMem = s.cellMem := by unfold State.closeIfDrained; split <;> simp
@[simp] theorem State.closeIfDrained_pathA (s : State) (i : Fin 16) :
    (s.closeIfDrained i).pathA = s.pathA := by unfold State.closeIfDrained; split <;> simp
@[simp] theorem State.closeIfDrained_pathB (s : State) (i : Fin 16) :
    (s.closeIfDrained i).pathB = s.pathB := by unfold State.closeIfDrained; split <;> simp
@[simp] theorem State.closeIfDrained_house (s : State) (i : Fin 16) :
    (s.closeIfDrained i).house = s.house := by unfold State.closeIfDrained; split <;> simp
@[simp] theorem State.closeIfDrained_patternMem (s : State) (i : Fin 16) :
    (s.closeIfDrained i).patternMem = s.patternMem := by unfold State.closeIfDrained; split <;> simp
@[simp] theorem State.closeIfDrained_frozen (s : State) (i : Fin 16) :
    (s.closeIfDrained i).frozen = s.frozen := by unfold State.closeIfDrained; split <;> simp
@[simp] theorem State.closeIfDrained_frozenLabel (s : State) (i : Fin 16) :
    (s.closeIfDrained i).frozenLabel = s.frozenLabel := by unfold State.closeIfDrained; split <;> simp
@[simp] theorem State.closeIfDrained_freeCount (s : State) (i : Fin 16) :
    (s.closeIfDrained i).freeCount = s.freeCount := by unfold State.closeIfDrained; split <;> simp
@[simp] theorem State.closeIfDrained_pending (s : State) (i : Fin 16) :
    (s.closeIfDrained i).pending = s.pending := by unfold State.closeIfDrained; split <;> simp

@[simp] theorem State.path_closeIfDrained (s : State) (i : Fin 16) (z : PathId) :
    (s.closeIfDrained i).path z = s.path z := by cases z <;> simp [State.path]
@[simp] theorem State.now_closeIfDrained (s : State) (i : Fin 16) :
    (s.closeIfDrained i).now = s.now := by simp [State.now]

end Sys2Proof.Machine
end

