-- ==== Sys2Proof/Laws/Pacer.lean ====
section
/-!
SUPPORT. The Pacer and the Launch Arbiter: heads, the due set, discards, frame closes, grants and choices.
-/

namespace Sys2Proof.Machine

open Sys2Proof

@[simp] theorem State.formHead_power (s : State) (i : Fin 16) :
    (s.formHead i).power = s.power := by simp [State.formHead]
@[simp] theorem State.formHead_elapsed (s : State) (i : Fin 16) :
    (s.formHead i).elapsed = s.elapsed := by simp [State.formHead]
@[simp] theorem State.formHead_params (s : State) (i : Fin 16) :
    (s.formHead i).params = s.params := by simp [State.formHead]
@[simp] theorem State.formHead_store (s : State) (i : Fin 16) :
    (s.formHead i).store = s.store := by simp [State.formHead]
@[simp] theorem State.formHead_sumA (s : State) (i : Fin 16) :
    (s.formHead i).sumA = s.sumA := by simp [State.formHead]
@[simp] theorem State.formHead_sumB (s : State) (i : Fin 16) :
    (s.formHead i).sumB = s.sumB := by simp [State.formHead]
@[simp] theorem State.formHead_due (s : State) (i : Fin 16) :
    (s.formHead i).due = s.due := by simp [State.formHead]
@[simp] theorem State.formHead_held (s : State) (i : Fin 16) :
    (s.formHead i).held = s.held := by simp [State.formHead]
@[simp] theorem State.formHead_ring (s : State) (i : Fin 16) :
    (s.formHead i).ring = s.ring := by simp [State.formHead]
@[simp] theorem State.formHead_ringMode (s : State) (i : Fin 16) :
    (s.formHead i).ringMode = s.ringMode := by simp [State.formHead]
@[simp] theorem State.formHead_launcher (s : State) (i : Fin 16) :
    (s.formHead i).launcher = s.launcher := by simp [State.formHead]
@[simp] theorem State.formHead_entries (s : State) (i : Fin 16) :
    (s.formHead i).entries = s.entries := by simp [State.formHead]
@[simp] theorem State.formHead_cellMem (s : State) (i : Fin 16) :
    (s.formHead i).cellMem = s.cellMem := by simp [State.formHead]
@[simp] theorem State.formHead_lanes (s : State) (i : Fin 16) :
    (s.formHead i).lanes = s.lanes := by simp [State.formHead]
@[simp] theorem State.formHead_pathA (s : State) (i : Fin 16) :
    (s.formHead i).pathA = s.pathA := by simp [State.formHead]
@[simp] theorem State.formHead_pathB (s : State) (i : Fin 16) :
    (s.formHead i).pathB = s.pathB := by simp [State.formHead]
@[simp] theorem State.formHead_house (s : State) (i : Fin 16) :
    (s.formHead i).house = s.house := by simp [State.formHead]
@[simp] theorem State.formHead_pattern (s : State) (i : Fin 16) :
    (s.formHead i).pattern = s.pattern := by simp [State.formHead]
@[simp] theorem State.formHead_patternMem (s : State) (i : Fin 16) :
    (s.formHead i).patternMem = s.patternMem := by simp [State.formHead]
@[simp] theorem State.formHead_port (s : State) (i : Fin 16) :
    (s.formHead i).port = s.port := by simp [State.formHead]
@[simp] theorem State.formHead_active (s : State) (i : Fin 16) :
    (s.formHead i).active = s.active := by simp [State.formHead]
@[simp] theorem State.formHead_frozen (s : State) (i : Fin 16) :
    (s.formHead i).frozen = s.frozen := by simp [State.formHead]
@[simp] theorem State.formHead_frozenLabel (s : State) (i : Fin 16) :
    (s.formHead i).frozenLabel = s.frozenLabel := by simp [State.formHead]
@[simp] theorem State.formHead_freeCount (s : State) (i : Fin 16) :
    (s.formHead i).freeCount = s.freeCount := by simp [State.formHead]
@[simp] theorem State.formHead_pending (s : State) (i : Fin 16) :
    (s.formHead i).pending = s.pending := by simp [State.formHead]

@[simp] theorem State.lane_formHead (s : State) (i : Fin 16) (m : Fin 4) :
    (s.formHead i).lane m = s.lane m := by simp [State.lane]
@[simp] theorem State.path_formHead (s : State) (i : Fin 16) (z : PathId) :
    (s.formHead i).path z = s.path z := by cases z <;> simp [State.path]
@[simp] theorem State.now_formHead (s : State) (i : Fin 16) :
    (s.formHead i).now = s.now := by simp [State.now]
@[simp] theorem State.entry_formHead (s : State) (i : Fin 16) (a : Nat) :
    (s.formHead i).entry? a = s.entry? a := by simp [State.entry?]

/-- Forming a head leaves every other slot. -/
theorem State.slot_formHead_ne (s : State) (i j : Fin 16) (h : j ≠ i) : (s.formHead i).slot j = s.slot j :=
  s.slot_updSlot_ne i j _ h

/-- A head is formed for the first entry of a RUNNING or DRAINING stream if it is of frame fc; else there is none (R25). -/
theorem State.slot_formHead (s : State) (i : Fin 16) :
    (s.formHead i).slot i =
      match s.headEntry i with
      | some e =>
        if (s.slot i).state.isPaced && decide (e.frame = (s.slot i).fc) then (s.slot i).withHead e.index
        else { s.slot i with head := none }
      | none => { s.slot i with head := none } :=
  (State.slot_updSlot s i _).trans (by cases s.headEntry i <;> rfl)

/-- Forming a head changes the step state and the head of its slot, nothing else of it. -/
theorem State.formHead_slot_rest (s : State) (i : Fin 16) :
    ∃ (a b c : Nat) (hd : Option Head), (s.formHead i).slot i =
      { s.slot i with stepIndex := a, stepOffset := b, stepRemainder := c, head := hd } := by
  rw [s.slot_formHead]
  split
  · split
    · exact ⟨_, _, _, _, rfl⟩
    · exact ⟨_, _, _, none, rfl⟩
  · exact ⟨_, _, _, none, rfl⟩

/-! ## The due set -/

@[simp] theorem State.refreshDue_power (s : State) (i : Fin 16) :
    (s.refreshDue i).power = s.power := rfl
@[simp] theorem State.refreshDue_elapsed (s : State) (i : Fin 16) :
    (s.refreshDue i).elapsed = s.elapsed := rfl
@[simp] theorem State.refreshDue_params (s : State) (i : Fin 16) :
    (s.refreshDue i).params = s.params := rfl
@[simp] theorem State.refreshDue_store (s : State) (i : Fin 16) :
    (s.refreshDue i).store = s.store := rfl
@[simp] theorem State.refreshDue_slots (s : State) (i : Fin 16) :
    (s.refreshDue i).slots = s.slots := rfl
@[simp] theorem State.refreshDue_sumA (s : State) (i : Fin 16) :
    (s.refreshDue i).sumA = s.sumA := rfl
@[simp] theorem State.refreshDue_sumB (s : State) (i : Fin 16) :
    (s.refreshDue i).sumB = s.sumB := rfl
@[simp] theorem State.refreshDue_held (s : State) (i : Fin 16) :
    (s.refreshDue i).held = s.held := rfl
@[simp] theorem State.refreshDue_ring (s : State) (i : Fin 16) :
    (s.refreshDue i).ring = s.ring := rfl
@[simp] theorem State.refreshDue_ringMode (s : State) (i : Fin 16) :
    (s.refreshDue i).ringMode = s.ringMode := rfl
@[simp] theorem State.refreshDue_launcher (s : State) (i : Fin 16) :
    (s.refreshDue i).launcher = s.launcher := rfl
@[simp] theorem State.refreshDue_entries (s : State) (i : Fin 16) :
    (s.refreshDue i).entries = s.entries := rfl
@[simp] theorem State.refreshDue_cellMem (s : State) (i : Fin 16) :
    (s.refreshDue i).cellMem = s.cellMem := rfl
@[simp] theorem State.refreshDue_lanes (s : State) (i : Fin 16) :
    (s.refreshDue i).lanes = s.lanes := rfl
@[simp] theorem State.refreshDue_pathA (s : State) (i : Fin 16) :
    (s.refreshDue i).pathA = s.pathA := rfl
@[simp] theorem State.refreshDue_pathB (s : State) (i : Fin 16) :
    (s.refreshDue i).pathB = s.pathB := rfl
@[simp] theorem State.refreshDue_house (s : State) (i : Fin 16) :
    (s.refreshDue i).house = s.house := rfl
@[simp] theorem State.refreshDue_pattern (s : State) (i : Fin 16) :
    (s.refreshDue i).pattern = s.pattern := rfl
@[simp] theorem State.refreshDue_patternMem (s : State) (i : Fin 16) :
    (s.refreshDue i).patternMem = s.patternMem := rfl
@[simp] theorem State.refreshDue_port (s : State) (i : Fin 16) :
    (s.refreshDue i).port = s.port := rfl
@[simp] theorem State.refreshDue_active (s : State) (i : Fin 16) :
    (s.refreshDue i).active = s.active := rfl
@[simp] theorem State.refreshDue_frozen (s : State) (i : Fin 16) :
    (s.refreshDue i).frozen = s.frozen := rfl
@[simp] theorem State.refreshDue_frozenLabel (s : State) (i : Fin 16) :
    (s.refreshDue i).frozenLabel = s.frozenLabel := rfl
@[simp] theorem State.refreshDue_freeCount (s : State) (i : Fin 16) :
    (s.refreshDue i).freeCount = s.freeCount := rfl
@[simp] theorem State.refreshDue_pending (s : State) (i : Fin 16) :
    (s.refreshDue i).pending = s.pending := rfl

@[simp] theorem State.slot_refreshDue (s : State) (i : Fin 16) (j : Fin 16) :
    (s.refreshDue i).slot j = s.slot j := by simp [State.slot]
@[simp] theorem State.lane_refreshDue (s : State) (i : Fin 16) (m : Fin 4) :
    (s.refreshDue i).lane m = s.lane m := by simp [State.lane]
@[simp] theorem State.path_refreshDue (s : State) (i : Fin 16) (z : PathId) :
    (s.refreshDue i).path z = s.path z := by cases z <;> simp [State.path]
@[simp] theorem State.now_refreshDue (s : State) (i : Fin 16) :
    (s.refreshDue i).now = s.now := by simp [State.now]
@[simp] theorem State.entry_refreshDue (s : State) (i : Fin 16) (a : Nat) :
    (s.refreshDue i).entry? a = s.entry? a := by simp [State.entry?]

/-- The due flag of the slot follows R45, and every other stays. -/
@[simp] theorem State.refreshDue_due (s : State) (i : Fin 16) : (s.refreshDue i).due = s.due.set i (s.isDue i) := rfl

theorem State.refreshDue_due_get (s : State) (i : Fin 16) : (s.refreshDue i).due[i] = s.isDue i := by simp

theorem State.refreshDue_due_get_ne (s : State) (i j : Fin 16) (h : j ≠ i) : (s.refreshDue i).due[j] = s.due[j] := by
  have : (i : Nat) ≠ j := fun e => h (Fin.ext e.symm)
  simp [this]

/-- A slot in the hold set is not due (R45). -/
theorem State.isDue_of_held (s : State) (i : Fin 16) (h : s.held[i] = true) : s.isDue i = false := by
  unfold State.isDue
  rw [h]
  simp

/-- Refreshing the slots of a list keeps any fact that refreshing one slot keeps. -/
theorem State.refresh_foldl_keeps (P : State → Prop) (h : ∀ s i, P s → P (State.refreshDue s i)) (is : List (Fin 16))
    (s : State) (hs : P s) : P (is.foldl State.refreshDue s) := by
  induction is generalizing s with
  | nil => exact hs
  | cons i is ih => exact ih _ (h s i hs)

@[simp] theorem State.refreshAll_power (s : State) : s.refreshAll.power = s.power :=
  State.refresh_foldl_keeps (fun t => t.power = s.power) (fun t i h => by simpa using h) allSlots s rfl
@[simp] theorem State.refreshAll_elapsed (s : State) : s.refreshAll.elapsed = s.elapsed :=
  State.refresh_foldl_keeps (fun t => t.elapsed = s.elapsed) (fun t i h => by simpa using h) allSlots s rfl
@[simp] theorem State.refreshAll_params (s : State) : s.refreshAll.params = s.params :=
  State.refresh_foldl_keeps (fun t => t.params = s.params) (fun t i h => by simpa using h) allSlots s rfl
@[simp] theorem State.refreshAll_store (s : State) : s.refreshAll.store = s.store :=
  State.refresh_foldl_keeps (fun t => t.store = s.store) (fun t i h => by simpa using h) allSlots s rfl
@[simp] theorem State.refreshAll_slots (s : State) : s.refreshAll.slots = s.slots :=
  State.refresh_foldl_keeps (fun t => t.slots = s.slots) (fun t i h => by simpa using h) allSlots s rfl
@[simp] theorem State.refreshAll_sumA (s : State) : s.refreshAll.sumA = s.sumA :=
  State.refresh_foldl_keeps (fun t => t.sumA = s.sumA) (fun t i h => by simpa using h) allSlots s rfl
@[simp] theorem State.refreshAll_sumB (s : State) : s.refreshAll.sumB = s.sumB :=
  State.refresh_foldl_keeps (fun t => t.sumB = s.sumB) (fun t i h => by simpa using h) allSlots s rfl
@[simp] theorem State.refreshAll_held (s : State) : s.refreshAll.held = s.held :=
  State.refresh_foldl_keeps (fun t => t.held = s.held) (fun t i h => by simpa using h) allSlots s rfl
@[simp] theorem State.refreshAll_ring (s : State) : s.refreshAll.ring = s.ring :=
  State.refresh_foldl_keeps (fun t => t.ring = s.ring) (fun t i h => by simpa using h) allSlots s rfl
@[simp] theorem State.refreshAll_ringMode (s : State) : s.refreshAll.ringMode = s.ringMode :=
  State.refresh_foldl_keeps (fun t => t.ringMode = s.ringMode) (fun t i h => by simpa using h) allSlots s rfl
@[simp] theorem State.refreshAll_launcher (s : State) : s.refreshAll.launcher = s.launcher :=
  State.refresh_foldl_keeps (fun t => t.launcher = s.launcher) (fun t i h => by simpa using h) allSlots s rfl
@[simp] theorem State.refreshAll_entries (s : State) : s.refreshAll.entries = s.entries :=
  State.refresh_foldl_keeps (fun t => t.entries = s.entries) (fun t i h => by simpa using h) allSlots s rfl
@[simp] theorem State.refreshAll_cellMem (s : State) : s.refreshAll.cellMem = s.cellMem :=
  State.refresh_foldl_keeps (fun t => t.cellMem = s.cellMem) (fun t i h => by simpa using h) allSlots s rfl
@[simp] theorem State.refreshAll_lanes (s : State) : s.refreshAll.lanes = s.lanes :=
  State.refresh_foldl_keeps (fun t => t.lanes = s.lanes) (fun t i h => by simpa using h) allSlots s rfl
@[simp] theorem State.refreshAll_pathA (s : State) : s.refreshAll.pathA = s.pathA :=
  State.refresh_foldl_keeps (fun t => t.pathA = s.pathA) (fun t i h => by simpa using h) allSlots s rfl
@[simp] theorem State.refreshAll_pathB (s : State) : s.refreshAll.pathB = s.pathB :=
  State.refresh_foldl_keeps (fun t => t.pathB = s.pathB) (fun t i h => by simpa using h) allSlots s rfl
@[simp] theorem State.refreshAll_house (s : State) : s.refreshAll.house = s.house :=
  State.refresh_foldl_keeps (fun t => t.house = s.house) (fun t i h => by simpa using h) allSlots s rfl
@[simp] theorem State.refreshAll_pattern (s : State) : s.refreshAll.pattern = s.pattern :=
  State.refresh_foldl_keeps (fun t => t.pattern = s.pattern) (fun t i h => by simpa using h) allSlots s rfl
@[simp] theorem State.refreshAll_patternMem (s : State) : s.refreshAll.patternMem = s.patternMem :=
  State.refresh_foldl_keeps (fun t => t.patternMem = s.patternMem) (fun t i h => by simpa using h) allSlots s rfl
@[simp] theorem State.refreshAll_port (s : State) : s.refreshAll.port = s.port :=
  State.refresh_foldl_keeps (fun t => t.port = s.port) (fun t i h => by simpa using h) allSlots s rfl
@[simp] theorem State.refreshAll_active (s : State) : s.refreshAll.active = s.active :=
  State.refresh_foldl_keeps (fun t => t.active = s.active) (fun t i h => by simpa using h) allSlots s rfl
@[simp] theorem State.refreshAll_frozen (s : State) : s.refreshAll.frozen = s.frozen :=
  State.refresh_foldl_keeps (fun t => t.frozen = s.frozen) (fun t i h => by simpa using h) allSlots s rfl
@[simp] theorem State.refreshAll_frozenLabel (s : State) : s.refreshAll.frozenLabel = s.frozenLabel :=
  State.refresh_foldl_keeps (fun t => t.frozenLabel = s.frozenLabel) (fun t i h => by simpa using h) allSlots s rfl
@[simp] theorem State.refreshAll_freeCount (s : State) : s.refreshAll.freeCount = s.freeCount :=
  State.refresh_foldl_keeps (fun t => t.freeCount = s.freeCount) (fun t i h => by simpa using h) allSlots s rfl
@[simp] theorem State.refreshAll_pending (s : State) : s.refreshAll.pending = s.pending :=
  State.refresh_foldl_keeps (fun t => t.pending = s.pending) (fun t i h => by simpa using h) allSlots s rfl

/-! ## Discards and frame closes -/

@[simp] theorem State.discardHead_power (s : State) (i : Fin 16) :
    (s.discardHead i).power = s.power := by unfold State.discardHead; split <;> simp
@[simp] theorem State.discardHead_elapsed (s : State) (i : Fin 16) :
    (s.discardHead i).elapsed = s.elapsed := by unfold State.discardHead; split <;> simp
@[simp] theorem State.discardHead_params (s : State) (i : Fin 16) :
    (s.discardHead i).params = s.params := by unfold State.discardHead; split <;> simp
@[simp] theorem State.discardHead_store (s : State) (i : Fin 16) :
    (s.discardHead i).store = s.store := by unfold State.discardHead; split <;> simp
@[simp] theorem State.discardHead_sumA (s : State) (i : Fin 16) :
    (s.discardHead i).sumA = s.sumA := by unfold State.discardHead; split <;> simp
@[simp] theorem State.discardHead_sumB (s : State) (i : Fin 16) :
    (s.discardHead i).sumB = s.sumB := by unfold State.discardHead; split <;> simp
@[simp] theorem State.discardHead_due (s : State) (i : Fin 16) :
    (s.discardHead i).due = s.due := by unfold State.discardHead; split <;> simp
@[simp] theorem State.discardHead_held (s : State) (i : Fin 16) :
    (s.discardHead i).held = s.held := by unfold State.discardHead; split <;> simp
@[simp] theorem State.discardHead_ring (s : State) (i : Fin 16) :
    (s.discardHead i).ring = s.ring := by unfold State.discardHead; split <;> simp
@[simp] theorem State.discardHead_ringMode (s : State) (i : Fin 16) :
    (s.discardHead i).ringMode = s.ringMode := by unfold State.discardHead; split <;> simp
@[simp] theorem State.discardHead_launcher (s : State) (i : Fin 16) :
    (s.discardHead i).launcher = s.launcher := by unfold State.discardHead; split <;> simp
@[simp] theorem State.discardHead_cellMem (s : State) (i : Fin 16) :
    (s.discardHead i).cellMem = s.cellMem := by unfold State.discardHead; split <;> simp
@[simp] theorem State.discardHead_pathA (s : State) (i : Fin 16) :
    (s.discardHead i).pathA = s.pathA := by unfold State.discardHead; split <;> simp
@[simp] theorem State.discardHead_pathB (s : State) (i : Fin 16) :
    (s.discardHead i).pathB = s.pathB := by unfold State.discardHead; split <;> simp
@[simp] theorem State.discardHead_house (s : State) (i : Fin 16) :
    (s.discardHead i).house = s.house := by unfold State.discardHead; split <;> simp
@[simp] theorem State.discardHead_patternMem (s : State) (i : Fin 16) :
    (s.discardHead i).patternMem = s.patternMem := by unfold State.discardHead; split <;> simp
@[simp] theorem State.discardHead_port (s : State) (i : Fin 16) :
    (s.discardHead i).port = s.port := by unfold State.discardHead; split <;> simp
@[simp] theorem State.discardHead_frozen (s : State) (i : Fin 16) :
    (s.discardHead i).frozen = s.frozen := by unfold State.discardHead; split <;> simp
@[simp] theorem State.discardHead_frozenLabel (s : State) (i : Fin 16) :
    (s.discardHead i).frozenLabel = s.frozenLabel := by unfold State.discardHead; split <;> simp
@[simp] theorem State.discardHead_freeCount (s : State) (i : Fin 16) :
    (s.discardHead i).freeCount = s.freeCount := by unfold State.discardHead; split <;> simp
@[simp] theorem State.discardHead_pending (s : State) (i : Fin 16) :
    (s.discardHead i).pending = s.pending := by unfold State.discardHead; split <;> simp

@[simp] theorem State.path_discardHead (s : State) (i : Fin 16) (z : PathId) :
    (s.discardHead i).path z = s.path z := by cases z <;> simp [State.path]
@[simp] theorem State.now_discardHead (s : State) (i : Fin 16) :
    (s.discardHead i).now = s.now := by simp [State.now]

@[simp] theorem State.closeFrame_power (s : State) (i : Fin 16) :
    (s.closeFrame i).power = s.power := by simp [State.closeFrame]
@[simp] theorem State.closeFrame_elapsed (s : State) (i : Fin 16) :
    (s.closeFrame i).elapsed = s.elapsed := by simp [State.closeFrame]
@[simp] theorem State.closeFrame_params (s : State) (i : Fin 16) :
    (s.closeFrame i).params = s.params := by simp [State.closeFrame]
@[simp] theorem State.closeFrame_store (s : State) (i : Fin 16) :
    (s.closeFrame i).store = s.store := by simp [State.closeFrame]
@[simp] theorem State.closeFrame_sumA (s : State) (i : Fin 16) :
    (s.closeFrame i).sumA = s.sumA := by simp [State.closeFrame]
@[simp] theorem State.closeFrame_sumB (s : State) (i : Fin 16) :
    (s.closeFrame i).sumB = s.sumB := by simp [State.closeFrame]
@[simp] theorem State.closeFrame_due (s : State) (i : Fin 16) :
    (s.closeFrame i).due = s.due := by simp [State.closeFrame]
@[simp] theorem State.closeFrame_held (s : State) (i : Fin 16) :
    (s.closeFrame i).held = s.held := by simp [State.closeFrame]
@[simp] theorem State.closeFrame_ring (s : State) (i : Fin 16) :
    (s.closeFrame i).ring = s.ring := by simp [State.closeFrame]
@[simp] theorem State.closeFrame_ringMode (s : State) (i : Fin 16) :
    (s.closeFrame i).ringMode = s.ringMode := by simp [State.closeFrame]
@[simp] theorem State.closeFrame_launcher (s : State) (i : Fin 16) :
    (s.closeFrame i).launcher = s.launcher := by simp [State.closeFrame]
@[simp] theorem State.closeFrame_cellMem (s : State) (i : Fin 16) :
    (s.closeFrame i).cellMem = s.cellMem := by simp [State.closeFrame]
@[simp] theorem State.closeFrame_pathA (s : State) (i : Fin 16) :
    (s.closeFrame i).pathA = s.pathA := by simp [State.closeFrame]
@[simp] theorem State.closeFrame_pathB (s : State) (i : Fin 16) :
    (s.closeFrame i).pathB = s.pathB := by simp [State.closeFrame]
@[simp] theorem State.closeFrame_house (s : State) (i : Fin 16) :
    (s.closeFrame i).house = s.house := by simp [State.closeFrame]
@[simp] theorem State.closeFrame_patternMem (s : State) (i : Fin 16) :
    (s.closeFrame i).patternMem = s.patternMem := by simp [State.closeFrame]
@[simp] theorem State.closeFrame_port (s : State) (i : Fin 16) :
    (s.closeFrame i).port = s.port := by simp [State.closeFrame]
@[simp] theorem State.closeFrame_frozen (s : State) (i : Fin 16) :
    (s.closeFrame i).frozen = s.frozen := by simp [State.closeFrame]
@[simp] theorem State.closeFrame_frozenLabel (s : State) (i : Fin 16) :
    (s.closeFrame i).frozenLabel = s.frozenLabel := by simp [State.closeFrame]
@[simp] theorem State.closeFrame_freeCount (s : State) (i : Fin 16) :
    (s.closeFrame i).freeCount = s.freeCount := by simp [State.closeFrame]
@[simp] theorem State.closeFrame_pending (s : State) (i : Fin 16) :
    (s.closeFrame i).pending = s.pending := by simp [State.closeFrame]

@[simp] theorem State.path_closeFrame (s : State) (i : Fin 16) (z : PathId) :
    (s.closeFrame i).path z = s.path z := by cases z <;> simp [State.path]
@[simp] theorem State.now_closeFrame (s : State) (i : Fin 16) :
    (s.closeFrame i).now = s.now := by simp [State.now]

@[simp] theorem State.arm_power (s : State) (i : Fin 16) :
    (s.arm i).power = s.power := by simp [State.arm]
@[simp] theorem State.arm_elapsed (s : State) (i : Fin 16) :
    (s.arm i).elapsed = s.elapsed := by simp [State.arm]
@[simp] theorem State.arm_params (s : State) (i : Fin 16) :
    (s.arm i).params = s.params := by simp [State.arm]
@[simp] theorem State.arm_store (s : State) (i : Fin 16) :
    (s.arm i).store = s.store := by simp [State.arm]
@[simp] theorem State.arm_sumA (s : State) (i : Fin 16) :
    (s.arm i).sumA = s.sumA := by simp [State.arm]
@[simp] theorem State.arm_sumB (s : State) (i : Fin 16) :
    (s.arm i).sumB = s.sumB := by simp [State.arm]
@[simp] theorem State.arm_due (s : State) (i : Fin 16) :
    (s.arm i).due = s.due := by simp [State.arm]
@[simp] theorem State.arm_held (s : State) (i : Fin 16) :
    (s.arm i).held = s.held := by simp [State.arm]
@[simp] theorem State.arm_ring (s : State) (i : Fin 16) :
    (s.arm i).ring = s.ring := by simp [State.arm]
@[simp] theorem State.arm_ringMode (s : State) (i : Fin 16) :
    (s.arm i).ringMode = s.ringMode := by simp [State.arm]
@[simp] theorem State.arm_launcher (s : State) (i : Fin 16) :
    (s.arm i).launcher = s.launcher := by simp [State.arm]
@[simp] theorem State.arm_entries (s : State) (i : Fin 16) :
    (s.arm i).entries = s.entries := by simp [State.arm]
@[simp] theorem State.arm_cellMem (s : State) (i : Fin 16) :
    (s.arm i).cellMem = s.cellMem := by simp [State.arm]
@[simp] theorem State.arm_lanes (s : State) (i : Fin 16) :
    (s.arm i).lanes = s.lanes := by simp [State.arm]
@[simp] theorem State.arm_pathA (s : State) (i : Fin 16) :
    (s.arm i).pathA = s.pathA := by simp [State.arm]
@[simp] theorem State.arm_pathB (s : State) (i : Fin 16) :
    (s.arm i).pathB = s.pathB := by simp [State.arm]
@[simp] theorem State.arm_house (s : State) (i : Fin 16) :
    (s.arm i).house = s.house := by simp [State.arm]
@[simp] theorem State.arm_pattern (s : State) (i : Fin 16) :
    (s.arm i).pattern = s.pattern := by simp [State.arm]
@[simp] theorem State.arm_patternMem (s : State) (i : Fin 16) :
    (s.arm i).patternMem = s.patternMem := by simp [State.arm]
@[simp] theorem State.arm_port (s : State) (i : Fin 16) :
    (s.arm i).port = s.port := by simp [State.arm]
@[simp] theorem State.arm_active (s : State) (i : Fin 16) :
    (s.arm i).active = s.active := by simp [State.arm]
@[simp] theorem State.arm_frozen (s : State) (i : Fin 16) :
    (s.arm i).frozen = s.frozen := by simp [State.arm]
@[simp] theorem State.arm_frozenLabel (s : State) (i : Fin 16) :
    (s.arm i).frozenLabel = s.frozenLabel := by simp [State.arm]
@[simp] theorem State.arm_freeCount (s : State) (i : Fin 16) :
    (s.arm i).freeCount = s.freeCount := by simp [State.arm]
@[simp] theorem State.arm_pending (s : State) (i : Fin 16) :
    (s.arm i).pending = s.pending := by simp [State.arm]

@[simp] theorem State.lane_arm (s : State) (i : Fin 16) (m : Fin 4) :
    (s.arm i).lane m = s.lane m := by simp [State.lane]
@[simp] theorem State.path_arm (s : State) (i : Fin 16) (z : PathId) :
    (s.arm i).path z = s.path z := by cases z <;> simp [State.path]
@[simp] theorem State.now_arm (s : State) (i : Fin 16) :
    (s.arm i).now = s.now := by simp [State.now]
@[simp] theorem State.entry_arm (s : State) (i : Fin 16) (a : Nat) :
    (s.arm i).entry? a = s.entry? a := by simp [State.entry?]

/-- A discard leaves every other slot. -/
theorem State.slot_discardHead_ne (s : State) (i j : Fin 16) (h : j ≠ i) : (s.discardHead i).slot j = s.slot j := by
  unfold State.discardHead
  split
  · rfl
  · simp [State.slot_formHead_ne _ i j h, State.slot_updSlot_ne _ i j _ h]

/-- A frame close leaves every other slot. -/
theorem State.slot_closeFrame_ne (s : State) (i j : Fin 16) (h : j ≠ i) : (s.closeFrame i).slot j = s.slot j := by
  simp [State.closeFrame, State.slot_formHead_ne _ i j h, State.slot_updSlot_ne _ i j _ h]

/-- An arming leaves every other slot. -/
theorem State.slot_arm_ne (s : State) (i j : Fin 16) (h : j ≠ i) : (s.arm i).slot j = s.slot j := by
  simp [State.arm, State.slot_formHead_ne _ i j h, State.slot_updSlot_ne _ i j _ h]

/-- The tests at the end of a frame close: DRAINED, ABANDONED at the idle limit, or nothing (R35, R38). -/
theorem State.closeTests_cases (s : State) (i : Fin 16) (testIdle : Bool) :
    s.closeTests i testIdle = s
      ∨ ((s.slot i).state = .draining ∧ (s.slot i).queue = []
          ∧ s.closeTests i testIdle = s.closeStream i .drained false)
      ∨ (testIdle = true ∧ s.params.idleLimit ≠ 0 ∧ s.params.idleLimit ≤ (s.slot i).idle
          ∧ s.closeTests i testIdle = s.closeStream i .abandoned false) := by
  unfold State.closeTests
  split
  · rename_i h; exact .inr (.inl ⟨h.1, h.2, rfl⟩)
  · split
    · rename_i h; exact .inr (.inr ⟨h.1, h.2.1, h.2.2, rfl⟩)
    · exact .inl rfl

@[simp] theorem State.closeTests_power (s : State) (i : Fin 16) (b : Bool) :
    (s.closeTests i b).power = s.power := by unfold State.closeTests; split <;> (try split) <;> simp
@[simp] theorem State.closeTests_elapsed (s : State) (i : Fin 16) (b : Bool) :
    (s.closeTests i b).elapsed = s.elapsed := by unfold State.closeTests; split <;> (try split) <;> simp
@[simp] theorem State.closeTests_params (s : State) (i : Fin 16) (b : Bool) :
    (s.closeTests i b).params = s.params := by unfold State.closeTests; split <;> (try split) <;> simp
@[simp] theorem State.closeTests_store (s : State) (i : Fin 16) (b : Bool) :
    (s.closeTests i b).store = s.store := by unfold State.closeTests; split <;> (try split) <;> simp
@[simp] theorem State.closeTests_ring (s : State) (i : Fin 16) (b : Bool) :
    (s.closeTests i b).ring = s.ring := by unfold State.closeTests; split <;> (try split) <;> simp
@[simp] theorem State.closeTests_ringMode (s : State) (i : Fin 16) (b : Bool) :
    (s.closeTests i b).ringMode = s.ringMode := by unfold State.closeTests; split <;> (try split) <;> simp
@[simp] theorem State.closeTests_launcher (s : State) (i : Fin 16) (b : Bool) :
    (s.closeTests i b).launcher = s.launcher := by unfold State.closeTests; split <;> (try split) <;> simp
@[simp] theorem State.closeTests_cellMem (s : State) (i : Fin 16) (b : Bool) :
    (s.closeTests i b).cellMem = s.cellMem := by unfold State.closeTests; split <;> (try split) <;> simp
@[simp] theorem State.closeTests_pathA (s : State) (i : Fin 16) (b : Bool) :
    (s.closeTests i b).pathA = s.pathA := by unfold State.closeTests; split <;> (try split) <;> simp
@[simp] theorem State.closeTests_pathB (s : State) (i : Fin 16) (b : Bool) :
    (s.closeTests i b).pathB = s.pathB := by unfold State.closeTests; split <;> (try split) <;> simp
@[simp] theorem State.closeTests_house (s : State) (i : Fin 16) (b : Bool) :
    (s.closeTests i b).house = s.house := by unfold State.closeTests; split <;> (try split) <;> simp
@[simp] theorem State.closeTests_patternMem (s : State) (i : Fin 16) (b : Bool) :
    (s.closeTests i b).patternMem = s.patternMem := by unfold State.closeTests; split <;> (try split) <;> simp
@[simp] theorem State.closeTests_frozen (s : State) (i : Fin 16) (b : Bool) :
    (s.closeTests i b).frozen = s.frozen := by unfold State.closeTests; split <;> (try split) <;> simp
@[simp] theorem State.closeTests_frozenLabel (s : State) (i : Fin 16) (b : Bool) :
    (s.closeTests i b).frozenLabel = s.frozenLabel := by unfold State.closeTests; split <;> (try split) <;> simp
@[simp] theorem State.closeTests_freeCount (s : State) (i : Fin 16) (b : Bool) :
    (s.closeTests i b).freeCount = s.freeCount := by unfold State.closeTests; split <;> (try split) <;> simp
@[simp] theorem State.closeTests_pending (s : State) (i : Fin 16) (b : Bool) :
    (s.closeTests i b).pending = s.pending := by unfold State.closeTests; split <;> (try split) <;> simp

@[simp] theorem State.path_closeTests (s : State) (i : Fin 16) (b : Bool) (z : PathId) :
    (s.closeTests i b).path z = s.path z := by cases z <;> simp [State.path]
@[simp] theorem State.now_closeTests (s : State) (i : Fin 16) (b : Bool) :
    (s.closeTests i b).now = s.now := by simp [State.now]

/-- A run of discards keeps any fact that one discard keeps. -/
theorem State.discardRun_keeps (P : State → Prop) (i : Fin 16) (h : ∀ s, P s → P (s.discardHead i)) (n : Nat)
    (s : State) (hs : P s) : P (s.discardRun i n) := by
  induction n generalizing s with
  | zero => exact hs
  | succ n ih =>
    unfold State.discardRun
    split
    · exact ih _ (h s hs)
    · exact hs

/-- A run of frame closes keeps any fact that one frame close with its tests and one discard keep. -/
theorem State.closeRun_keeps (P : State → Prop) (i : Fin 16)
    (hd : ∀ s, P s → P ((s.discardHead i).closeIfDrained i))
    (hc : ∀ s, P s → P ((s.closeFrame i).closeTests i true)) (n : Nat) (s : State) (hs : P s) : P (s.closeRun i n) := by
  induction n generalizing s with
  | zero => exact hs
  | succ n ih =>
    unfold State.closeRun
    split
    · exact ih _ (hd s hs)
    · split
      · exact ih _ (hc s hs)
      · exact hs

/-- What a forward step passes over keeps any fact that one passed instant keeps. -/
theorem State.passRun_keeps (P : State → Prop) (h : ∀ s i, P s → P (s.takePassed i)) (n : Nat) (s : State) (hs : P s) :
    P (s.passRun n) := by
  induction n generalizing s with
  | zero => rw [State.passRun]; exact hs
  | succ n ih =>
    rw [State.passRun]
    cases s.earliestPassed with
    | none => exact hs
    | some i => exact ih _ (h _ _ hs)

/-- A run over all slots of a list keeps any fact that one slot's part keeps. -/
theorem foldl_keeps {α : Type} (P : State → Prop) (f : State → α → State) (h : ∀ s x, P s → P (f s x)) (xs : List α)
    (s : State) (hs : P s) : P (xs.foldl f s) := by
  induction xs generalizing s with
  | nil => exact hs
  | cons x xs ih => exact ih _ (h s x hs)

/-! ## Grants and choices -/

/-- What a grant writes of the entry, the slot and the arbiter, before the counts and the next head (R52). -/
def State.grantCore (s : State) (i : Fin 16) (n : Nat) (rest : List Nat) (e : Entry) (hd : Head) : State :=
  let t := s.slot i
  let a := s.now
  let s := s.updEntry n fun e =>
    { e with
      holders := (e.holders.put .queued false).put .service true
      stamp := some (a % 2 ^ 32)
      flags := { e.flags with skipped := e.flags.skipped || t.intake.pendingSkipped } }
  let s := s.updSlot i fun c =>
    { c.granted s.params.catchUp a hd.scheduled with
      queue := rest
      intake := { c.intake with pendingSkipped := false } }
  { s with
    due := s.due.set i false
    launcher := some ⟨i, n, e.frame, e.index, e.payload, a, a + wireTime s.params.rate e.payload, t.pathSet, t.tag⟩
    ring := match s.ringMode with
      | .auto => lowestOnRing s.ring i
      | .fixed => s.ring }

/-- The counts of a grant (R42, R58, R88). -/
def State.grantCounts (s : State) (i : Fin 16) (late urgent skipped : Bool) : State :=
  let s := (s.countSlot i .released 1).countPart .launches 1
  let s := if late then s.countSlot i .late 1 else s
  let s := if urgent then s.countSlot i .urgent 1 else s
  if skipped then s.countSlot i .skipped 1 else s

/-- A grant changes nothing where the slot has no formed head with an entry, else it writes the parts above, forms the
next head, lets the due flag follow and closes a drained stream (R52). -/
theorem State.grant_cases (s : State) (i : Fin 16) (u : Bool) :
    s.grant i u = s
      ∨ ∃ n rest e hd, (s.slot i).queue = n :: rest ∧ s.headEntry i = some e ∧ (s.slot i).head = some hd
          ∧ s.grant i u =
            ((((s.grantCore i n rest e hd).grantCounts i (decide (8 ≤ latenessIndex (s.now - hd.scheduled))) u
              (s.slot i).intake.pendingSkipped).formHead i).refreshDue i).closeIfDrained i := by
  unfold State.grant
  split
  · rename_i n rest e hd h1 h2 h3
    refine .inr ⟨n, rest, e, hd, h1, h2, h3, ?_⟩
    by_cases hl : 8 ≤ latenessIndex (s.now - hd.scheduled)
    · simp only [hl, decide_true, if_true]; rfl
    · simp only [hl, decide_false, if_false]; rfl
  · exact .inl rfl

@[simp] theorem State.grantCore_power (s : State) (i : Fin 16) (n : Nat) (r : List Nat) (e : Entry) (d : Head) :
    (s.grantCore i n r e d).power = s.power := rfl
@[simp] theorem State.grantCore_elapsed (s : State) (i : Fin 16) (n : Nat) (r : List Nat) (e : Entry) (d : Head) :
    (s.grantCore i n r e d).elapsed = s.elapsed := rfl
@[simp] theorem State.grantCore_params (s : State) (i : Fin 16) (n : Nat) (r : List Nat) (e : Entry) (d : Head) :
    (s.grantCore i n r e d).params = s.params := rfl
@[simp] theorem State.grantCore_store (s : State) (i : Fin 16) (n : Nat) (r : List Nat) (e : Entry) (d : Head) :
    (s.grantCore i n r e d).store = s.store := rfl
@[simp] theorem State.grantCore_sumA (s : State) (i : Fin 16) (n : Nat) (r : List Nat) (e : Entry) (d : Head) :
    (s.grantCore i n r e d).sumA = s.sumA := rfl
@[simp] theorem State.grantCore_sumB (s : State) (i : Fin 16) (n : Nat) (r : List Nat) (e : Entry) (d : Head) :
    (s.grantCore i n r e d).sumB = s.sumB := rfl
@[simp] theorem State.grantCore_held (s : State) (i : Fin 16) (n : Nat) (r : List Nat) (e : Entry) (d : Head) :
    (s.grantCore i n r e d).held = s.held := rfl
@[simp] theorem State.grantCore_ringMode (s : State) (i : Fin 16) (n : Nat) (r : List Nat) (e : Entry) (d : Head) :
    (s.grantCore i n r e d).ringMode = s.ringMode := rfl
@[simp] theorem State.grantCore_cellMem (s : State) (i : Fin 16) (n : Nat) (r : List Nat) (e : Entry) (d : Head) :
    (s.grantCore i n r e d).cellMem = s.cellMem := rfl
@[simp] theorem State.grantCore_lanes (s : State) (i : Fin 16) (n : Nat) (r : List Nat) (e : Entry) (d : Head) :
    (s.grantCore i n r e d).lanes = s.lanes := rfl
@[simp] theorem State.grantCore_pathA (s : State) (i : Fin 16) (n : Nat) (r : List Nat) (e : Entry) (d : Head) :
    (s.grantCore i n r e d).pathA = s.pathA := rfl
@[simp] theorem State.grantCore_pathB (s : State) (i : Fin 16) (n : Nat) (r : List Nat) (e : Entry) (d : Head) :
    (s.grantCore i n r e d).pathB = s.pathB := rfl
@[simp] theorem State.grantCore_house (s : State) (i : Fin 16) (n : Nat) (r : List Nat) (e : Entry) (d : Head) :
    (s.grantCore i n r e d).house = s.house := rfl
@[simp] theorem State.grantCore_pattern (s : State) (i : Fin 16) (n : Nat) (r : List Nat) (e : Entry) (d : Head) :
    (s.grantCore i n r e d).pattern = s.pattern := rfl
@[simp] theorem State.grantCore_patternMem (s : State) (i : Fin 16) (n : Nat) (r : List Nat) (e : Entry) (d : Head) :
    (s.grantCore i n r e d).patternMem = s.patternMem := rfl
@[simp] theorem State.grantCore_port (s : State) (i : Fin 16) (n : Nat) (r : List Nat) (e : Entry) (d : Head) :
    (s.grantCore i n r e d).port = s.port := rfl
@[simp] theorem State.grantCore_active (s : State) (i : Fin 16) (n : Nat) (r : List Nat) (e : Entry) (d : Head) :
    (s.grantCore i n r e d).active = s.active := rfl
@[simp] theorem State.grantCore_frozen (s : State) (i : Fin 16) (n : Nat) (r : List Nat) (e : Entry) (d : Head) :
    (s.grantCore i n r e d).frozen = s.frozen := rfl
@[simp] theorem State.grantCore_frozenLabel (s : State) (i : Fin 16) (n : Nat) (r : List Nat) (e : Entry) (d : Head) :
    (s.grantCore i n r e d).frozenLabel = s.frozenLabel := rfl
@[simp] theorem State.grantCore_freeCount (s : State) (i : Fin 16) (n : Nat) (r : List Nat) (e : Entry) (d : Head) :
    (s.grantCore i n r e d).freeCount = s.freeCount := rfl
@[simp] theorem State.grantCore_pending (s : State) (i : Fin 16) (n : Nat) (r : List Nat) (e : Entry) (d : Head) :
    (s.grantCore i n r e d).pending = s.pending := rfl

@[simp] theorem State.lane_grantCore (s : State) (i : Fin 16) (n : Nat) (r : List Nat) (e : Entry) (d : Head) (m : Fin 4) :
    (s.grantCore i n r e d).lane m = s.lane m := by simp [State.lane]
@[simp] theorem State.path_grantCore (s : State) (i : Fin 16) (n : Nat) (r : List Nat) (e : Entry) (d : Head) (z : PathId) :
    (s.grantCore i n r e d).path z = s.path z := by cases z <;> simp [State.path]
@[simp] theorem State.now_grantCore (s : State) (i : Fin 16) (n : Nat) (r : List Nat) (e : Entry) (d : Head) :
    (s.grantCore i n r e d).now = s.now := by simp [State.now]

@[simp] theorem State.grantCounts_power (s : State) (i : Fin 16) (x y w : Bool) :
    (s.grantCounts i x y w).power = s.power := by
  cases x <;> cases y <;> cases w <;> simp [State.grantCounts]
@[simp] theorem State.grantCounts_elapsed (s : State) (i : Fin 16) (x y w : Bool) :
    (s.grantCounts i x y w).elapsed = s.elapsed := by
  cases x <;> cases y <;> cases w <;> simp [State.grantCounts]
@[simp] theorem State.grantCounts_params (s : State) (i : Fin 16) (x y w : Bool) :
    (s.grantCounts i x y w).params = s.params := by
  cases x <;> cases y <;> cases w <;> simp [State.grantCounts]
@[simp] theorem State.grantCounts_store (s : State) (i : Fin 16) (x y w : Bool) :
    (s.grantCounts i x y w).store = s.store := by
  cases x <;> cases y <;> cases w <;> simp [State.grantCounts]
@[simp] theorem State.grantCounts_slots (s : State) (i : Fin 16) (x y w : Bool) :
    (s.grantCounts i x y w).slots = s.slots := by
  cases x <;> cases y <;> cases w <;> simp [State.grantCounts]
@[simp] theorem State.grantCounts_sumA (s : State) (i : Fin 16) (x y w : Bool) :
    (s.grantCounts i x y w).sumA = s.sumA := by
  cases x <;> cases y <;> cases w <;> simp [State.grantCounts]
@[simp] theorem State.grantCounts_sumB (s : State) (i : Fin 16) (x y w : Bool) :
    (s.grantCounts i x y w).sumB = s.sumB := by
  cases x <;> cases y <;> cases w <;> simp [State.grantCounts]
@[simp] theorem State.grantCounts_due (s : State) (i : Fin 16) (x y w : Bool) :
    (s.grantCounts i x y w).due = s.due := by
  cases x <;> cases y <;> cases w <;> simp [State.grantCounts]
@[simp] theorem State.grantCounts_held (s : State) (i : Fin 16) (x y w : Bool) :
    (s.grantCounts i x y w).held = s.held := by
  cases x <;> cases y <;> cases w <;> simp [State.grantCounts]
@[simp] theorem State.grantCounts_ring (s : State) (i : Fin 16) (x y w : Bool) :
    (s.grantCounts i x y w).ring = s.ring := by
  cases x <;> cases y <;> cases w <;> simp [State.grantCounts]
@[simp] theorem State.grantCounts_ringMode (s : State) (i : Fin 16) (x y w : Bool) :
    (s.grantCounts i x y w).ringMode = s.ringMode := by
  cases x <;> cases y <;> cases w <;> simp [State.grantCounts]
@[simp] theorem State.grantCounts_launcher (s : State) (i : Fin 16) (x y w : Bool) :
    (s.grantCounts i x y w).launcher = s.launcher := by
  cases x <;> cases y <;> cases w <;> simp [State.grantCounts]
@[simp] theorem State.grantCounts_entries (s : State) (i : Fin 16) (x y w : Bool) :
    (s.grantCounts i x y w).entries = s.entries := by
  cases x <;> cases y <;> cases w <;> simp [State.grantCounts]
@[simp] theorem State.grantCounts_cellMem (s : State) (i : Fin 16) (x y w : Bool) :
    (s.grantCounts i x y w).cellMem = s.cellMem := by
  cases x <;> cases y <;> cases w <;> simp [State.grantCounts]
@[simp] theorem State.grantCounts_lanes (s : State) (i : Fin 16) (x y w : Bool) :
    (s.grantCounts i x y w).lanes = s.lanes := by
  cases x <;> cases y <;> cases w <;> simp [State.grantCounts]
@[simp] theorem State.grantCounts_pathA (s : State) (i : Fin 16) (x y w : Bool) :
    (s.grantCounts i x y w).pathA = s.pathA := by
  cases x <;> cases y <;> cases w <;> simp [State.grantCounts]
@[simp] theorem State.grantCounts_pathB (s : State) (i : Fin 16) (x y w : Bool) :
    (s.grantCounts i x y w).pathB = s.pathB := by
  cases x <;> cases y <;> cases w <;> simp [State.grantCounts]
@[simp] theorem State.grantCounts_house (s : State) (i : Fin 16) (x y w : Bool) :
    (s.grantCounts i x y w).house = s.house := by
  cases x <;> cases y <;> cases w <;> simp [State.grantCounts]
@[simp] theorem State.grantCounts_pattern (s : State) (i : Fin 16) (x y w : Bool) :
    (s.grantCounts i x y w).pattern = s.pattern := by
  cases x <;> cases y <;> cases w <;> simp [State.grantCounts]
@[simp] theorem State.grantCounts_patternMem (s : State) (i : Fin 16) (x y w : Bool) :
    (s.grantCounts i x y w).patternMem = s.patternMem := by
  cases x <;> cases y <;> cases w <;> simp [State.grantCounts]
@[simp] theorem State.grantCounts_port (s : State) (i : Fin 16) (x y w : Bool) :
    (s.grantCounts i x y w).port = s.port := by
  cases x <;> cases y <;> cases w <;> simp [State.grantCounts]
@[simp] theorem State.grantCounts_frozen (s : State) (i : Fin 16) (x y w : Bool) :
    (s.grantCounts i x y w).frozen = s.frozen := by
  cases x <;> cases y <;> cases w <;> simp [State.grantCounts]
@[simp] theorem State.grantCounts_frozenLabel (s : State) (i : Fin 16) (x y w : Bool) :
    (s.grantCounts i x y w).frozenLabel = s.frozenLabel := by
  cases x <;> cases y <;> cases w <;> simp [State.grantCounts]
@[simp] theorem State.grantCounts_freeCount (s : State) (i : Fin 16) (x y w : Bool) :
    (s.grantCounts i x y w).freeCount = s.freeCount := by
  cases x <;> cases y <;> cases w <;> simp [State.grantCounts]
@[simp] theorem State.grantCounts_pending (s : State) (i : Fin 16) (x y w : Bool) :
    (s.grantCounts i x y w).pending = s.pending := by
  cases x <;> cases y <;> cases w <;> simp [State.grantCounts]

@[simp] theorem State.slot_grantCounts (s : State) (i : Fin 16) (x y w : Bool) (j : Fin 16) :
    (s.grantCounts i x y w).slot j = s.slot j := by simp [State.slot]
@[simp] theorem State.lane_grantCounts (s : State) (i : Fin 16) (x y w : Bool) (m : Fin 4) :
    (s.grantCounts i x y w).lane m = s.lane m := by simp [State.lane]
@[simp] theorem State.path_grantCounts (s : State) (i : Fin 16) (x y w : Bool) (z : PathId) :
    (s.grantCounts i x y w).path z = s.path z := by cases z <;> simp [State.path]
@[simp] theorem State.now_grantCounts (s : State) (i : Fin 16) (x y w : Bool) :
    (s.grantCounts i x y w).now = s.now := by simp [State.now]
@[simp] theorem State.entry_grantCounts (s : State) (i : Fin 16) (x y w : Bool) (a : Nat) :
    (s.grantCounts i x y w).entry? a = s.entry? a := by simp [State.entry?]

theorem State.slot_grantCore_ne (s : State) (i j : Fin 16) (n : Nat) (r : List Nat) (e : Entry) (d : Head) (h : j ≠ i) :
    (s.grantCore i n r e d).slot j = s.slot j := by
  have : (i : Nat) ≠ j := fun e => h (Fin.ext e.symm)
  simp [State.grantCore, State.slot, State.updSlot, State.updEntry, this]

theorem State.grantCore_ring (s : State) (i : Fin 16) (n : Nat) (r : List Nat) (e : Entry) (d : Head) :
    (s.grantCore i n r e d).ring = (match s.ringMode with | .auto => lowestOnRing s.ring i | .fixed => s.ring) := rfl

@[simp] theorem State.grantCore_launcher (s : State) (i : Fin 16) (n : Nat) (r : List Nat) (e : Entry) (d : Head) :
    (s.grantCore i n r e d).launcher =
      some ⟨i, n, e.frame, e.index, e.payload, s.now, s.now + wireTime s.params.rate e.payload, (s.slot i).pathSet,
        (s.slot i).tag⟩ := rfl

@[simp] theorem State.grantCore_due (s : State) (i : Fin 16) (n : Nat) (r : List Nat) (e : Entry) (d : Head) :
    (s.grantCore i n r e d).due = s.due.set i false := rfl

@[simp] theorem State.grant_power (s : State) (i : Fin 16) (u : Bool) :
    (s.grant i u).power = s.power := by
  rcases s.grant_cases i u with h | ⟨_, _, _, _, _, _, _, h⟩ <;> rw [h]
  simp
@[simp] theorem State.grant_elapsed (s : State) (i : Fin 16) (u : Bool) :
    (s.grant i u).elapsed = s.elapsed := by
  rcases s.grant_cases i u with h | ⟨_, _, _, _, _, _, _, h⟩ <;> rw [h]
  simp
@[simp] theorem State.grant_params (s : State) (i : Fin 16) (u : Bool) :
    (s.grant i u).params = s.params := by
  rcases s.grant_cases i u with h | ⟨_, _, _, _, _, _, _, h⟩ <;> rw [h]
  simp
@[simp] theorem State.grant_store (s : State) (i : Fin 16) (u : Bool) :
    (s.grant i u).store = s.store := by
  rcases s.grant_cases i u with h | ⟨_, _, _, _, _, _, _, h⟩ <;> rw [h]
  simp
@[simp] theorem State.grant_ringMode (s : State) (i : Fin 16) (u : Bool) :
    (s.grant i u).ringMode = s.ringMode := by
  rcases s.grant_cases i u with h | ⟨_, _, _, _, _, _, _, h⟩ <;> rw [h]
  simp
@[simp] theorem State.grant_cellMem (s : State) (i : Fin 16) (u : Bool) :
    (s.grant i u).cellMem = s.cellMem := by
  rcases s.grant_cases i u with h | ⟨_, _, _, _, _, _, _, h⟩ <;> rw [h]
  simp
@[simp] theorem State.grant_pathA (s : State) (i : Fin 16) (u : Bool) :
    (s.grant i u).pathA = s.pathA := by
  rcases s.grant_cases i u with h | ⟨_, _, _, _, _, _, _, h⟩ <;> rw [h]
  simp
@[simp] theorem State.grant_pathB (s : State) (i : Fin 16) (u : Bool) :
    (s.grant i u).pathB = s.pathB := by
  rcases s.grant_cases i u with h | ⟨_, _, _, _, _, _, _, h⟩ <;> rw [h]
  simp
@[simp] theorem State.grant_house (s : State) (i : Fin 16) (u : Bool) :
    (s.grant i u).house = s.house := by
  rcases s.grant_cases i u with h | ⟨_, _, _, _, _, _, _, h⟩ <;> rw [h]
  simp
@[simp] theorem State.grant_patternMem (s : State) (i : Fin 16) (u : Bool) :
    (s.grant i u).patternMem = s.patternMem := by
  rcases s.grant_cases i u with h | ⟨_, _, _, _, _, _, _, h⟩ <;> rw [h]
  simp
@[simp] theorem State.grant_frozen (s : State) (i : Fin 16) (u : Bool) :
    (s.grant i u).frozen = s.frozen := by
  rcases s.grant_cases i u with h | ⟨_, _, _, _, _, _, _, h⟩ <;> rw [h]
  simp
@[simp] theorem State.grant_frozenLabel (s : State) (i : Fin 16) (u : Bool) :
    (s.grant i u).frozenLabel = s.frozenLabel := by
  rcases s.grant_cases i u with h | ⟨_, _, _, _, _, _, _, h⟩ <;> rw [h]
  simp
@[simp] theorem State.grant_freeCount (s : State) (i : Fin 16) (u : Bool) :
    (s.grant i u).freeCount = s.freeCount := by
  rcases s.grant_cases i u with h | ⟨_, _, _, _, _, _, _, h⟩ <;> rw [h]
  simp
@[simp] theorem State.grant_pending (s : State) (i : Fin 16) (u : Bool) :
    (s.grant i u).pending = s.pending := by
  rcases s.grant_cases i u with h | ⟨_, _, _, _, _, _, _, h⟩ <;> rw [h]
  simp

@[simp] theorem State.path_grant (s : State) (i : Fin 16) (u : Bool) (z : PathId) :
    (s.grant i u).path z = s.path z := by cases z <;> simp [State.path]
@[simp] theorem State.now_grant (s : State) (i : Fin 16) (u : Bool) :
    (s.grant i u).now = s.now := by simp [State.now]

/-- A grant leaves every other slot's context. -/
theorem State.slot_grant_ne (s : State) (i j : Fin 16) (u : Bool) (h : j ≠ i) : (s.grant i u).slot j = s.slot j := by
  rcases s.grant_cases i u with hg | ⟨n, rest, e, hd, _, _, _, hg⟩ <;> rw [hg]
  rcases State.closeIfDrained_cases
    ((((s.grantCore i n rest e hd).grantCounts i (decide (8 ≤ latenessIndex (s.now - hd.scheduled))) u
      (s.slot i).intake.pendingSkipped).formHead i).refreshDue i) i with hc | ⟨_, _, hc⟩ <;> rw [hc]
  · simp [State.slot_formHead_ne _ i j h, State.slot_grantCore_ne _ i j _ _ _ _ h]
  · rw [State.slot_closeStream_ne _ i j _ _ h]
    simp [State.slot_formHead_ne _ i j h, State.slot_grantCore_ne _ i j _ _ _ _ h]

/-- The ring after a grant: the slot moves to its lowest position in AUTO mode, and nothing else moves it (R49). -/
theorem State.grant_ring (s : State) (i : Fin 16) (u : Bool) :
    (s.grant i u).ring = s.ring ∨ (s.ringMode = .auto ∧ (s.grant i u).ring = lowestOnRing s.ring i) := by
  rcases s.grant_cases i u with h | ⟨_, _, _, _, _, _, _, h⟩ <;> rw [h]
  · exact .inl rfl
  · cases hm : s.ringMode
    · exact .inr ⟨rfl, by simp [State.grantCore_ring, hm]⟩
    · exact .inl (by simp [State.grantCore_ring, hm])

/-- A choice changes nothing, or, with the launcher free, grants a slot of the due set on the ring: in the URGENT class
if it grades URGENT, and only otherwise, with no due slot URGENT, as a normal candidate (R51). -/
theorem State.choice_cases (s : State) :
    s.choice = s
      ∨ (∃ i, s.launcher = none ∧ i ∈ s.ring ∧ s.due[i] = true ∧ s.isUrgent i = true ∧ s.choice = s.grant i true)
      ∨ (∃ i, s.launcher = none ∧ i ∈ s.ring ∧ s.due[i] = true ∧ s.urgentWinner = none ∧ s.choice = s.grant i false) := by
  unfold State.choice
  split
  · exact .inl rfl
  · rename_i hl
    split
    · rename_i i hu
      have hp := List.find?_some hu
      simp only [Bool.and_eq_true] at hp
      exact .inr (.inl ⟨i, hl, List.mem_of_find?_eq_some hu, hp.1, hp.2, rfl⟩)
    · rename_i hu
      split
      · rename_i i hn
        have hp : s.due[i] = true := List.find?_some (p := fun i => s.due[i]) hn
        exact .inr (.inr ⟨i, hl, List.mem_of_find?_eq_some hn, hp, hu, rfl⟩)
      · exact .inl rfl

@[simp] theorem State.choice_power (s : State) :
    s.choice.power = s.power := by
  rcases s.choice_cases with h | ⟨i, _, _, _, _, h⟩ | ⟨i, _, _, _, _, h⟩ <;> rw [h] <;> simp
@[simp] theorem State.choice_elapsed (s : State) :
    s.choice.elapsed = s.elapsed := by
  rcases s.choice_cases with h | ⟨i, _, _, _, _, h⟩ | ⟨i, _, _, _, _, h⟩ <;> rw [h] <;> simp
@[simp] theorem State.choice_params (s : State) :
    s.choice.params = s.params := by
  rcases s.choice_cases with h | ⟨i, _, _, _, _, h⟩ | ⟨i, _, _, _, _, h⟩ <;> rw [h] <;> simp
@[simp] theorem State.choice_store (s : State) :
    s.choice.store = s.store := by
  rcases s.choice_cases with h | ⟨i, _, _, _, _, h⟩ | ⟨i, _, _, _, _, h⟩ <;> rw [h] <;> simp
@[simp] theorem State.choice_ringMode (s : State) :
    s.choice.ringMode = s.ringMode := by
  rcases s.choice_cases with h | ⟨i, _, _, _, _, h⟩ | ⟨i, _, _, _, _, h⟩ <;> rw [h] <;> simp
@[simp] theorem State.choice_cellMem (s : State) :
    s.choice.cellMem = s.cellMem := by
  rcases s.choice_cases with h | ⟨i, _, _, _, _, h⟩ | ⟨i, _, _, _, _, h⟩ <;> rw [h] <;> simp
@[simp] theorem State.choice_pathA (s : State) :
    s.choice.pathA = s.pathA := by
  rcases s.choice_cases with h | ⟨i, _, _, _, _, h⟩ | ⟨i, _, _, _, _, h⟩ <;> rw [h] <;> simp
@[simp] theorem State.choice_pathB (s : State) :
    s.choice.pathB = s.pathB := by
  rcases s.choice_cases with h | ⟨i, _, _, _, _, h⟩ | ⟨i, _, _, _, _, h⟩ <;> rw [h] <;> simp
@[simp] theorem State.choice_house (s : State) :
    s.choice.house = s.house := by
  rcases s.choice_cases with h | ⟨i, _, _, _, _, h⟩ | ⟨i, _, _, _, _, h⟩ <;> rw [h] <;> simp
@[simp] theorem State.choice_patternMem (s : State) :
    s.choice.patternMem = s.patternMem := by
  rcases s.choice_cases with h | ⟨i, _, _, _, _, h⟩ | ⟨i, _, _, _, _, h⟩ <;> rw [h] <;> simp
@[simp] theorem State.choice_frozen (s : State) :
    s.choice.frozen = s.frozen := by
  rcases s.choice_cases with h | ⟨i, _, _, _, _, h⟩ | ⟨i, _, _, _, _, h⟩ <;> rw [h] <;> simp
@[simp] theorem State.choice_frozenLabel (s : State) :
    s.choice.frozenLabel = s.frozenLabel := by
  rcases s.choice_cases with h | ⟨i, _, _, _, _, h⟩ | ⟨i, _, _, _, _, h⟩ <;> rw [h] <;> simp
@[simp] theorem State.choice_freeCount (s : State) :
    s.choice.freeCount = s.freeCount := by
  rcases s.choice_cases with h | ⟨i, _, _, _, _, h⟩ | ⟨i, _, _, _, _, h⟩ <;> rw [h] <;> simp
@[simp] theorem State.choice_pending (s : State) :
    s.choice.pending = s.pending := by
  rcases s.choice_cases with h | ⟨i, _, _, _, _, h⟩ | ⟨i, _, _, _, _, h⟩ <;> rw [h] <;> simp

@[simp] theorem State.path_choice (s : State) (z : PathId) :
    s.choice.path z = s.path z := by cases z <;> simp [State.path]
@[simp] theorem State.now_choice (s : State) :
    s.choice.now = s.now := by simp [State.now]

@[simp] theorem State.settleSlot_power (s : State) (i : Fin 16) :
    (s.settleSlot i).power = s.power := by simp [State.settleSlot]
@[simp] theorem State.settleSlot_elapsed (s : State) (i : Fin 16) :
    (s.settleSlot i).elapsed = s.elapsed := by simp [State.settleSlot]
@[simp] theorem State.settleSlot_params (s : State) (i : Fin 16) :
    (s.settleSlot i).params = s.params := by simp [State.settleSlot]
@[simp] theorem State.settleSlot_store (s : State) (i : Fin 16) :
    (s.settleSlot i).store = s.store := by simp [State.settleSlot]
@[simp] theorem State.settleSlot_ringMode (s : State) (i : Fin 16) :
    (s.settleSlot i).ringMode = s.ringMode := by simp [State.settleSlot]
@[simp] theorem State.settleSlot_cellMem (s : State) (i : Fin 16) :
    (s.settleSlot i).cellMem = s.cellMem := by simp [State.settleSlot]
@[simp] theorem State.settleSlot_pathA (s : State) (i : Fin 16) :
    (s.settleSlot i).pathA = s.pathA := by simp [State.settleSlot]
@[simp] theorem State.settleSlot_pathB (s : State) (i : Fin 16) :
    (s.settleSlot i).pathB = s.pathB := by simp [State.settleSlot]
@[simp] theorem State.settleSlot_house (s : State) (i : Fin 16) :
    (s.settleSlot i).house = s.house := by simp [State.settleSlot]
@[simp] theorem State.settleSlot_patternMem (s : State) (i : Fin 16) :
    (s.settleSlot i).patternMem = s.patternMem := by simp [State.settleSlot]
@[simp] theorem State.settleSlot_frozen (s : State) (i : Fin 16) :
    (s.settleSlot i).frozen = s.frozen := by simp [State.settleSlot]
@[simp] theorem State.settleSlot_frozenLabel (s : State) (i : Fin 16) :
    (s.settleSlot i).frozenLabel = s.frozenLabel := by simp [State.settleSlot]
@[simp] theorem State.settleSlot_freeCount (s : State) (i : Fin 16) :
    (s.settleSlot i).freeCount = s.freeCount := by simp [State.settleSlot]
@[simp] theorem State.settleSlot_pending (s : State) (i : Fin 16) :
    (s.settleSlot i).pending = s.pending := by simp [State.settleSlot]

@[simp] theorem State.path_settleSlot (s : State) (i : Fin 16) (z : PathId) :
    (s.settleSlot i).path z = s.path z := by cases z <;> simp [State.path]
@[simp] theorem State.now_settleSlot (s : State) (i : Fin 16) :
    (s.settleSlot i).now = s.now := by simp [State.now]

end Sys2Proof.Machine
end

