-- ==== Sys2Proof/Laws/Paths.lean ====
section
/-!
SUPPORT. The path senders: what each operation leaves, what release and failure write, the cases of taking an entry.
-/

namespace Sys2Proof.Machine

open Sys2Proof

theorem otherPath_ne (p : PathId) : otherPath p ≠ p := by cases p <;> decide

@[simp] theorem otherPath_otherPath (p : PathId) : otherPath (otherPath p) = p := by cases p <;> rfl

/-! ## The line -/

@[simp] theorem State.beginData_power (s : State) (p : PathId) (w : WindowPlace) :
    (s.beginData p w).power = s.power := by simp [State.beginData]
@[simp] theorem State.beginData_elapsed (s : State) (p : PathId) (w : WindowPlace) :
    (s.beginData p w).elapsed = s.elapsed := by simp [State.beginData]
@[simp] theorem State.beginData_params (s : State) (p : PathId) (w : WindowPlace) :
    (s.beginData p w).params = s.params := by simp [State.beginData]
@[simp] theorem State.beginData_store (s : State) (p : PathId) (w : WindowPlace) :
    (s.beginData p w).store = s.store := by simp [State.beginData]
@[simp] theorem State.beginData_slots (s : State) (p : PathId) (w : WindowPlace) :
    (s.beginData p w).slots = s.slots := by simp [State.beginData]
@[simp] theorem State.beginData_sumA (s : State) (p : PathId) (w : WindowPlace) :
    (s.beginData p w).sumA = s.sumA := by simp [State.beginData]
@[simp] theorem State.beginData_sumB (s : State) (p : PathId) (w : WindowPlace) :
    (s.beginData p w).sumB = s.sumB := by simp [State.beginData]
@[simp] theorem State.beginData_due (s : State) (p : PathId) (w : WindowPlace) :
    (s.beginData p w).due = s.due := by simp [State.beginData]
@[simp] theorem State.beginData_held (s : State) (p : PathId) (w : WindowPlace) :
    (s.beginData p w).held = s.held := by simp [State.beginData]
@[simp] theorem State.beginData_ring (s : State) (p : PathId) (w : WindowPlace) :
    (s.beginData p w).ring = s.ring := by simp [State.beginData]
@[simp] theorem State.beginData_ringMode (s : State) (p : PathId) (w : WindowPlace) :
    (s.beginData p w).ringMode = s.ringMode := by simp [State.beginData]
@[simp] theorem State.beginData_launcher (s : State) (p : PathId) (w : WindowPlace) :
    (s.beginData p w).launcher = s.launcher := by simp [State.beginData]
@[simp] theorem State.beginData_entries (s : State) (p : PathId) (w : WindowPlace) :
    (s.beginData p w).entries = s.entries := by simp [State.beginData]
@[simp] theorem State.beginData_cellMem (s : State) (p : PathId) (w : WindowPlace) :
    (s.beginData p w).cellMem = s.cellMem := by simp [State.beginData]
@[simp] theorem State.beginData_lanes (s : State) (p : PathId) (w : WindowPlace) :
    (s.beginData p w).lanes = s.lanes := by simp [State.beginData]
@[simp] theorem State.beginData_house (s : State) (p : PathId) (w : WindowPlace) :
    (s.beginData p w).house = s.house := by simp [State.beginData]
@[simp] theorem State.beginData_pattern (s : State) (p : PathId) (w : WindowPlace) :
    (s.beginData p w).pattern = s.pattern := by simp [State.beginData]
@[simp] theorem State.beginData_patternMem (s : State) (p : PathId) (w : WindowPlace) :
    (s.beginData p w).patternMem = s.patternMem := by simp [State.beginData]
@[simp] theorem State.beginData_port (s : State) (p : PathId) (w : WindowPlace) :
    (s.beginData p w).port = s.port := by simp [State.beginData]
@[simp] theorem State.beginData_active (s : State) (p : PathId) (w : WindowPlace) :
    (s.beginData p w).active = s.active := by simp [State.beginData]
@[simp] theorem State.beginData_frozen (s : State) (p : PathId) (w : WindowPlace) :
    (s.beginData p w).frozen = s.frozen := by simp [State.beginData]
@[simp] theorem State.beginData_frozenLabel (s : State) (p : PathId) (w : WindowPlace) :
    (s.beginData p w).frozenLabel = s.frozenLabel := by simp [State.beginData]
@[simp] theorem State.beginData_freeCount (s : State) (p : PathId) (w : WindowPlace) :
    (s.beginData p w).freeCount = s.freeCount := by simp [State.beginData]
@[simp] theorem State.beginData_pending (s : State) (p : PathId) (w : WindowPlace) :
    (s.beginData p w).pending = s.pending := by simp [State.beginData]

@[simp] theorem State.slot_beginData (s : State) (p : PathId) (w : WindowPlace) (j : Fin 16) :
    (s.beginData p w).slot j = s.slot j := by simp [State.slot]
@[simp] theorem State.lane_beginData (s : State) (p : PathId) (w : WindowPlace) (m : Fin 4) :
    (s.beginData p w).lane m = s.lane m := by simp [State.lane]
@[simp] theorem State.now_beginData (s : State) (p : PathId) (w : WindowPlace) :
    (s.beginData p w).now = s.now := by simp [State.now]
@[simp] theorem State.entry_beginData (s : State) (p : PathId) (w : WindowPlace) (a : Nat) :
    (s.beginData p w).entry? a = s.entry? a := by simp [State.entry?]

/-- The other path sender stays. -/
@[simp] theorem State.beginData_other (s : State) (p : PathId) (w : WindowPlace) :
    (s.beginData p w).path (otherPath p) = s.path (otherPath p) := by simp [State.beginData]

@[simp] theorem State.beginMark_power (s : State) (p : PathId) (o : Byte) (r : PathSeq) :
    (s.beginMark p o r).power = s.power := by simp [State.beginMark]
@[simp] theorem State.beginMark_elapsed (s : State) (p : PathId) (o : Byte) (r : PathSeq) :
    (s.beginMark p o r).elapsed = s.elapsed := by simp [State.beginMark]
@[simp] theorem State.beginMark_params (s : State) (p : PathId) (o : Byte) (r : PathSeq) :
    (s.beginMark p o r).params = s.params := by simp [State.beginMark]
@[simp] theorem State.beginMark_store (s : State) (p : PathId) (o : Byte) (r : PathSeq) :
    (s.beginMark p o r).store = s.store := by simp [State.beginMark]
@[simp] theorem State.beginMark_slots (s : State) (p : PathId) (o : Byte) (r : PathSeq) :
    (s.beginMark p o r).slots = s.slots := by simp [State.beginMark]
@[simp] theorem State.beginMark_sumA (s : State) (p : PathId) (o : Byte) (r : PathSeq) :
    (s.beginMark p o r).sumA = s.sumA := by simp [State.beginMark]
@[simp] theorem State.beginMark_sumB (s : State) (p : PathId) (o : Byte) (r : PathSeq) :
    (s.beginMark p o r).sumB = s.sumB := by simp [State.beginMark]
@[simp] theorem State.beginMark_due (s : State) (p : PathId) (o : Byte) (r : PathSeq) :
    (s.beginMark p o r).due = s.due := by simp [State.beginMark]
@[simp] theorem State.beginMark_held (s : State) (p : PathId) (o : Byte) (r : PathSeq) :
    (s.beginMark p o r).held = s.held := by simp [State.beginMark]
@[simp] theorem State.beginMark_ring (s : State) (p : PathId) (o : Byte) (r : PathSeq) :
    (s.beginMark p o r).ring = s.ring := by simp [State.beginMark]
@[simp] theorem State.beginMark_ringMode (s : State) (p : PathId) (o : Byte) (r : PathSeq) :
    (s.beginMark p o r).ringMode = s.ringMode := by simp [State.beginMark]
@[simp] theorem State.beginMark_launcher (s : State) (p : PathId) (o : Byte) (r : PathSeq) :
    (s.beginMark p o r).launcher = s.launcher := by simp [State.beginMark]
@[simp] theorem State.beginMark_entries (s : State) (p : PathId) (o : Byte) (r : PathSeq) :
    (s.beginMark p o r).entries = s.entries := by simp [State.beginMark]
@[simp] theorem State.beginMark_cellMem (s : State) (p : PathId) (o : Byte) (r : PathSeq) :
    (s.beginMark p o r).cellMem = s.cellMem := by simp [State.beginMark]
@[simp] theorem State.beginMark_lanes (s : State) (p : PathId) (o : Byte) (r : PathSeq) :
    (s.beginMark p o r).lanes = s.lanes := by simp [State.beginMark]
@[simp] theorem State.beginMark_house (s : State) (p : PathId) (o : Byte) (r : PathSeq) :
    (s.beginMark p o r).house = s.house := by simp [State.beginMark]
@[simp] theorem State.beginMark_pattern (s : State) (p : PathId) (o : Byte) (r : PathSeq) :
    (s.beginMark p o r).pattern = s.pattern := by simp [State.beginMark]
@[simp] theorem State.beginMark_patternMem (s : State) (p : PathId) (o : Byte) (r : PathSeq) :
    (s.beginMark p o r).patternMem = s.patternMem := by simp [State.beginMark]
@[simp] theorem State.beginMark_port (s : State) (p : PathId) (o : Byte) (r : PathSeq) :
    (s.beginMark p o r).port = s.port := by simp [State.beginMark]
@[simp] theorem State.beginMark_frozen (s : State) (p : PathId) (o : Byte) (r : PathSeq) :
    (s.beginMark p o r).frozen = s.frozen := by simp [State.beginMark]
@[simp] theorem State.beginMark_frozenLabel (s : State) (p : PathId) (o : Byte) (r : PathSeq) :
    (s.beginMark p o r).frozenLabel = s.frozenLabel := by simp [State.beginMark]
@[simp] theorem State.beginMark_freeCount (s : State) (p : PathId) (o : Byte) (r : PathSeq) :
    (s.beginMark p o r).freeCount = s.freeCount := by simp [State.beginMark]
@[simp] theorem State.beginMark_pending (s : State) (p : PathId) (o : Byte) (r : PathSeq) :
    (s.beginMark p o r).pending = s.pending := by simp [State.beginMark]

@[simp] theorem State.slot_beginMark (s : State) (p : PathId) (o : Byte) (r : PathSeq) (j : Fin 16) :
    (s.beginMark p o r).slot j = s.slot j := by simp [State.slot]
@[simp] theorem State.lane_beginMark (s : State) (p : PathId) (o : Byte) (r : PathSeq) (m : Fin 4) :
    (s.beginMark p o r).lane m = s.lane m := by simp [State.lane]
@[simp] theorem State.now_beginMark (s : State) (p : PathId) (o : Byte) (r : PathSeq) :
    (s.beginMark p o r).now = s.now := by simp [State.now]
@[simp] theorem State.entry_beginMark (s : State) (p : PathId) (o : Byte) (r : PathSeq) (a : Nat) :
    (s.beginMark p o r).entry? a = s.entry? a := by simp [State.entry?]

/-- The other path sender stays. -/
@[simp] theorem State.beginMark_other (s : State) (p : PathId) (o : Byte) (r : PathSeq) :
    (s.beginMark p o r).path (otherPath p) = s.path (otherPath p) := by simp [State.beginMark]

@[simp] theorem State.path_beginData_self (s : State) (p : PathId) (w : WindowPlace) :
    (s.beginData p w).path p =
      { s.path p with
        line := .data w (s.elapsed + wireTime s.params.rate (((s.entry? w.entry).map fun e => e.payload).getD 0)) } := by
  simp [State.beginData]

@[simp] theorem State.path_beginMark_self (s : State) (p : PathId) (o : Byte) (r : PathSeq) :
    (s.beginMark p o r).path p =
      { s.path p with line := .mark o r (s.now % 2 ^ 32) (s.elapsed + markTime s.params.rate) } := by
  simp [State.beginMark]

/-! ## Backlog, window and line service -/

@[simp] theorem State.moveBacklog_power (s : State) (p : PathId) :
    (s.moveBacklog p).power = s.power := by unfold State.moveBacklog; split <;> simp
@[simp] theorem State.moveBacklog_elapsed (s : State) (p : PathId) :
    (s.moveBacklog p).elapsed = s.elapsed := by unfold State.moveBacklog; split <;> simp
@[simp] theorem State.moveBacklog_params (s : State) (p : PathId) :
    (s.moveBacklog p).params = s.params := by unfold State.moveBacklog; split <;> simp
@[simp] theorem State.moveBacklog_store (s : State) (p : PathId) :
    (s.moveBacklog p).store = s.store := by unfold State.moveBacklog; split <;> simp
@[simp] theorem State.moveBacklog_slots (s : State) (p : PathId) :
    (s.moveBacklog p).slots = s.slots := by unfold State.moveBacklog; split <;> simp
@[simp] theorem State.moveBacklog_sumA (s : State) (p : PathId) :
    (s.moveBacklog p).sumA = s.sumA := by unfold State.moveBacklog; split <;> simp
@[simp] theorem State.moveBacklog_sumB (s : State) (p : PathId) :
    (s.moveBacklog p).sumB = s.sumB := by unfold State.moveBacklog; split <;> simp
@[simp] theorem State.moveBacklog_due (s : State) (p : PathId) :
    (s.moveBacklog p).due = s.due := by unfold State.moveBacklog; split <;> simp
@[simp] theorem State.moveBacklog_held (s : State) (p : PathId) :
    (s.moveBacklog p).held = s.held := by unfold State.moveBacklog; split <;> simp
@[simp] theorem State.moveBacklog_ring (s : State) (p : PathId) :
    (s.moveBacklog p).ring = s.ring := by unfold State.moveBacklog; split <;> simp
@[simp] theorem State.moveBacklog_ringMode (s : State) (p : PathId) :
    (s.moveBacklog p).ringMode = s.ringMode := by unfold State.moveBacklog; split <;> simp
@[simp] theorem State.moveBacklog_launcher (s : State) (p : PathId) :
    (s.moveBacklog p).launcher = s.launcher := by unfold State.moveBacklog; split <;> simp
@[simp] theorem State.moveBacklog_cellMem (s : State) (p : PathId) :
    (s.moveBacklog p).cellMem = s.cellMem := by unfold State.moveBacklog; split <;> simp
@[simp] theorem State.moveBacklog_lanes (s : State) (p : PathId) :
    (s.moveBacklog p).lanes = s.lanes := by unfold State.moveBacklog; split <;> simp
@[simp] theorem State.moveBacklog_house (s : State) (p : PathId) :
    (s.moveBacklog p).house = s.house := by unfold State.moveBacklog; split <;> simp
@[simp] theorem State.moveBacklog_pattern (s : State) (p : PathId) :
    (s.moveBacklog p).pattern = s.pattern := by unfold State.moveBacklog; split <;> simp
@[simp] theorem State.moveBacklog_patternMem (s : State) (p : PathId) :
    (s.moveBacklog p).patternMem = s.patternMem := by unfold State.moveBacklog; split <;> simp
@[simp] theorem State.moveBacklog_port (s : State) (p : PathId) :
    (s.moveBacklog p).port = s.port := by unfold State.moveBacklog; split <;> simp
@[simp] theorem State.moveBacklog_active (s : State) (p : PathId) :
    (s.moveBacklog p).active = s.active := by unfold State.moveBacklog; split <;> simp
@[simp] theorem State.moveBacklog_frozen (s : State) (p : PathId) :
    (s.moveBacklog p).frozen = s.frozen := by unfold State.moveBacklog; split <;> simp
@[simp] theorem State.moveBacklog_frozenLabel (s : State) (p : PathId) :
    (s.moveBacklog p).frozenLabel = s.frozenLabel := by unfold State.moveBacklog; split <;> simp
@[simp] theorem State.moveBacklog_freeCount (s : State) (p : PathId) :
    (s.moveBacklog p).freeCount = s.freeCount := by unfold State.moveBacklog; split <;> simp
@[simp] theorem State.moveBacklog_pending (s : State) (p : PathId) :
    (s.moveBacklog p).pending = s.pending := by unfold State.moveBacklog; split <;> simp

@[simp] theorem State.slot_moveBacklog (s : State) (p : PathId) (j : Fin 16) :
    (s.moveBacklog p).slot j = s.slot j := by simp [State.slot]
@[simp] theorem State.lane_moveBacklog (s : State) (p : PathId) (m : Fin 4) :
    (s.moveBacklog p).lane m = s.lane m := by simp [State.lane]
@[simp] theorem State.now_moveBacklog (s : State) (p : PathId) :
    (s.moveBacklog p).now = s.now := by simp [State.now]

/-- The other path sender stays. -/
@[simp] theorem State.moveBacklog_other (s : State) (p : PathId) :
    (s.moveBacklog p).path (otherPath p) = s.path (otherPath p) := by unfold State.moveBacklog; split <;> simp

/-- A drain keeps any fact that one move of a backlog entry keeps. -/
theorem State.drainMoves_keeps (P : State → Prop) (p : PathId) (h : ∀ s, P s → P (s.moveBacklog p)) (n : Nat)
    (s : State) (hs : P s) : P (s.drainMoves p n) := by
  induction n generalizing s with
  | zero => exact hs
  | succ n ih =>
    unfold State.drainMoves
    split
    · exact ih _ (h s hs)
    · exact hs

@[simp] theorem State.drainMoves_power (s : State) (p : PathId) (n : Nat) :
    (s.drainMoves p n).power = s.power := 
  State.drainMoves_keeps (fun t => t.power = s.power) p (fun t h => by simpa using h) n s rfl
@[simp] theorem State.drainMoves_elapsed (s : State) (p : PathId) (n : Nat) :
    (s.drainMoves p n).elapsed = s.elapsed := 
  State.drainMoves_keeps (fun t => t.elapsed = s.elapsed) p (fun t h => by simpa using h) n s rfl
@[simp] theorem State.drainMoves_params (s : State) (p : PathId) (n : Nat) :
    (s.drainMoves p n).params = s.params := 
  State.drainMoves_keeps (fun t => t.params = s.params) p (fun t h => by simpa using h) n s rfl
@[simp] theorem State.drainMoves_store (s : State) (p : PathId) (n : Nat) :
    (s.drainMoves p n).store = s.store := 
  State.drainMoves_keeps (fun t => t.store = s.store) p (fun t h => by simpa using h) n s rfl
@[simp] theorem State.drainMoves_slots (s : State) (p : PathId) (n : Nat) :
    (s.drainMoves p n).slots = s.slots := 
  State.drainMoves_keeps (fun t => t.slots = s.slots) p (fun t h => by simpa using h) n s rfl
@[simp] theorem State.drainMoves_sumA (s : State) (p : PathId) (n : Nat) :
    (s.drainMoves p n).sumA = s.sumA := 
  State.drainMoves_keeps (fun t => t.sumA = s.sumA) p (fun t h => by simpa using h) n s rfl
@[simp] theorem State.drainMoves_sumB (s : State) (p : PathId) (n : Nat) :
    (s.drainMoves p n).sumB = s.sumB := 
  State.drainMoves_keeps (fun t => t.sumB = s.sumB) p (fun t h => by simpa using h) n s rfl
@[simp] theorem State.drainMoves_due (s : State) (p : PathId) (n : Nat) :
    (s.drainMoves p n).due = s.due := 
  State.drainMoves_keeps (fun t => t.due = s.due) p (fun t h => by simpa using h) n s rfl
@[simp] theorem State.drainMoves_held (s : State) (p : PathId) (n : Nat) :
    (s.drainMoves p n).held = s.held := 
  State.drainMoves_keeps (fun t => t.held = s.held) p (fun t h => by simpa using h) n s rfl
@[simp] theorem State.drainMoves_ring (s : State) (p : PathId) (n : Nat) :
    (s.drainMoves p n).ring = s.ring := 
  State.drainMoves_keeps (fun t => t.ring = s.ring) p (fun t h => by simpa using h) n s rfl
@[simp] theorem State.drainMoves_ringMode (s : State) (p : PathId) (n : Nat) :
    (s.drainMoves p n).ringMode = s.ringMode := 
  State.drainMoves_keeps (fun t => t.ringMode = s.ringMode) p (fun t h => by simpa using h) n s rfl
@[simp] theorem State.drainMoves_launcher (s : State) (p : PathId) (n : Nat) :
    (s.drainMoves p n).launcher = s.launcher := 
  State.drainMoves_keeps (fun t => t.launcher = s.launcher) p (fun t h => by simpa using h) n s rfl
@[simp] theorem State.drainMoves_cellMem (s : State) (p : PathId) (n : Nat) :
    (s.drainMoves p n).cellMem = s.cellMem := 
  State.drainMoves_keeps (fun t => t.cellMem = s.cellMem) p (fun t h => by simpa using h) n s rfl
@[simp] theorem State.drainMoves_lanes (s : State) (p : PathId) (n : Nat) :
    (s.drainMoves p n).lanes = s.lanes := 
  State.drainMoves_keeps (fun t => t.lanes = s.lanes) p (fun t h => by simpa using h) n s rfl
@[simp] theorem State.drainMoves_house (s : State) (p : PathId) (n : Nat) :
    (s.drainMoves p n).house = s.house := 
  State.drainMoves_keeps (fun t => t.house = s.house) p (fun t h => by simpa using h) n s rfl
@[simp] theorem State.drainMoves_pattern (s : State) (p : PathId) (n : Nat) :
    (s.drainMoves p n).pattern = s.pattern := 
  State.drainMoves_keeps (fun t => t.pattern = s.pattern) p (fun t h => by simpa using h) n s rfl
@[simp] theorem State.drainMoves_patternMem (s : State) (p : PathId) (n : Nat) :
    (s.drainMoves p n).patternMem = s.patternMem := 
  State.drainMoves_keeps (fun t => t.patternMem = s.patternMem) p (fun t h => by simpa using h) n s rfl
@[simp] theorem State.drainMoves_port (s : State) (p : PathId) (n : Nat) :
    (s.drainMoves p n).port = s.port := 
  State.drainMoves_keeps (fun t => t.port = s.port) p (fun t h => by simpa using h) n s rfl
@[simp] theorem State.drainMoves_active (s : State) (p : PathId) (n : Nat) :
    (s.drainMoves p n).active = s.active := 
  State.drainMoves_keeps (fun t => t.active = s.active) p (fun t h => by simpa using h) n s rfl
@[simp] theorem State.drainMoves_frozen (s : State) (p : PathId) (n : Nat) :
    (s.drainMoves p n).frozen = s.frozen := 
  State.drainMoves_keeps (fun t => t.frozen = s.frozen) p (fun t h => by simpa using h) n s rfl
@[simp] theorem State.drainMoves_frozenLabel (s : State) (p : PathId) (n : Nat) :
    (s.drainMoves p n).frozenLabel = s.frozenLabel := 
  State.drainMoves_keeps (fun t => t.frozenLabel = s.frozenLabel) p (fun t h => by simpa using h) n s rfl
@[simp] theorem State.drainMoves_freeCount (s : State) (p : PathId) (n : Nat) :
    (s.drainMoves p n).freeCount = s.freeCount := 
  State.drainMoves_keeps (fun t => t.freeCount = s.freeCount) p (fun t h => by simpa using h) n s rfl
@[simp] theorem State.drainMoves_pending (s : State) (p : PathId) (n : Nat) :
    (s.drainMoves p n).pending = s.pending := 
  State.drainMoves_keeps (fun t => t.pending = s.pending) p (fun t h => by simpa using h) n s rfl

@[simp] theorem State.slot_drainMoves (s : State) (p : PathId) (n : Nat) (j : Fin 16) :
    (s.drainMoves p n).slot j = s.slot j := by simp [State.slot]
@[simp] theorem State.lane_drainMoves (s : State) (p : PathId) (n : Nat) (m : Fin 4) :
    (s.drainMoves p n).lane m = s.lane m := by simp [State.lane]
@[simp] theorem State.now_drainMoves (s : State) (p : PathId) (n : Nat) :
    (s.drainMoves p n).now = s.now := by simp [State.now]

/-- The other path sender stays. -/
@[simp] theorem State.drainMoves_other (s : State) (p : PathId) (n : Nat) :
    (s.drainMoves p n).path (otherPath p) = s.path (otherPath p) := 
  State.drainMoves_keeps (fun t => t.path (otherPath p) = s.path (otherPath p)) p (fun t h => by simpa using h) n s rfl

@[simp] theorem State.drain_power (s : State) (p : PathId) :
    (s.drain p).power = s.power := by unfold State.drain; split <;> simp
@[simp] theorem State.drain_elapsed (s : State) (p : PathId) :
    (s.drain p).elapsed = s.elapsed := by unfold State.drain; split <;> simp
@[simp] theorem State.drain_params (s : State) (p : PathId) :
    (s.drain p).params = s.params := by unfold State.drain; split <;> simp
@[simp] theorem State.drain_store (s : State) (p : PathId) :
    (s.drain p).store = s.store := by unfold State.drain; split <;> simp
@[simp] theorem State.drain_slots (s : State) (p : PathId) :
    (s.drain p).slots = s.slots := by unfold State.drain; split <;> simp
@[simp] theorem State.drain_sumA (s : State) (p : PathId) :
    (s.drain p).sumA = s.sumA := by unfold State.drain; split <;> simp
@[simp] theorem State.drain_sumB (s : State) (p : PathId) :
    (s.drain p).sumB = s.sumB := by unfold State.drain; split <;> simp
@[simp] theorem State.drain_due (s : State) (p : PathId) :
    (s.drain p).due = s.due := by unfold State.drain; split <;> simp
@[simp] theorem State.drain_held (s : State) (p : PathId) :
    (s.drain p).held = s.held := by unfold State.drain; split <;> simp
@[simp] theorem State.drain_ring (s : State) (p : PathId) :
    (s.drain p).ring = s.ring := by unfold State.drain; split <;> simp
@[simp] theorem State.drain_ringMode (s : State) (p : PathId) :
    (s.drain p).ringMode = s.ringMode := by unfold State.drain; split <;> simp
@[simp] theorem State.drain_launcher (s : State) (p : PathId) :
    (s.drain p).launcher = s.launcher := by unfold State.drain; split <;> simp
@[simp] theorem State.drain_cellMem (s : State) (p : PathId) :
    (s.drain p).cellMem = s.cellMem := by unfold State.drain; split <;> simp
@[simp] theorem State.drain_lanes (s : State) (p : PathId) :
    (s.drain p).lanes = s.lanes := by unfold State.drain; split <;> simp
@[simp] theorem State.drain_house (s : State) (p : PathId) :
    (s.drain p).house = s.house := by unfold State.drain; split <;> simp
@[simp] theorem State.drain_pattern (s : State) (p : PathId) :
    (s.drain p).pattern = s.pattern := by unfold State.drain; split <;> simp
@[simp] theorem State.drain_patternMem (s : State) (p : PathId) :
    (s.drain p).patternMem = s.patternMem := by unfold State.drain; split <;> simp
@[simp] theorem State.drain_port (s : State) (p : PathId) :
    (s.drain p).port = s.port := by unfold State.drain; split <;> simp
@[simp] theorem State.drain_active (s : State) (p : PathId) :
    (s.drain p).active = s.active := by unfold State.drain; split <;> simp
@[simp] theorem State.drain_frozen (s : State) (p : PathId) :
    (s.drain p).frozen = s.frozen := by unfold State.drain; split <;> simp
@[simp] theorem State.drain_frozenLabel (s : State) (p : PathId) :
    (s.drain p).frozenLabel = s.frozenLabel := by unfold State.drain; split <;> simp
@[simp] theorem State.drain_freeCount (s : State) (p : PathId) :
    (s.drain p).freeCount = s.freeCount := by unfold State.drain; split <;> simp
@[simp] theorem State.drain_pending (s : State) (p : PathId) :
    (s.drain p).pending = s.pending := by unfold State.drain; split <;> simp

@[simp] theorem State.slot_drain (s : State) (p : PathId) (j : Fin 16) :
    (s.drain p).slot j = s.slot j := by simp [State.slot]
@[simp] theorem State.lane_drain (s : State) (p : PathId) (m : Fin 4) :
    (s.drain p).lane m = s.lane m := by simp [State.lane]
@[simp] theorem State.now_drain (s : State) (p : PathId) :
    (s.drain p).now = s.now := by simp [State.now]

/-- The other path sender stays. -/
@[simp] theorem State.drain_other (s : State) (p : PathId) :
    (s.drain p).path (otherPath p) = s.path (otherPath p) := by unfold State.drain; split <;> simp

@[simp] theorem State.serveSending_power (s : State) (p : PathId) :
    (s.serveSending p).power = s.power := by unfold State.serveSending; split <;> simp
@[simp] theorem State.serveSending_elapsed (s : State) (p : PathId) :
    (s.serveSending p).elapsed = s.elapsed := by unfold State.serveSending; split <;> simp
@[simp] theorem State.serveSending_params (s : State) (p : PathId) :
    (s.serveSending p).params = s.params := by unfold State.serveSending; split <;> simp
@[simp] theorem State.serveSending_store (s : State) (p : PathId) :
    (s.serveSending p).store = s.store := by unfold State.serveSending; split <;> simp
@[simp] theorem State.serveSending_slots (s : State) (p : PathId) :
    (s.serveSending p).slots = s.slots := by unfold State.serveSending; split <;> simp
@[simp] theorem State.serveSending_sumA (s : State) (p : PathId) :
    (s.serveSending p).sumA = s.sumA := by unfold State.serveSending; split <;> simp
@[simp] theorem State.serveSending_sumB (s : State) (p : PathId) :
    (s.serveSending p).sumB = s.sumB := by unfold State.serveSending; split <;> simp
@[simp] theorem State.serveSending_due (s : State) (p : PathId) :
    (s.serveSending p).due = s.due := by unfold State.serveSending; split <;> simp
@[simp] theorem State.serveSending_held (s : State) (p : PathId) :
    (s.serveSending p).held = s.held := by unfold State.serveSending; split <;> simp
@[simp] theorem State.serveSending_ring (s : State) (p : PathId) :
    (s.serveSending p).ring = s.ring := by unfold State.serveSending; split <;> simp
@[simp] theorem State.serveSending_ringMode (s : State) (p : PathId) :
    (s.serveSending p).ringMode = s.ringMode := by unfold State.serveSending; split <;> simp
@[simp] theorem State.serveSending_launcher (s : State) (p : PathId) :
    (s.serveSending p).launcher = s.launcher := by unfold State.serveSending; split <;> simp
@[simp] theorem State.serveSending_entries (s : State) (p : PathId) :
    (s.serveSending p).entries = s.entries := by unfold State.serveSending; split <;> simp
@[simp] theorem State.serveSending_cellMem (s : State) (p : PathId) :
    (s.serveSending p).cellMem = s.cellMem := by unfold State.serveSending; split <;> simp
@[simp] theorem State.serveSending_lanes (s : State) (p : PathId) :
    (s.serveSending p).lanes = s.lanes := by unfold State.serveSending; split <;> simp
@[simp] theorem State.serveSending_house (s : State) (p : PathId) :
    (s.serveSending p).house = s.house := by unfold State.serveSending; split <;> simp
@[simp] theorem State.serveSending_pattern (s : State) (p : PathId) :
    (s.serveSending p).pattern = s.pattern := by unfold State.serveSending; split <;> simp
@[simp] theorem State.serveSending_patternMem (s : State) (p : PathId) :
    (s.serveSending p).patternMem = s.patternMem := by unfold State.serveSending; split <;> simp
@[simp] theorem State.serveSending_port (s : State) (p : PathId) :
    (s.serveSending p).port = s.port := by unfold State.serveSending; split <;> simp
@[simp] theorem State.serveSending_frozen (s : State) (p : PathId) :
    (s.serveSending p).frozen = s.frozen := by unfold State.serveSending; split <;> simp
@[simp] theorem State.serveSending_frozenLabel (s : State) (p : PathId) :
    (s.serveSending p).frozenLabel = s.frozenLabel := by unfold State.serveSending; split <;> simp
@[simp] theorem State.serveSending_freeCount (s : State) (p : PathId) :
    (s.serveSending p).freeCount = s.freeCount := by unfold State.serveSending; split <;> simp
@[simp] theorem State.serveSending_pending (s : State) (p : PathId) :
    (s.serveSending p).pending = s.pending := by unfold State.serveSending; split <;> simp

@[simp] theorem State.slot_serveSending (s : State) (p : PathId) (j : Fin 16) :
    (s.serveSending p).slot j = s.slot j := by simp [State.slot]
@[simp] theorem State.lane_serveSending (s : State) (p : PathId) (m : Fin 4) :
    (s.serveSending p).lane m = s.lane m := by simp [State.lane]
@[simp] theorem State.now_serveSending (s : State) (p : PathId) :
    (s.serveSending p).now = s.now := by simp [State.now]
@[simp] theorem State.entry_serveSending (s : State) (p : PathId) (a : Nat) :
    (s.serveSending p).entry? a = s.entry? a := by simp [State.entry?]

/-- The other path sender stays. -/
@[simp] theorem State.serveSending_other (s : State) (p : PathId) :
    (s.serveSending p).path (otherPath p) = s.path (otherPath p) := by unfold State.serveSending; split <;> simp

@[simp] theorem State.returnToSending_power (s : State) (p : PathId) :
    (s.returnToSending p).power = s.power := by simp [State.returnToSending]
@[simp] theorem State.returnToSending_elapsed (s : State) (p : PathId) :
    (s.returnToSending p).elapsed = s.elapsed := by simp [State.returnToSending]
@[simp] theorem State.returnToSending_params (s : State) (p : PathId) :
    (s.returnToSending p).params = s.params := by simp [State.returnToSending]
@[simp] theorem State.returnToSending_store (s : State) (p : PathId) :
    (s.returnToSending p).store = s.store := by simp [State.returnToSending]
@[simp] theorem State.returnToSending_slots (s : State) (p : PathId) :
    (s.returnToSending p).slots = s.slots := by simp [State.returnToSending]
@[simp] theorem State.returnToSending_sumA (s : State) (p : PathId) :
    (s.returnToSending p).sumA = s.sumA := by simp [State.returnToSending]
@[simp] theorem State.returnToSending_sumB (s : State) (p : PathId) :
    (s.returnToSending p).sumB = s.sumB := by simp [State.returnToSending]
@[simp] theorem State.returnToSending_due (s : State) (p : PathId) :
    (s.returnToSending p).due = s.due := by simp [State.returnToSending]
@[simp] theorem State.returnToSending_held (s : State) (p : PathId) :
    (s.returnToSending p).held = s.held := by simp [State.returnToSending]
@[simp] theorem State.returnToSending_ring (s : State) (p : PathId) :
    (s.returnToSending p).ring = s.ring := by simp [State.returnToSending]
@[simp] theorem State.returnToSending_ringMode (s : State) (p : PathId) :
    (s.returnToSending p).ringMode = s.ringMode := by simp [State.returnToSending]
@[simp] theorem State.returnToSending_launcher (s : State) (p : PathId) :
    (s.returnToSending p).launcher = s.launcher := by simp [State.returnToSending]
@[simp] theorem State.returnToSending_cellMem (s : State) (p : PathId) :
    (s.returnToSending p).cellMem = s.cellMem := by simp [State.returnToSending]
@[simp] theorem State.returnToSending_lanes (s : State) (p : PathId) :
    (s.returnToSending p).lanes = s.lanes := by simp [State.returnToSending]
@[simp] theorem State.returnToSending_house (s : State) (p : PathId) :
    (s.returnToSending p).house = s.house := by simp [State.returnToSending]
@[simp] theorem State.returnToSending_pattern (s : State) (p : PathId) :
    (s.returnToSending p).pattern = s.pattern := by simp [State.returnToSending]
@[simp] theorem State.returnToSending_patternMem (s : State) (p : PathId) :
    (s.returnToSending p).patternMem = s.patternMem := by simp [State.returnToSending]
@[simp] theorem State.returnToSending_port (s : State) (p : PathId) :
    (s.returnToSending p).port = s.port := by simp [State.returnToSending]
@[simp] theorem State.returnToSending_frozen (s : State) (p : PathId) :
    (s.returnToSending p).frozen = s.frozen := by simp [State.returnToSending]
@[simp] theorem State.returnToSending_frozenLabel (s : State) (p : PathId) :
    (s.returnToSending p).frozenLabel = s.frozenLabel := by simp [State.returnToSending]
@[simp] theorem State.returnToSending_freeCount (s : State) (p : PathId) :
    (s.returnToSending p).freeCount = s.freeCount := by simp [State.returnToSending]
@[simp] theorem State.returnToSending_pending (s : State) (p : PathId) :
    (s.returnToSending p).pending = s.pending := by simp [State.returnToSending]

@[simp] theorem State.slot_returnToSending (s : State) (p : PathId) (j : Fin 16) :
    (s.returnToSending p).slot j = s.slot j := by simp [State.slot]
@[simp] theorem State.lane_returnToSending (s : State) (p : PathId) (m : Fin 4) :
    (s.returnToSending p).lane m = s.lane m := by simp [State.lane]
@[simp] theorem State.now_returnToSending (s : State) (p : PathId) :
    (s.returnToSending p).now = s.now := by simp [State.now]

/-- The other path sender stays. -/
@[simp] theorem State.returnToSending_other (s : State) (p : PathId) :
    (s.returnToSending p).path (otherPath p) = s.path (otherPath p) := by simp [State.returnToSending]

@[simp] theorem State.serveReplaying_power (s : State) (p : PathId) :
    (s.serveReplaying p).power = s.power := by unfold State.serveReplaying; dsimp only; split <;> (try split) <;> simp
@[simp] theorem State.serveReplaying_elapsed (s : State) (p : PathId) :
    (s.serveReplaying p).elapsed = s.elapsed := by unfold State.serveReplaying; dsimp only; split <;> (try split) <;> simp
@[simp] theorem State.serveReplaying_params (s : State) (p : PathId) :
    (s.serveReplaying p).params = s.params := by unfold State.serveReplaying; dsimp only; split <;> (try split) <;> simp
@[simp] theorem State.serveReplaying_store (s : State) (p : PathId) :
    (s.serveReplaying p).store = s.store := by unfold State.serveReplaying; dsimp only; split <;> (try split) <;> simp
@[simp] theorem State.serveReplaying_slots (s : State) (p : PathId) :
    (s.serveReplaying p).slots = s.slots := by unfold State.serveReplaying; dsimp only; split <;> (try split) <;> simp
@[simp] theorem State.serveReplaying_sumA (s : State) (p : PathId) :
    (s.serveReplaying p).sumA = s.sumA := by unfold State.serveReplaying; dsimp only; split <;> (try split) <;> simp
@[simp] theorem State.serveReplaying_sumB (s : State) (p : PathId) :
    (s.serveReplaying p).sumB = s.sumB := by unfold State.serveReplaying; dsimp only; split <;> (try split) <;> simp
@[simp] theorem State.serveReplaying_due (s : State) (p : PathId) :
    (s.serveReplaying p).due = s.due := by unfold State.serveReplaying; dsimp only; split <;> (try split) <;> simp
@[simp] theorem State.serveReplaying_held (s : State) (p : PathId) :
    (s.serveReplaying p).held = s.held := by unfold State.serveReplaying; dsimp only; split <;> (try split) <;> simp
@[simp] theorem State.serveReplaying_ring (s : State) (p : PathId) :
    (s.serveReplaying p).ring = s.ring := by unfold State.serveReplaying; dsimp only; split <;> (try split) <;> simp
@[simp] theorem State.serveReplaying_ringMode (s : State) (p : PathId) :
    (s.serveReplaying p).ringMode = s.ringMode := by unfold State.serveReplaying; dsimp only; split <;> (try split) <;> simp
@[simp] theorem State.serveReplaying_launcher (s : State) (p : PathId) :
    (s.serveReplaying p).launcher = s.launcher := by unfold State.serveReplaying; dsimp only; split <;> (try split) <;> simp
@[simp] theorem State.serveReplaying_cellMem (s : State) (p : PathId) :
    (s.serveReplaying p).cellMem = s.cellMem := by unfold State.serveReplaying; dsimp only; split <;> (try split) <;> simp
@[simp] theorem State.serveReplaying_lanes (s : State) (p : PathId) :
    (s.serveReplaying p).lanes = s.lanes := by unfold State.serveReplaying; dsimp only; split <;> (try split) <;> simp
@[simp] theorem State.serveReplaying_house (s : State) (p : PathId) :
    (s.serveReplaying p).house = s.house := by unfold State.serveReplaying; dsimp only; split <;> (try split) <;> simp
@[simp] theorem State.serveReplaying_pattern (s : State) (p : PathId) :
    (s.serveReplaying p).pattern = s.pattern := by unfold State.serveReplaying; dsimp only; split <;> (try split) <;> simp
@[simp] theorem State.serveReplaying_patternMem (s : State) (p : PathId) :
    (s.serveReplaying p).patternMem = s.patternMem := by unfold State.serveReplaying; dsimp only; split <;> (try split) <;> simp
@[simp] theorem State.serveReplaying_port (s : State) (p : PathId) :
    (s.serveReplaying p).port = s.port := by unfold State.serveReplaying; dsimp only; split <;> (try split) <;> simp
@[simp] theorem State.serveReplaying_frozen (s : State) (p : PathId) :
    (s.serveReplaying p).frozen = s.frozen := by unfold State.serveReplaying; dsimp only; split <;> (try split) <;> simp
@[simp] theorem State.serveReplaying_frozenLabel (s : State) (p : PathId) :
    (s.serveReplaying p).frozenLabel = s.frozenLabel := by unfold State.serveReplaying; dsimp only; split <;> (try split) <;> simp
@[simp] theorem State.serveReplaying_freeCount (s : State) (p : PathId) :
    (s.serveReplaying p).freeCount = s.freeCount := by unfold State.serveReplaying; dsimp only; split <;> (try split) <;> simp
@[simp] theorem State.serveReplaying_pending (s : State) (p : PathId) :
    (s.serveReplaying p).pending = s.pending := by unfold State.serveReplaying; dsimp only; split <;> (try split) <;> simp

@[simp] theorem State.slot_serveReplaying (s : State) (p : PathId) (j : Fin 16) :
    (s.serveReplaying p).slot j = s.slot j := by simp [State.slot]
@[simp] theorem State.lane_serveReplaying (s : State) (p : PathId) (m : Fin 4) :
    (s.serveReplaying p).lane m = s.lane m := by simp [State.lane]
@[simp] theorem State.now_serveReplaying (s : State) (p : PathId) :
    (s.serveReplaying p).now = s.now := by simp [State.now]

/-- The other path sender stays. -/
@[simp] theorem State.serveReplaying_other (s : State) (p : PathId) :
    (s.serveReplaying p).path (otherPath p) = s.path (otherPath p) := by unfold State.serveReplaying; dsimp only; split <;> (try split) <;> simp

@[simp] theorem State.endBurst_power (s : State) (p : PathId) :
    (s.endBurst p).power = s.power := by unfold State.endBurst; split <;> simp
@[simp] theorem State.endBurst_elapsed (s : State) (p : PathId) :
    (s.endBurst p).elapsed = s.elapsed := by unfold State.endBurst; split <;> simp
@[simp] theorem State.endBurst_params (s : State) (p : PathId) :
    (s.endBurst p).params = s.params := by unfold State.endBurst; split <;> simp
@[simp] theorem State.endBurst_store (s : State) (p : PathId) :
    (s.endBurst p).store = s.store := by unfold State.endBurst; split <;> simp
@[simp] theorem State.endBurst_slots (s : State) (p : PathId) :
    (s.endBurst p).slots = s.slots := by unfold State.endBurst; split <;> simp
@[simp] theorem State.endBurst_sumA (s : State) (p : PathId) :
    (s.endBurst p).sumA = s.sumA := by unfold State.endBurst; split <;> simp
@[simp] theorem State.endBurst_sumB (s : State) (p : PathId) :
    (s.endBurst p).sumB = s.sumB := by unfold State.endBurst; split <;> simp
@[simp] theorem State.endBurst_due (s : State) (p : PathId) :
    (s.endBurst p).due = s.due := by unfold State.endBurst; split <;> simp
@[simp] theorem State.endBurst_held (s : State) (p : PathId) :
    (s.endBurst p).held = s.held := by unfold State.endBurst; split <;> simp
@[simp] theorem State.endBurst_ring (s : State) (p : PathId) :
    (s.endBurst p).ring = s.ring := by unfold State.endBurst; split <;> simp
@[simp] theorem State.endBurst_ringMode (s : State) (p : PathId) :
    (s.endBurst p).ringMode = s.ringMode := by unfold State.endBurst; split <;> simp
@[simp] theorem State.endBurst_launcher (s : State) (p : PathId) :
    (s.endBurst p).launcher = s.launcher := by unfold State.endBurst; split <;> simp
@[simp] theorem State.endBurst_cellMem (s : State) (p : PathId) :
    (s.endBurst p).cellMem = s.cellMem := by unfold State.endBurst; split <;> simp
@[simp] theorem State.endBurst_lanes (s : State) (p : PathId) :
    (s.endBurst p).lanes = s.lanes := by unfold State.endBurst; split <;> simp
@[simp] theorem State.endBurst_house (s : State) (p : PathId) :
    (s.endBurst p).house = s.house := by unfold State.endBurst; split <;> simp
@[simp] theorem State.endBurst_pattern (s : State) (p : PathId) :
    (s.endBurst p).pattern = s.pattern := by unfold State.endBurst; split <;> simp
@[simp] theorem State.endBurst_patternMem (s : State) (p : PathId) :
    (s.endBurst p).patternMem = s.patternMem := by unfold State.endBurst; split <;> simp
@[simp] theorem State.endBurst_port (s : State) (p : PathId) :
    (s.endBurst p).port = s.port := by unfold State.endBurst; split <;> simp
@[simp] theorem State.endBurst_frozen (s : State) (p : PathId) :
    (s.endBurst p).frozen = s.frozen := by unfold State.endBurst; split <;> simp
@[simp] theorem State.endBurst_frozenLabel (s : State) (p : PathId) :
    (s.endBurst p).frozenLabel = s.frozenLabel := by unfold State.endBurst; split <;> simp
@[simp] theorem State.endBurst_freeCount (s : State) (p : PathId) :
    (s.endBurst p).freeCount = s.freeCount := by unfold State.endBurst; split <;> simp
@[simp] theorem State.endBurst_pending (s : State) (p : PathId) :
    (s.endBurst p).pending = s.pending := by unfold State.endBurst; split <;> simp

@[simp] theorem State.slot_endBurst (s : State) (p : PathId) (j : Fin 16) :
    (s.endBurst p).slot j = s.slot j := by simp [State.slot]
@[simp] theorem State.lane_endBurst (s : State) (p : PathId) (m : Fin 4) :
    (s.endBurst p).lane m = s.lane m := by simp [State.lane]
@[simp] theorem State.now_endBurst (s : State) (p : PathId) :
    (s.endBurst p).now = s.now := by simp [State.now]

/-- The other path sender stays. -/
@[simp] theorem State.endBurst_other (s : State) (p : PathId) :
    (s.endBurst p).path (otherPath p) = s.path (otherPath p) := by unfold State.endBurst; split <;> simp

@[simp] theorem State.serveMarking_power (s : State) (p : PathId) :
    (s.serveMarking p).power = s.power := by unfold State.serveMarking; dsimp only; split <;> simp
@[simp] theorem State.serveMarking_elapsed (s : State) (p : PathId) :
    (s.serveMarking p).elapsed = s.elapsed := by unfold State.serveMarking; dsimp only; split <;> simp
@[simp] theorem State.serveMarking_params (s : State) (p : PathId) :
    (s.serveMarking p).params = s.params := by unfold State.serveMarking; dsimp only; split <;> simp
@[simp] theorem State.serveMarking_store (s : State) (p : PathId) :
    (s.serveMarking p).store = s.store := by unfold State.serveMarking; dsimp only; split <;> simp
@[simp] theorem State.serveMarking_slots (s : State) (p : PathId) :
    (s.serveMarking p).slots = s.slots := by unfold State.serveMarking; dsimp only; split <;> simp
@[simp] theorem State.serveMarking_sumA (s : State) (p : PathId) :
    (s.serveMarking p).sumA = s.sumA := by unfold State.serveMarking; dsimp only; split <;> simp
@[simp] theorem State.serveMarking_sumB (s : State) (p : PathId) :
    (s.serveMarking p).sumB = s.sumB := by unfold State.serveMarking; dsimp only; split <;> simp
@[simp] theorem State.serveMarking_due (s : State) (p : PathId) :
    (s.serveMarking p).due = s.due := by unfold State.serveMarking; dsimp only; split <;> simp
@[simp] theorem State.serveMarking_held (s : State) (p : PathId) :
    (s.serveMarking p).held = s.held := by unfold State.serveMarking; dsimp only; split <;> simp
@[simp] theorem State.serveMarking_ring (s : State) (p : PathId) :
    (s.serveMarking p).ring = s.ring := by unfold State.serveMarking; dsimp only; split <;> simp
@[simp] theorem State.serveMarking_ringMode (s : State) (p : PathId) :
    (s.serveMarking p).ringMode = s.ringMode := by unfold State.serveMarking; dsimp only; split <;> simp
@[simp] theorem State.serveMarking_launcher (s : State) (p : PathId) :
    (s.serveMarking p).launcher = s.launcher := by unfold State.serveMarking; dsimp only; split <;> simp
@[simp] theorem State.serveMarking_cellMem (s : State) (p : PathId) :
    (s.serveMarking p).cellMem = s.cellMem := by unfold State.serveMarking; dsimp only; split <;> simp
@[simp] theorem State.serveMarking_lanes (s : State) (p : PathId) :
    (s.serveMarking p).lanes = s.lanes := by unfold State.serveMarking; dsimp only; split <;> simp
@[simp] theorem State.serveMarking_house (s : State) (p : PathId) :
    (s.serveMarking p).house = s.house := by unfold State.serveMarking; dsimp only; split <;> simp
@[simp] theorem State.serveMarking_pattern (s : State) (p : PathId) :
    (s.serveMarking p).pattern = s.pattern := by unfold State.serveMarking; dsimp only; split <;> simp
@[simp] theorem State.serveMarking_patternMem (s : State) (p : PathId) :
    (s.serveMarking p).patternMem = s.patternMem := by unfold State.serveMarking; dsimp only; split <;> simp
@[simp] theorem State.serveMarking_port (s : State) (p : PathId) :
    (s.serveMarking p).port = s.port := by unfold State.serveMarking; dsimp only; split <;> simp
@[simp] theorem State.serveMarking_frozen (s : State) (p : PathId) :
    (s.serveMarking p).frozen = s.frozen := by unfold State.serveMarking; dsimp only; split <;> simp
@[simp] theorem State.serveMarking_frozenLabel (s : State) (p : PathId) :
    (s.serveMarking p).frozenLabel = s.frozenLabel := by unfold State.serveMarking; dsimp only; split <;> simp
@[simp] theorem State.serveMarking_freeCount (s : State) (p : PathId) :
    (s.serveMarking p).freeCount = s.freeCount := by unfold State.serveMarking; dsimp only; split <;> simp
@[simp] theorem State.serveMarking_pending (s : State) (p : PathId) :
    (s.serveMarking p).pending = s.pending := by unfold State.serveMarking; dsimp only; split <;> simp

@[simp] theorem State.slot_serveMarking (s : State) (p : PathId) (j : Fin 16) :
    (s.serveMarking p).slot j = s.slot j := by simp [State.slot]
@[simp] theorem State.lane_serveMarking (s : State) (p : PathId) (m : Fin 4) :
    (s.serveMarking p).lane m = s.lane m := by simp [State.lane]
@[simp] theorem State.now_serveMarking (s : State) (p : PathId) :
    (s.serveMarking p).now = s.now := by simp [State.now]

/-- The other path sender stays. -/
@[simp] theorem State.serveMarking_other (s : State) (p : PathId) :
    (s.serveMarking p).path (otherPath p) = s.path (otherPath p) := by unfold State.serveMarking; dsimp only; split <;> simp

@[simp] theorem State.enterMarking_power (s : State) (p : PathId) :
    (s.enterMarking p).power = s.power := by simp [State.enterMarking]
@[simp] theorem State.enterMarking_elapsed (s : State) (p : PathId) :
    (s.enterMarking p).elapsed = s.elapsed := by simp [State.enterMarking]
@[simp] theorem State.enterMarking_params (s : State) (p : PathId) :
    (s.enterMarking p).params = s.params := by simp [State.enterMarking]
@[simp] theorem State.enterMarking_store (s : State) (p : PathId) :
    (s.enterMarking p).store = s.store := by simp [State.enterMarking]
@[simp] theorem State.enterMarking_slots (s : State) (p : PathId) :
    (s.enterMarking p).slots = s.slots := by simp [State.enterMarking]
@[simp] theorem State.enterMarking_sumA (s : State) (p : PathId) :
    (s.enterMarking p).sumA = s.sumA := by simp [State.enterMarking]
@[simp] theorem State.enterMarking_sumB (s : State) (p : PathId) :
    (s.enterMarking p).sumB = s.sumB := by simp [State.enterMarking]
@[simp] theorem State.enterMarking_due (s : State) (p : PathId) :
    (s.enterMarking p).due = s.due := by simp [State.enterMarking]
@[simp] theorem State.enterMarking_held (s : State) (p : PathId) :
    (s.enterMarking p).held = s.held := by simp [State.enterMarking]
@[simp] theorem State.enterMarking_ring (s : State) (p : PathId) :
    (s.enterMarking p).ring = s.ring := by simp [State.enterMarking]
@[simp] theorem State.enterMarking_ringMode (s : State) (p : PathId) :
    (s.enterMarking p).ringMode = s.ringMode := by simp [State.enterMarking]
@[simp] theorem State.enterMarking_launcher (s : State) (p : PathId) :
    (s.enterMarking p).launcher = s.launcher := by simp [State.enterMarking]
@[simp] theorem State.enterMarking_cellMem (s : State) (p : PathId) :
    (s.enterMarking p).cellMem = s.cellMem := by simp [State.enterMarking]
@[simp] theorem State.enterMarking_lanes (s : State) (p : PathId) :
    (s.enterMarking p).lanes = s.lanes := by simp [State.enterMarking]
@[simp] theorem State.enterMarking_house (s : State) (p : PathId) :
    (s.enterMarking p).house = s.house := by simp [State.enterMarking]
@[simp] theorem State.enterMarking_pattern (s : State) (p : PathId) :
    (s.enterMarking p).pattern = s.pattern := by simp [State.enterMarking]
@[simp] theorem State.enterMarking_patternMem (s : State) (p : PathId) :
    (s.enterMarking p).patternMem = s.patternMem := by simp [State.enterMarking]
@[simp] theorem State.enterMarking_port (s : State) (p : PathId) :
    (s.enterMarking p).port = s.port := by simp [State.enterMarking]
@[simp] theorem State.enterMarking_frozen (s : State) (p : PathId) :
    (s.enterMarking p).frozen = s.frozen := by simp [State.enterMarking]
@[simp] theorem State.enterMarking_frozenLabel (s : State) (p : PathId) :
    (s.enterMarking p).frozenLabel = s.frozenLabel := by simp [State.enterMarking]
@[simp] theorem State.enterMarking_freeCount (s : State) (p : PathId) :
    (s.enterMarking p).freeCount = s.freeCount := by simp [State.enterMarking]
@[simp] theorem State.enterMarking_pending (s : State) (p : PathId) :
    (s.enterMarking p).pending = s.pending := by simp [State.enterMarking]

@[simp] theorem State.slot_enterMarking (s : State) (p : PathId) (j : Fin 16) :
    (s.enterMarking p).slot j = s.slot j := by simp [State.slot]
@[simp] theorem State.lane_enterMarking (s : State) (p : PathId) (m : Fin 4) :
    (s.enterMarking p).lane m = s.lane m := by simp [State.lane]
@[simp] theorem State.now_enterMarking (s : State) (p : PathId) :
    (s.enterMarking p).now = s.now := by simp [State.now]

/-- The other path sender stays. -/
@[simp] theorem State.enterMarking_other (s : State) (p : PathId) :
    (s.enterMarking p).path (otherPath p) = s.path (otherPath p) := by simp [State.enterMarking]

@[simp] theorem State.serveProbing_power (s : State) (p : PathId) :
    (s.serveProbing p).power = s.power := by simp [State.serveProbing]
@[simp] theorem State.serveProbing_elapsed (s : State) (p : PathId) :
    (s.serveProbing p).elapsed = s.elapsed := by simp [State.serveProbing]
@[simp] theorem State.serveProbing_params (s : State) (p : PathId) :
    (s.serveProbing p).params = s.params := by simp [State.serveProbing]
@[simp] theorem State.serveProbing_store (s : State) (p : PathId) :
    (s.serveProbing p).store = s.store := by simp [State.serveProbing]
@[simp] theorem State.serveProbing_slots (s : State) (p : PathId) :
    (s.serveProbing p).slots = s.slots := by simp [State.serveProbing]
@[simp] theorem State.serveProbing_sumA (s : State) (p : PathId) :
    (s.serveProbing p).sumA = s.sumA := by simp [State.serveProbing]
@[simp] theorem State.serveProbing_sumB (s : State) (p : PathId) :
    (s.serveProbing p).sumB = s.sumB := by simp [State.serveProbing]
@[simp] theorem State.serveProbing_due (s : State) (p : PathId) :
    (s.serveProbing p).due = s.due := by simp [State.serveProbing]
@[simp] theorem State.serveProbing_held (s : State) (p : PathId) :
    (s.serveProbing p).held = s.held := by simp [State.serveProbing]
@[simp] theorem State.serveProbing_ring (s : State) (p : PathId) :
    (s.serveProbing p).ring = s.ring := by simp [State.serveProbing]
@[simp] theorem State.serveProbing_ringMode (s : State) (p : PathId) :
    (s.serveProbing p).ringMode = s.ringMode := by simp [State.serveProbing]
@[simp] theorem State.serveProbing_launcher (s : State) (p : PathId) :
    (s.serveProbing p).launcher = s.launcher := by simp [State.serveProbing]
@[simp] theorem State.serveProbing_entries (s : State) (p : PathId) :
    (s.serveProbing p).entries = s.entries := by simp [State.serveProbing]
@[simp] theorem State.serveProbing_cellMem (s : State) (p : PathId) :
    (s.serveProbing p).cellMem = s.cellMem := by simp [State.serveProbing]
@[simp] theorem State.serveProbing_lanes (s : State) (p : PathId) :
    (s.serveProbing p).lanes = s.lanes := by simp [State.serveProbing]
@[simp] theorem State.serveProbing_house (s : State) (p : PathId) :
    (s.serveProbing p).house = s.house := by simp [State.serveProbing]
@[simp] theorem State.serveProbing_pattern (s : State) (p : PathId) :
    (s.serveProbing p).pattern = s.pattern := by simp [State.serveProbing]
@[simp] theorem State.serveProbing_patternMem (s : State) (p : PathId) :
    (s.serveProbing p).patternMem = s.patternMem := by simp [State.serveProbing]
@[simp] theorem State.serveProbing_port (s : State) (p : PathId) :
    (s.serveProbing p).port = s.port := by simp [State.serveProbing]
@[simp] theorem State.serveProbing_frozen (s : State) (p : PathId) :
    (s.serveProbing p).frozen = s.frozen := by simp [State.serveProbing]
@[simp] theorem State.serveProbing_frozenLabel (s : State) (p : PathId) :
    (s.serveProbing p).frozenLabel = s.frozenLabel := by simp [State.serveProbing]
@[simp] theorem State.serveProbing_freeCount (s : State) (p : PathId) :
    (s.serveProbing p).freeCount = s.freeCount := by simp [State.serveProbing]
@[simp] theorem State.serveProbing_pending (s : State) (p : PathId) :
    (s.serveProbing p).pending = s.pending := by simp [State.serveProbing]

@[simp] theorem State.slot_serveProbing (s : State) (p : PathId) (j : Fin 16) :
    (s.serveProbing p).slot j = s.slot j := by simp [State.slot]
@[simp] theorem State.lane_serveProbing (s : State) (p : PathId) (m : Fin 4) :
    (s.serveProbing p).lane m = s.lane m := by simp [State.lane]
@[simp] theorem State.now_serveProbing (s : State) (p : PathId) :
    (s.serveProbing p).now = s.now := by simp [State.now]
@[simp] theorem State.entry_serveProbing (s : State) (p : PathId) (a : Nat) :
    (s.serveProbing p).entry? a = s.entry? a := by simp [State.entry?]

/-- The other path sender stays. -/
@[simp] theorem State.serveProbing_other (s : State) (p : PathId) :
    (s.serveProbing p).path (otherPath p) = s.path (otherPath p) := by simp [State.serveProbing]

@[simp] theorem State.serveLine_power (s : State) (p : PathId) :
    (s.serveLine p).power = s.power := by unfold State.serveLine; split <;> (try split) <;> simp
@[simp] theorem State.serveLine_elapsed (s : State) (p : PathId) :
    (s.serveLine p).elapsed = s.elapsed := by unfold State.serveLine; split <;> (try split) <;> simp
@[simp] theorem State.serveLine_params (s : State) (p : PathId) :
    (s.serveLine p).params = s.params := by unfold State.serveLine; split <;> (try split) <;> simp
@[simp] theorem State.serveLine_store (s : State) (p : PathId) :
    (s.serveLine p).store = s.store := by unfold State.serveLine; split <;> (try split) <;> simp
@[simp] theorem State.serveLine_slots (s : State) (p : PathId) :
    (s.serveLine p).slots = s.slots := by unfold State.serveLine; split <;> (try split) <;> simp
@[simp] theorem State.serveLine_sumA (s : State) (p : PathId) :
    (s.serveLine p).sumA = s.sumA := by unfold State.serveLine; split <;> (try split) <;> simp
@[simp] theorem State.serveLine_sumB (s : State) (p : PathId) :
    (s.serveLine p).sumB = s.sumB := by unfold State.serveLine; split <;> (try split) <;> simp
@[simp] theorem State.serveLine_due (s : State) (p : PathId) :
    (s.serveLine p).due = s.due := by unfold State.serveLine; split <;> (try split) <;> simp
@[simp] theorem State.serveLine_held (s : State) (p : PathId) :
    (s.serveLine p).held = s.held := by unfold State.serveLine; split <;> (try split) <;> simp
@[simp] theorem State.serveLine_ring (s : State) (p : PathId) :
    (s.serveLine p).ring = s.ring := by unfold State.serveLine; split <;> (try split) <;> simp
@[simp] theorem State.serveLine_ringMode (s : State) (p : PathId) :
    (s.serveLine p).ringMode = s.ringMode := by unfold State.serveLine; split <;> (try split) <;> simp
@[simp] theorem State.serveLine_launcher (s : State) (p : PathId) :
    (s.serveLine p).launcher = s.launcher := by unfold State.serveLine; split <;> (try split) <;> simp
@[simp] theorem State.serveLine_cellMem (s : State) (p : PathId) :
    (s.serveLine p).cellMem = s.cellMem := by unfold State.serveLine; split <;> (try split) <;> simp
@[simp] theorem State.serveLine_lanes (s : State) (p : PathId) :
    (s.serveLine p).lanes = s.lanes := by unfold State.serveLine; split <;> (try split) <;> simp
@[simp] theorem State.serveLine_house (s : State) (p : PathId) :
    (s.serveLine p).house = s.house := by unfold State.serveLine; split <;> (try split) <;> simp
@[simp] theorem State.serveLine_pattern (s : State) (p : PathId) :
    (s.serveLine p).pattern = s.pattern := by unfold State.serveLine; split <;> (try split) <;> simp
@[simp] theorem State.serveLine_patternMem (s : State) (p : PathId) :
    (s.serveLine p).patternMem = s.patternMem := by unfold State.serveLine; split <;> (try split) <;> simp
@[simp] theorem State.serveLine_port (s : State) (p : PathId) :
    (s.serveLine p).port = s.port := by unfold State.serveLine; split <;> (try split) <;> simp
@[simp] theorem State.serveLine_frozen (s : State) (p : PathId) :
    (s.serveLine p).frozen = s.frozen := by unfold State.serveLine; split <;> (try split) <;> simp
@[simp] theorem State.serveLine_frozenLabel (s : State) (p : PathId) :
    (s.serveLine p).frozenLabel = s.frozenLabel := by unfold State.serveLine; split <;> (try split) <;> simp
@[simp] theorem State.serveLine_freeCount (s : State) (p : PathId) :
    (s.serveLine p).freeCount = s.freeCount := by unfold State.serveLine; split <;> (try split) <;> simp
@[simp] theorem State.serveLine_pending (s : State) (p : PathId) :
    (s.serveLine p).pending = s.pending := by unfold State.serveLine; split <;> (try split) <;> simp

@[simp] theorem State.slot_serveLine (s : State) (p : PathId) (j : Fin 16) :
    (s.serveLine p).slot j = s.slot j := by simp [State.slot]
@[simp] theorem State.lane_serveLine (s : State) (p : PathId) (m : Fin 4) :
    (s.serveLine p).lane m = s.lane m := by simp [State.lane]
@[simp] theorem State.now_serveLine (s : State) (p : PathId) :
    (s.serveLine p).now = s.now := by simp [State.now]

/-- The other path sender stays. -/
@[simp] theorem State.serveLine_other (s : State) (p : PathId) :
    (s.serveLine p).path (otherPath p) = s.path (otherPath p) := by unfold State.serveLine; split <;> (try split) <;> simp

/-- A line that is not free takes nothing. -/
theorem State.serveLine_busy (s : State) (p : PathId) (h : (s.path p).line ≠ .fill) : s.serveLine p = s := by
  simp [State.serveLine, Path.idleLine, h]

/-- In DISABLED and FAILED the line takes nothing. -/
theorem State.serveLine_down (s : State) (p : PathId) (h : (s.path p).state = .disabled ∨ (s.path p).state = .failed) :
    s.serveLine p = s := by
  unfold State.serveLine
  rcases h with h | h <;> rw [h] <;> split <;> rfl

/-! ## Release, probing, failing -/

@[simp] theorem State.releasePath_power (s : State) (p : PathId) :
    (s.releasePath p).power = s.power := by simp [State.releasePath]
@[simp] theorem State.releasePath_elapsed (s : State) (p : PathId) :
    (s.releasePath p).elapsed = s.elapsed := by simp [State.releasePath]
@[simp] theorem State.releasePath_params (s : State) (p : PathId) :
    (s.releasePath p).params = s.params := by simp [State.releasePath]
@[simp] theorem State.releasePath_store (s : State) (p : PathId) :
    (s.releasePath p).store = s.store := by simp [State.releasePath]
@[simp] theorem State.releasePath_slots (s : State) (p : PathId) :
    (s.releasePath p).slots = s.slots := by simp [State.releasePath]
@[simp] theorem State.releasePath_sumA (s : State) (p : PathId) :
    (s.releasePath p).sumA = s.sumA := by simp [State.releasePath]
@[simp] theorem State.releasePath_sumB (s : State) (p : PathId) :
    (s.releasePath p).sumB = s.sumB := by simp [State.releasePath]
@[simp] theorem State.releasePath_due (s : State) (p : PathId) :
    (s.releasePath p).due = s.due := by simp [State.releasePath]
@[simp] theorem State.releasePath_held (s : State) (p : PathId) :
    (s.releasePath p).held = s.held := by simp [State.releasePath]
@[simp] theorem State.releasePath_ring (s : State) (p : PathId) :
    (s.releasePath p).ring = s.ring := by simp [State.releasePath]
@[simp] theorem State.releasePath_ringMode (s : State) (p : PathId) :
    (s.releasePath p).ringMode = s.ringMode := by simp [State.releasePath]
@[simp] theorem State.releasePath_launcher (s : State) (p : PathId) :
    (s.releasePath p).launcher = s.launcher := by simp [State.releasePath]
@[simp] theorem State.releasePath_cellMem (s : State) (p : PathId) :
    (s.releasePath p).cellMem = s.cellMem := by simp [State.releasePath]
@[simp] theorem State.releasePath_house (s : State) (p : PathId) :
    (s.releasePath p).house = s.house := by simp [State.releasePath]
@[simp] theorem State.releasePath_patternMem (s : State) (p : PathId) :
    (s.releasePath p).patternMem = s.patternMem := by simp [State.releasePath]
@[simp] theorem State.releasePath_port (s : State) (p : PathId) :
    (s.releasePath p).port = s.port := by simp [State.releasePath]
@[simp] theorem State.releasePath_frozen (s : State) (p : PathId) :
    (s.releasePath p).frozen = s.frozen := by simp [State.releasePath]
@[simp] theorem State.releasePath_frozenLabel (s : State) (p : PathId) :
    (s.releasePath p).frozenLabel = s.frozenLabel := by simp [State.releasePath]
@[simp] theorem State.releasePath_freeCount (s : State) (p : PathId) :
    (s.releasePath p).freeCount = s.freeCount := by simp [State.releasePath]
@[simp] theorem State.releasePath_pending (s : State) (p : PathId) :
    (s.releasePath p).pending = s.pending := by simp [State.releasePath]

@[simp] theorem State.slot_releasePath (s : State) (p : PathId) (j : Fin 16) :
    (s.releasePath p).slot j = s.slot j := by simp [State.slot]
@[simp] theorem State.now_releasePath (s : State) (p : PathId) :
    (s.releasePath p).now = s.now := by simp [State.now]

/-- The other path sender stays. -/
@[simp] theorem State.releasePath_other (s : State) (p : PathId) :
    (s.releasePath p).path (otherPath p) = s.path (otherPath p) := by simp [State.releasePath]

/-- A release empties the window and the backlog and sets both through-sequences to next sequence - 1 (R121). -/
@[simp] theorem State.path_releasePath_self (s : State) (p : PathId) :
    (s.releasePath p).path p =
      { s.path p with
        window := [], backlog := [], ackThrough := (s.path p).nextSeq - 1, sentThrough := (s.path p).nextSeq - 1 } := by
  simp [State.releasePath]

/-- A release changes nothing of a lane but its account. -/
theorem State.lane_releasePath (s : State) (p : PathId) (l : Fin 4) :
    (s.releasePath p).lane l = { s.lane l with account := ((s.releasePath p).lane l).account } := by
  have h : (s.releasePath p).lane l =
      (((s.dropAll (.window p) .freedReleased ((s.path p).window.map fun w => w.entry)).dropAll (.backlog p) .freedReleased
        ((s.path p).backlog.map fun b => b.entry)).lane l) := by
    simp [State.releasePath]
  rw [h, State.lane_dropAll, State.lane_dropAll]

@[simp] theorem State.startProbing_power (s : State) (p : PathId) :
    (s.startProbing p).power = s.power := by simp [State.startProbing]
@[simp] theorem State.startProbing_elapsed (s : State) (p : PathId) :
    (s.startProbing p).elapsed = s.elapsed := by simp [State.startProbing]
@[simp] theorem State.startProbing_params (s : State) (p : PathId) :
    (s.startProbing p).params = s.params := by simp [State.startProbing]
@[simp] theorem State.startProbing_store (s : State) (p : PathId) :
    (s.startProbing p).store = s.store := by simp [State.startProbing]
@[simp] theorem State.startProbing_slots (s : State) (p : PathId) :
    (s.startProbing p).slots = s.slots := by simp [State.startProbing]
@[simp] theorem State.startProbing_sumA (s : State) (p : PathId) :
    (s.startProbing p).sumA = s.sumA := by simp [State.startProbing]
@[simp] theorem State.startProbing_sumB (s : State) (p : PathId) :
    (s.startProbing p).sumB = s.sumB := by simp [State.startProbing]
@[simp] theorem State.startProbing_due (s : State) (p : PathId) :
    (s.startProbing p).due = s.due := by simp [State.startProbing]
@[simp] theorem State.startProbing_held (s : State) (p : PathId) :
    (s.startProbing p).held = s.held := by simp [State.startProbing]
@[simp] theorem State.startProbing_ring (s : State) (p : PathId) :
    (s.startProbing p).ring = s.ring := by simp [State.startProbing]
@[simp] theorem State.startProbing_ringMode (s : State) (p : PathId) :
    (s.startProbing p).ringMode = s.ringMode := by simp [State.startProbing]
@[simp] theorem State.startProbing_launcher (s : State) (p : PathId) :
    (s.startProbing p).launcher = s.launcher := by simp [State.startProbing]
@[simp] theorem State.startProbing_cellMem (s : State) (p : PathId) :
    (s.startProbing p).cellMem = s.cellMem := by simp [State.startProbing]
@[simp] theorem State.startProbing_lanes (s : State) (p : PathId) :
    (s.startProbing p).lanes = s.lanes := by simp [State.startProbing]
@[simp] theorem State.startProbing_house (s : State) (p : PathId) :
    (s.startProbing p).house = s.house := by simp [State.startProbing]
@[simp] theorem State.startProbing_pattern (s : State) (p : PathId) :
    (s.startProbing p).pattern = s.pattern := by simp [State.startProbing]
@[simp] theorem State.startProbing_patternMem (s : State) (p : PathId) :
    (s.startProbing p).patternMem = s.patternMem := by simp [State.startProbing]
@[simp] theorem State.startProbing_port (s : State) (p : PathId) :
    (s.startProbing p).port = s.port := by simp [State.startProbing]
@[simp] theorem State.startProbing_frozen (s : State) (p : PathId) :
    (s.startProbing p).frozen = s.frozen := by simp [State.startProbing]
@[simp] theorem State.startProbing_frozenLabel (s : State) (p : PathId) :
    (s.startProbing p).frozenLabel = s.frozenLabel := by simp [State.startProbing]
@[simp] theorem State.startProbing_freeCount (s : State) (p : PathId) :
    (s.startProbing p).freeCount = s.freeCount := by simp [State.startProbing]
@[simp] theorem State.startProbing_pending (s : State) (p : PathId) :
    (s.startProbing p).pending = s.pending := by simp [State.startProbing]

@[simp] theorem State.slot_startProbing (s : State) (p : PathId) (j : Fin 16) :
    (s.startProbing p).slot j = s.slot j := by simp [State.slot]
@[simp] theorem State.lane_startProbing (s : State) (p : PathId) (m : Fin 4) :
    (s.startProbing p).lane m = s.lane m := by simp [State.lane]
@[simp] theorem State.now_startProbing (s : State) (p : PathId) :
    (s.startProbing p).now = s.now := by simp [State.now]

/-- The other path sender stays. -/
@[simp] theorem State.startProbing_other (s : State) (p : PathId) :
    (s.startProbing p).path (otherPath p) = s.path (otherPath p) := by simp [State.startProbing]

@[simp] theorem State.enterProbing_power (s : State) (p : PathId) :
    (s.enterProbing p).power = s.power := by simp [State.enterProbing]
@[simp] theorem State.enterProbing_elapsed (s : State) (p : PathId) :
    (s.enterProbing p).elapsed = s.elapsed := by simp [State.enterProbing]
@[simp] theorem State.enterProbing_params (s : State) (p : PathId) :
    (s.enterProbing p).params = s.params := by simp [State.enterProbing]
@[simp] theorem State.enterProbing_store (s : State) (p : PathId) :
    (s.enterProbing p).store = s.store := by simp [State.enterProbing]
@[simp] theorem State.enterProbing_slots (s : State) (p : PathId) :
    (s.enterProbing p).slots = s.slots := by simp [State.enterProbing]
@[simp] theorem State.enterProbing_sumA (s : State) (p : PathId) :
    (s.enterProbing p).sumA = s.sumA := by simp [State.enterProbing]
@[simp] theorem State.enterProbing_sumB (s : State) (p : PathId) :
    (s.enterProbing p).sumB = s.sumB := by simp [State.enterProbing]
@[simp] theorem State.enterProbing_due (s : State) (p : PathId) :
    (s.enterProbing p).due = s.due := by simp [State.enterProbing]
@[simp] theorem State.enterProbing_held (s : State) (p : PathId) :
    (s.enterProbing p).held = s.held := by simp [State.enterProbing]
@[simp] theorem State.enterProbing_ring (s : State) (p : PathId) :
    (s.enterProbing p).ring = s.ring := by simp [State.enterProbing]
@[simp] theorem State.enterProbing_ringMode (s : State) (p : PathId) :
    (s.enterProbing p).ringMode = s.ringMode := by simp [State.enterProbing]
@[simp] theorem State.enterProbing_launcher (s : State) (p : PathId) :
    (s.enterProbing p).launcher = s.launcher := by simp [State.enterProbing]
@[simp] theorem State.enterProbing_cellMem (s : State) (p : PathId) :
    (s.enterProbing p).cellMem = s.cellMem := by simp [State.enterProbing]
@[simp] theorem State.enterProbing_lanes (s : State) (p : PathId) :
    (s.enterProbing p).lanes = s.lanes := by simp [State.enterProbing]
@[simp] theorem State.enterProbing_house (s : State) (p : PathId) :
    (s.enterProbing p).house = s.house := by simp [State.enterProbing]
@[simp] theorem State.enterProbing_pattern (s : State) (p : PathId) :
    (s.enterProbing p).pattern = s.pattern := by simp [State.enterProbing]
@[simp] theorem State.enterProbing_patternMem (s : State) (p : PathId) :
    (s.enterProbing p).patternMem = s.patternMem := by simp [State.enterProbing]
@[simp] theorem State.enterProbing_frozen (s : State) (p : PathId) :
    (s.enterProbing p).frozen = s.frozen := by simp [State.enterProbing]
@[simp] theorem State.enterProbing_frozenLabel (s : State) (p : PathId) :
    (s.enterProbing p).frozenLabel = s.frozenLabel := by simp [State.enterProbing]
@[simp] theorem State.enterProbing_freeCount (s : State) (p : PathId) :
    (s.enterProbing p).freeCount = s.freeCount := by simp [State.enterProbing]
@[simp] theorem State.enterProbing_pending (s : State) (p : PathId) :
    (s.enterProbing p).pending = s.pending := by simp [State.enterProbing]

@[simp] theorem State.slot_enterProbing (s : State) (p : PathId) (j : Fin 16) :
    (s.enterProbing p).slot j = s.slot j := by simp [State.slot]
@[simp] theorem State.lane_enterProbing (s : State) (p : PathId) (m : Fin 4) :
    (s.enterProbing p).lane m = s.lane m := by simp [State.lane]
@[simp] theorem State.now_enterProbing (s : State) (p : PathId) :
    (s.enterProbing p).now = s.now := by simp [State.now]

/-- The other path sender stays. -/
@[simp] theorem State.enterProbing_other (s : State) (p : PathId) :
    (s.enterProbing p).path (otherPath p) = s.path (otherPath p) := by simp [State.enterProbing]

@[simp] theorem State.failPath_power (s : State) (p : PathId) (r : FailReason) :
    (s.failPath p r).power = s.power := by simp [State.failPath]
@[simp] theorem State.failPath_elapsed (s : State) (p : PathId) (r : FailReason) :
    (s.failPath p r).elapsed = s.elapsed := by simp [State.failPath]
@[simp] theorem State.failPath_params (s : State) (p : PathId) (r : FailReason) :
    (s.failPath p r).params = s.params := by simp [State.failPath]
@[simp] theorem State.failPath_store (s : State) (p : PathId) (r : FailReason) :
    (s.failPath p r).store = s.store := by simp [State.failPath]
@[simp] theorem State.failPath_slots (s : State) (p : PathId) (r : FailReason) :
    (s.failPath p r).slots = s.slots := by simp [State.failPath]
@[simp] theorem State.failPath_sumA (s : State) (p : PathId) (r : FailReason) :
    (s.failPath p r).sumA = s.sumA := by simp [State.failPath]
@[simp] theorem State.failPath_sumB (s : State) (p : PathId) (r : FailReason) :
    (s.failPath p r).sumB = s.sumB := by simp [State.failPath]
@[simp] theorem State.failPath_due (s : State) (p : PathId) (r : FailReason) :
    (s.failPath p r).due = s.due := by simp [State.failPath]
@[simp] theorem State.failPath_held (s : State) (p : PathId) (r : FailReason) :
    (s.failPath p r).held = s.held := by simp [State.failPath]
@[simp] theorem State.failPath_ring (s : State) (p : PathId) (r : FailReason) :
    (s.failPath p r).ring = s.ring := by simp [State.failPath]
@[simp] theorem State.failPath_ringMode (s : State) (p : PathId) (r : FailReason) :
    (s.failPath p r).ringMode = s.ringMode := by simp [State.failPath]
@[simp] theorem State.failPath_launcher (s : State) (p : PathId) (r : FailReason) :
    (s.failPath p r).launcher = s.launcher := by simp [State.failPath]
@[simp] theorem State.failPath_cellMem (s : State) (p : PathId) (r : FailReason) :
    (s.failPath p r).cellMem = s.cellMem := by simp [State.failPath]
@[simp] theorem State.failPath_house (s : State) (p : PathId) (r : FailReason) :
    (s.failPath p r).house = s.house := by simp [State.failPath]
@[simp] theorem State.failPath_patternMem (s : State) (p : PathId) (r : FailReason) :
    (s.failPath p r).patternMem = s.patternMem := by simp [State.failPath]
@[simp] theorem State.failPath_frozen (s : State) (p : PathId) (r : FailReason) :
    (s.failPath p r).frozen = s.frozen := by simp [State.failPath]
@[simp] theorem State.failPath_frozenLabel (s : State) (p : PathId) (r : FailReason) :
    (s.failPath p r).frozenLabel = s.frozenLabel := by simp [State.failPath]
@[simp] theorem State.failPath_freeCount (s : State) (p : PathId) (r : FailReason) :
    (s.failPath p r).freeCount = s.freeCount := by simp [State.failPath]
@[simp] theorem State.failPath_pending (s : State) (p : PathId) (r : FailReason) :
    (s.failPath p r).pending = s.pending := by simp [State.failPath]

@[simp] theorem State.slot_failPath (s : State) (p : PathId) (r : FailReason) (j : Fin 16) :
    (s.failPath p r).slot j = s.slot j := by simp [State.slot]
@[simp] theorem State.now_failPath (s : State) (p : PathId) (r : FailReason) :
    (s.failPath p r).now = s.now := by simp [State.now]

/-- The other path sender stays. -/
@[simp] theorem State.failPath_other (s : State) (p : PathId) (r : FailReason) :
    (s.failPath p r).path (otherPath p) = s.path (otherPath p) := by simp [State.failPath]

@[simp] theorem State.disablePath_power (s : State) (p : PathId) :
    (s.disablePath p).power = s.power := by simp [State.disablePath]
@[simp] theorem State.disablePath_elapsed (s : State) (p : PathId) :
    (s.disablePath p).elapsed = s.elapsed := by simp [State.disablePath]
@[simp] theorem State.disablePath_params (s : State) (p : PathId) :
    (s.disablePath p).params = s.params := by simp [State.disablePath]
@[simp] theorem State.disablePath_store (s : State) (p : PathId) :
    (s.disablePath p).store = s.store := by simp [State.disablePath]
@[simp] theorem State.disablePath_slots (s : State) (p : PathId) :
    (s.disablePath p).slots = s.slots := by simp [State.disablePath]
@[simp] theorem State.disablePath_sumA (s : State) (p : PathId) :
    (s.disablePath p).sumA = s.sumA := by simp [State.disablePath]
@[simp] theorem State.disablePath_sumB (s : State) (p : PathId) :
    (s.disablePath p).sumB = s.sumB := by simp [State.disablePath]
@[simp] theorem State.disablePath_due (s : State) (p : PathId) :
    (s.disablePath p).due = s.due := by simp [State.disablePath]
@[simp] theorem State.disablePath_held (s : State) (p : PathId) :
    (s.disablePath p).held = s.held := by simp [State.disablePath]
@[simp] theorem State.disablePath_ring (s : State) (p : PathId) :
    (s.disablePath p).ring = s.ring := by simp [State.disablePath]
@[simp] theorem State.disablePath_ringMode (s : State) (p : PathId) :
    (s.disablePath p).ringMode = s.ringMode := by simp [State.disablePath]
@[simp] theorem State.disablePath_launcher (s : State) (p : PathId) :
    (s.disablePath p).launcher = s.launcher := by simp [State.disablePath]
@[simp] theorem State.disablePath_cellMem (s : State) (p : PathId) :
    (s.disablePath p).cellMem = s.cellMem := by simp [State.disablePath]
@[simp] theorem State.disablePath_house (s : State) (p : PathId) :
    (s.disablePath p).house = s.house := by simp [State.disablePath]
@[simp] theorem State.disablePath_patternMem (s : State) (p : PathId) :
    (s.disablePath p).patternMem = s.patternMem := by simp [State.disablePath]
@[simp] theorem State.disablePath_frozen (s : State) (p : PathId) :
    (s.disablePath p).frozen = s.frozen := by simp [State.disablePath]
@[simp] theorem State.disablePath_frozenLabel (s : State) (p : PathId) :
    (s.disablePath p).frozenLabel = s.frozenLabel := by simp [State.disablePath]
@[simp] theorem State.disablePath_freeCount (s : State) (p : PathId) :
    (s.disablePath p).freeCount = s.freeCount := by simp [State.disablePath]
@[simp] theorem State.disablePath_pending (s : State) (p : PathId) :
    (s.disablePath p).pending = s.pending := by simp [State.disablePath]

@[simp] theorem State.slot_disablePath (s : State) (p : PathId) (j : Fin 16) :
    (s.disablePath p).slot j = s.slot j := by simp [State.slot]
@[simp] theorem State.now_disablePath (s : State) (p : PathId) :
    (s.disablePath p).now = s.now := by simp [State.now]

/-- The other path sender stays. -/
@[simp] theorem State.disablePath_other (s : State) (p : PathId) :
    (s.disablePath p).path (otherPath p) = s.path (otherPath p) := by simp [State.disablePath]

@[simp] theorem State.restartPath_power (s : State) (p : PathId) :
    (s.restartPath p).power = s.power := by simp [State.restartPath]
@[simp] theorem State.restartPath_elapsed (s : State) (p : PathId) :
    (s.restartPath p).elapsed = s.elapsed := by simp [State.restartPath]
@[simp] theorem State.restartPath_params (s : State) (p : PathId) :
    (s.restartPath p).params = s.params := by simp [State.restartPath]
@[simp] theorem State.restartPath_store (s : State) (p : PathId) :
    (s.restartPath p).store = s.store := by simp [State.restartPath]
@[simp] theorem State.restartPath_slots (s : State) (p : PathId) :
    (s.restartPath p).slots = s.slots := by simp [State.restartPath]
@[simp] theorem State.restartPath_sumA (s : State) (p : PathId) :
    (s.restartPath p).sumA = s.sumA := by simp [State.restartPath]
@[simp] theorem State.restartPath_sumB (s : State) (p : PathId) :
    (s.restartPath p).sumB = s.sumB := by simp [State.restartPath]
@[simp] theorem State.restartPath_due (s : State) (p : PathId) :
    (s.restartPath p).due = s.due := by simp [State.restartPath]
@[simp] theorem State.restartPath_held (s : State) (p : PathId) :
    (s.restartPath p).held = s.held := by simp [State.restartPath]
@[simp] theorem State.restartPath_ring (s : State) (p : PathId) :
    (s.restartPath p).ring = s.ring := by simp [State.restartPath]
@[simp] theorem State.restartPath_ringMode (s : State) (p : PathId) :
    (s.restartPath p).ringMode = s.ringMode := by simp [State.restartPath]
@[simp] theorem State.restartPath_launcher (s : State) (p : PathId) :
    (s.restartPath p).launcher = s.launcher := by simp [State.restartPath]
@[simp] theorem State.restartPath_cellMem (s : State) (p : PathId) :
    (s.restartPath p).cellMem = s.cellMem := by simp [State.restartPath]
@[simp] theorem State.restartPath_house (s : State) (p : PathId) :
    (s.restartPath p).house = s.house := by simp [State.restartPath]
@[simp] theorem State.restartPath_patternMem (s : State) (p : PathId) :
    (s.restartPath p).patternMem = s.patternMem := by simp [State.restartPath]
@[simp] theorem State.restartPath_frozen (s : State) (p : PathId) :
    (s.restartPath p).frozen = s.frozen := by simp [State.restartPath]
@[simp] theorem State.restartPath_frozenLabel (s : State) (p : PathId) :
    (s.restartPath p).frozenLabel = s.frozenLabel := by simp [State.restartPath]
@[simp] theorem State.restartPath_freeCount (s : State) (p : PathId) :
    (s.restartPath p).freeCount = s.freeCount := by simp [State.restartPath]
@[simp] theorem State.restartPath_pending (s : State) (p : PathId) :
    (s.restartPath p).pending = s.pending := by simp [State.restartPath]

@[simp] theorem State.slot_restartPath (s : State) (p : PathId) (j : Fin 16) :
    (s.restartPath p).slot j = s.slot j := by simp [State.slot]
@[simp] theorem State.now_restartPath (s : State) (p : PathId) :
    (s.restartPath p).now = s.now := by simp [State.now]

/-- The other path sender stays. -/
@[simp] theorem State.restartPath_other (s : State) (p : PathId) :
    (s.restartPath p).path (otherPath p) = s.path (otherPath p) := by simp [State.restartPath]

/-- A failure changes nothing of a lane but its account. -/
theorem State.lane_failPath (s : State) (p : PathId) (r : FailReason) (l : Fin 4) :
    (s.failPath p r).lane l = { s.lane l with account := ((s.failPath p r).lane l).account } := by
  have h : (s.failPath p r).lane l = ((s.countPath p .failures 1).releasePath p).lane l := by simp [State.failPath]
  rw [h, State.lane_releasePath]
  simp

/-- Entering DISABLED changes nothing of a lane but its account. -/
theorem State.lane_disablePath (s : State) (p : PathId) (l : Fin 4) :
    (s.disablePath p).lane l = { s.lane l with account := ((s.disablePath p).lane l).account } := by
  have h : (s.disablePath p).lane l = (s.releasePath p).lane l := by simp [State.disablePath]
  rw [h]
  exact s.lane_releasePath p l

/-! ## Taking an entry (R112) -/

/-- Everything a path can do with an entry it is handed: window, backlog, or shed, down or full. -/
theorem State.takeEntry_cases (s : State) (p : PathId) (n tag : Nat) :
    ((s.path p).state = .sending ∧ (s.path p).backlog = [] ∧ (s.path p).window.length < Config.windowLimit
      ∧ s.takeEntry p n tag =
        (s.updPath p fun x =>
          { x with window := x.window ++ [⟨n, x.nextSeq, tag, 0⟩], nextSeq := x.nextSeq + 1 }, some (.window p)))
    ∨ ((s.path p).state.isSending = true ∧ (s.path p).backlog.length < Config.backlogLimit
      ∧ s.takeEntry p n tag = (s.updPath p fun x => { x with backlog := x.backlog ++ [⟨n, tag⟩] }, some (.backlog p)))
    ∨ ((s.path p).state.isSending = true ∧ Config.backlogLimit ≤ (s.path p).backlog.length
      ∧ s.takeEntry p n tag = (s.countPath p .shedFull 1, none))
    ∨ ((s.path p).state.isSending = false ∧ s.takeEntry p n tag = (s.countPath p .shedDown 1, none)) := by
  unfold State.takeEntry
  dsimp only
  by_cases hb : (s.path p).backlog.length < Config.backlogLimit
  all_goals
    cases hs : (s.path p).state
    case sending =>
      by_cases hw : (s.path p).backlog = [] ∧ (s.path p).window.length < Config.windowLimit
      · exact .inl ⟨rfl, hw.1, hw.2, by simp [hw]⟩
      · simp only [hw, if_false, hb, if_true, PathState.isSending]
        simp_all
    all_goals simp [PathState.isSending, hb]
    all_goals omega

@[simp] theorem State.takeEntry_power (s : State) (p : PathId) (n tag : Nat) :
    (s.takeEntry p n tag).1.power = s.power := by
  rcases s.takeEntry_cases p n tag with ⟨_, _, _, h⟩ | ⟨_, _, h⟩ | ⟨_, _, h⟩ | ⟨_, h⟩ <;> simp [h]
@[simp] theorem State.takeEntry_elapsed (s : State) (p : PathId) (n tag : Nat) :
    (s.takeEntry p n tag).1.elapsed = s.elapsed := by
  rcases s.takeEntry_cases p n tag with ⟨_, _, _, h⟩ | ⟨_, _, h⟩ | ⟨_, _, h⟩ | ⟨_, h⟩ <;> simp [h]
@[simp] theorem State.takeEntry_params (s : State) (p : PathId) (n tag : Nat) :
    (s.takeEntry p n tag).1.params = s.params := by
  rcases s.takeEntry_cases p n tag with ⟨_, _, _, h⟩ | ⟨_, _, h⟩ | ⟨_, _, h⟩ | ⟨_, h⟩ <;> simp [h]
@[simp] theorem State.takeEntry_store (s : State) (p : PathId) (n tag : Nat) :
    (s.takeEntry p n tag).1.store = s.store := by
  rcases s.takeEntry_cases p n tag with ⟨_, _, _, h⟩ | ⟨_, _, h⟩ | ⟨_, _, h⟩ | ⟨_, h⟩ <;> simp [h]
@[simp] theorem State.takeEntry_slots (s : State) (p : PathId) (n tag : Nat) :
    (s.takeEntry p n tag).1.slots = s.slots := by
  rcases s.takeEntry_cases p n tag with ⟨_, _, _, h⟩ | ⟨_, _, h⟩ | ⟨_, _, h⟩ | ⟨_, h⟩ <;> simp [h]
@[simp] theorem State.takeEntry_sumA (s : State) (p : PathId) (n tag : Nat) :
    (s.takeEntry p n tag).1.sumA = s.sumA := by
  rcases s.takeEntry_cases p n tag with ⟨_, _, _, h⟩ | ⟨_, _, h⟩ | ⟨_, _, h⟩ | ⟨_, h⟩ <;> simp [h]
@[simp] theorem State.takeEntry_sumB (s : State) (p : PathId) (n tag : Nat) :
    (s.takeEntry p n tag).1.sumB = s.sumB := by
  rcases s.takeEntry_cases p n tag with ⟨_, _, _, h⟩ | ⟨_, _, h⟩ | ⟨_, _, h⟩ | ⟨_, h⟩ <;> simp [h]
@[simp] theorem State.takeEntry_due (s : State) (p : PathId) (n tag : Nat) :
    (s.takeEntry p n tag).1.due = s.due := by
  rcases s.takeEntry_cases p n tag with ⟨_, _, _, h⟩ | ⟨_, _, h⟩ | ⟨_, _, h⟩ | ⟨_, h⟩ <;> simp [h]
@[simp] theorem State.takeEntry_held (s : State) (p : PathId) (n tag : Nat) :
    (s.takeEntry p n tag).1.held = s.held := by
  rcases s.takeEntry_cases p n tag with ⟨_, _, _, h⟩ | ⟨_, _, h⟩ | ⟨_, _, h⟩ | ⟨_, h⟩ <;> simp [h]
@[simp] theorem State.takeEntry_ring (s : State) (p : PathId) (n tag : Nat) :
    (s.takeEntry p n tag).1.ring = s.ring := by
  rcases s.takeEntry_cases p n tag with ⟨_, _, _, h⟩ | ⟨_, _, h⟩ | ⟨_, _, h⟩ | ⟨_, h⟩ <;> simp [h]
@[simp] theorem State.takeEntry_ringMode (s : State) (p : PathId) (n tag : Nat) :
    (s.takeEntry p n tag).1.ringMode = s.ringMode := by
  rcases s.takeEntry_cases p n tag with ⟨_, _, _, h⟩ | ⟨_, _, h⟩ | ⟨_, _, h⟩ | ⟨_, h⟩ <;> simp [h]
@[simp] theorem State.takeEntry_launcher (s : State) (p : PathId) (n tag : Nat) :
    (s.takeEntry p n tag).1.launcher = s.launcher := by
  rcases s.takeEntry_cases p n tag with ⟨_, _, _, h⟩ | ⟨_, _, h⟩ | ⟨_, _, h⟩ | ⟨_, h⟩ <;> simp [h]
@[simp] theorem State.takeEntry_entries (s : State) (p : PathId) (n tag : Nat) :
    (s.takeEntry p n tag).1.entries = s.entries := by
  rcases s.takeEntry_cases p n tag with ⟨_, _, _, h⟩ | ⟨_, _, h⟩ | ⟨_, _, h⟩ | ⟨_, h⟩ <;> simp [h]
@[simp] theorem State.takeEntry_cellMem (s : State) (p : PathId) (n tag : Nat) :
    (s.takeEntry p n tag).1.cellMem = s.cellMem := by
  rcases s.takeEntry_cases p n tag with ⟨_, _, _, h⟩ | ⟨_, _, h⟩ | ⟨_, _, h⟩ | ⟨_, h⟩ <;> simp [h]
@[simp] theorem State.takeEntry_lanes (s : State) (p : PathId) (n tag : Nat) :
    (s.takeEntry p n tag).1.lanes = s.lanes := by
  rcases s.takeEntry_cases p n tag with ⟨_, _, _, h⟩ | ⟨_, _, h⟩ | ⟨_, _, h⟩ | ⟨_, h⟩ <;> simp [h]
@[simp] theorem State.takeEntry_house (s : State) (p : PathId) (n tag : Nat) :
    (s.takeEntry p n tag).1.house = s.house := by
  rcases s.takeEntry_cases p n tag with ⟨_, _, _, h⟩ | ⟨_, _, h⟩ | ⟨_, _, h⟩ | ⟨_, h⟩ <;> simp [h]
@[simp] theorem State.takeEntry_pattern (s : State) (p : PathId) (n tag : Nat) :
    (s.takeEntry p n tag).1.pattern = s.pattern := by
  rcases s.takeEntry_cases p n tag with ⟨_, _, _, h⟩ | ⟨_, _, h⟩ | ⟨_, _, h⟩ | ⟨_, h⟩ <;> simp [h]
@[simp] theorem State.takeEntry_patternMem (s : State) (p : PathId) (n tag : Nat) :
    (s.takeEntry p n tag).1.patternMem = s.patternMem := by
  rcases s.takeEntry_cases p n tag with ⟨_, _, _, h⟩ | ⟨_, _, h⟩ | ⟨_, _, h⟩ | ⟨_, h⟩ <;> simp [h]
@[simp] theorem State.takeEntry_port (s : State) (p : PathId) (n tag : Nat) :
    (s.takeEntry p n tag).1.port = s.port := by
  rcases s.takeEntry_cases p n tag with ⟨_, _, _, h⟩ | ⟨_, _, h⟩ | ⟨_, _, h⟩ | ⟨_, h⟩ <;> simp [h]
@[simp] theorem State.takeEntry_frozen (s : State) (p : PathId) (n tag : Nat) :
    (s.takeEntry p n tag).1.frozen = s.frozen := by
  rcases s.takeEntry_cases p n tag with ⟨_, _, _, h⟩ | ⟨_, _, h⟩ | ⟨_, _, h⟩ | ⟨_, h⟩ <;> simp [h]
@[simp] theorem State.takeEntry_frozenLabel (s : State) (p : PathId) (n tag : Nat) :
    (s.takeEntry p n tag).1.frozenLabel = s.frozenLabel := by
  rcases s.takeEntry_cases p n tag with ⟨_, _, _, h⟩ | ⟨_, _, h⟩ | ⟨_, _, h⟩ | ⟨_, h⟩ <;> simp [h]
@[simp] theorem State.takeEntry_freeCount (s : State) (p : PathId) (n tag : Nat) :
    (s.takeEntry p n tag).1.freeCount = s.freeCount := by
  rcases s.takeEntry_cases p n tag with ⟨_, _, _, h⟩ | ⟨_, _, h⟩ | ⟨_, _, h⟩ | ⟨_, h⟩ <;> simp [h]
@[simp] theorem State.takeEntry_pending (s : State) (p : PathId) (n tag : Nat) :
    (s.takeEntry p n tag).1.pending = s.pending := by
  rcases s.takeEntry_cases p n tag with ⟨_, _, _, h⟩ | ⟨_, _, h⟩ | ⟨_, _, h⟩ | ⟨_, h⟩ <;> simp [h]

/-- The other path sender stays. -/
@[simp] theorem State.takeEntry_other (s : State) (p : PathId) (n tag : Nat) :
    (s.takeEntry p n tag).1.path (otherPath p) = s.path (otherPath p) := by
  rcases s.takeEntry_cases p n tag with ⟨_, _, _, h⟩ | ⟨_, _, h⟩ | ⟨_, _, h⟩ | ⟨_, h⟩ <;> simp [h]

@[simp] theorem State.handTo_power (s : State) (p : PathId) (f : PathSet) (n tag : Nat) :
    (s.handTo p f n tag).1.power = s.power := by unfold State.handTo; split <;> simp
@[simp] theorem State.handTo_elapsed (s : State) (p : PathId) (f : PathSet) (n tag : Nat) :
    (s.handTo p f n tag).1.elapsed = s.elapsed := by unfold State.handTo; split <;> simp
@[simp] theorem State.handTo_params (s : State) (p : PathId) (f : PathSet) (n tag : Nat) :
    (s.handTo p f n tag).1.params = s.params := by unfold State.handTo; split <;> simp
@[simp] theorem State.handTo_store (s : State) (p : PathId) (f : PathSet) (n tag : Nat) :
    (s.handTo p f n tag).1.store = s.store := by unfold State.handTo; split <;> simp
@[simp] theorem State.handTo_slots (s : State) (p : PathId) (f : PathSet) (n tag : Nat) :
    (s.handTo p f n tag).1.slots = s.slots := by unfold State.handTo; split <;> simp
@[simp] theorem State.handTo_sumA (s : State) (p : PathId) (f : PathSet) (n tag : Nat) :
    (s.handTo p f n tag).1.sumA = s.sumA := by unfold State.handTo; split <;> simp
@[simp] theorem State.handTo_sumB (s : State) (p : PathId) (f : PathSet) (n tag : Nat) :
    (s.handTo p f n tag).1.sumB = s.sumB := by unfold State.handTo; split <;> simp
@[simp] theorem State.handTo_due (s : State) (p : PathId) (f : PathSet) (n tag : Nat) :
    (s.handTo p f n tag).1.due = s.due := by unfold State.handTo; split <;> simp
@[simp] theorem State.handTo_held (s : State) (p : PathId) (f : PathSet) (n tag : Nat) :
    (s.handTo p f n tag).1.held = s.held := by unfold State.handTo; split <;> simp
@[simp] theorem State.handTo_ring (s : State) (p : PathId) (f : PathSet) (n tag : Nat) :
    (s.handTo p f n tag).1.ring = s.ring := by unfold State.handTo; split <;> simp
@[simp] theorem State.handTo_ringMode (s : State) (p : PathId) (f : PathSet) (n tag : Nat) :
    (s.handTo p f n tag).1.ringMode = s.ringMode := by unfold State.handTo; split <;> simp
@[simp] theorem State.handTo_launcher (s : State) (p : PathId) (f : PathSet) (n tag : Nat) :
    (s.handTo p f n tag).1.launcher = s.launcher := by unfold State.handTo; split <;> simp
@[simp] theorem State.handTo_entries (s : State) (p : PathId) (f : PathSet) (n tag : Nat) :
    (s.handTo p f n tag).1.entries = s.entries := by unfold State.handTo; split <;> simp
@[simp] theorem State.handTo_cellMem (s : State) (p : PathId) (f : PathSet) (n tag : Nat) :
    (s.handTo p f n tag).1.cellMem = s.cellMem := by unfold State.handTo; split <;> simp
@[simp] theorem State.handTo_lanes (s : State) (p : PathId) (f : PathSet) (n tag : Nat) :
    (s.handTo p f n tag).1.lanes = s.lanes := by unfold State.handTo; split <;> simp
@[simp] theorem State.handTo_house (s : State) (p : PathId) (f : PathSet) (n tag : Nat) :
    (s.handTo p f n tag).1.house = s.house := by unfold State.handTo; split <;> simp
@[simp] theorem State.handTo_pattern (s : State) (p : PathId) (f : PathSet) (n tag : Nat) :
    (s.handTo p f n tag).1.pattern = s.pattern := by unfold State.handTo; split <;> simp
@[simp] theorem State.handTo_patternMem (s : State) (p : PathId) (f : PathSet) (n tag : Nat) :
    (s.handTo p f n tag).1.patternMem = s.patternMem := by unfold State.handTo; split <;> simp
@[simp] theorem State.handTo_port (s : State) (p : PathId) (f : PathSet) (n tag : Nat) :
    (s.handTo p f n tag).1.port = s.port := by unfold State.handTo; split <;> simp
@[simp] theorem State.handTo_frozen (s : State) (p : PathId) (f : PathSet) (n tag : Nat) :
    (s.handTo p f n tag).1.frozen = s.frozen := by unfold State.handTo; split <;> simp
@[simp] theorem State.handTo_frozenLabel (s : State) (p : PathId) (f : PathSet) (n tag : Nat) :
    (s.handTo p f n tag).1.frozenLabel = s.frozenLabel := by unfold State.handTo; split <;> simp
@[simp] theorem State.handTo_freeCount (s : State) (p : PathId) (f : PathSet) (n tag : Nat) :
    (s.handTo p f n tag).1.freeCount = s.freeCount := by unfold State.handTo; split <;> simp
@[simp] theorem State.handTo_pending (s : State) (p : PathId) (f : PathSet) (n tag : Nat) :
    (s.handTo p f n tag).1.pending = s.pending := by unfold State.handTo; split <;> simp

@[simp] theorem State.replaceService_power (s : State) (n : Nat) (x y : Option Holder) :
    (s.replaceService n x y).power = s.power := by
  unfold State.replaceService; split
  · rfl
  · dsimp only; split <;> simp
@[simp] theorem State.replaceService_elapsed (s : State) (n : Nat) (x y : Option Holder) :
    (s.replaceService n x y).elapsed = s.elapsed := by
  unfold State.replaceService; split
  · rfl
  · dsimp only; split <;> simp
@[simp] theorem State.replaceService_params (s : State) (n : Nat) (x y : Option Holder) :
    (s.replaceService n x y).params = s.params := by
  unfold State.replaceService; split
  · rfl
  · dsimp only; split <;> simp
@[simp] theorem State.replaceService_store (s : State) (n : Nat) (x y : Option Holder) :
    (s.replaceService n x y).store = s.store := by
  unfold State.replaceService; split
  · rfl
  · dsimp only; split <;> simp
@[simp] theorem State.replaceService_slots (s : State) (n : Nat) (x y : Option Holder) :
    (s.replaceService n x y).slots = s.slots := by
  unfold State.replaceService; split
  · rfl
  · dsimp only; split <;> simp
@[simp] theorem State.replaceService_sumA (s : State) (n : Nat) (x y : Option Holder) :
    (s.replaceService n x y).sumA = s.sumA := by
  unfold State.replaceService; split
  · rfl
  · dsimp only; split <;> simp
@[simp] theorem State.replaceService_sumB (s : State) (n : Nat) (x y : Option Holder) :
    (s.replaceService n x y).sumB = s.sumB := by
  unfold State.replaceService; split
  · rfl
  · dsimp only; split <;> simp
@[simp] theorem State.replaceService_due (s : State) (n : Nat) (x y : Option Holder) :
    (s.replaceService n x y).due = s.due := by
  unfold State.replaceService; split
  · rfl
  · dsimp only; split <;> simp
@[simp] theorem State.replaceService_held (s : State) (n : Nat) (x y : Option Holder) :
    (s.replaceService n x y).held = s.held := by
  unfold State.replaceService; split
  · rfl
  · dsimp only; split <;> simp
@[simp] theorem State.replaceService_ring (s : State) (n : Nat) (x y : Option Holder) :
    (s.replaceService n x y).ring = s.ring := by
  unfold State.replaceService; split
  · rfl
  · dsimp only; split <;> simp
@[simp] theorem State.replaceService_ringMode (s : State) (n : Nat) (x y : Option Holder) :
    (s.replaceService n x y).ringMode = s.ringMode := by
  unfold State.replaceService; split
  · rfl
  · dsimp only; split <;> simp
@[simp] theorem State.replaceService_launcher (s : State) (n : Nat) (x y : Option Holder) :
    (s.replaceService n x y).launcher = s.launcher := by
  unfold State.replaceService; split
  · rfl
  · dsimp only; split <;> simp
@[simp] theorem State.replaceService_cellMem (s : State) (n : Nat) (x y : Option Holder) :
    (s.replaceService n x y).cellMem = s.cellMem := by
  unfold State.replaceService; split
  · rfl
  · dsimp only; split <;> simp
@[simp] theorem State.replaceService_pathA (s : State) (n : Nat) (x y : Option Holder) :
    (s.replaceService n x y).pathA = s.pathA := by
  unfold State.replaceService; split
  · rfl
  · dsimp only; split <;> simp
@[simp] theorem State.replaceService_pathB (s : State) (n : Nat) (x y : Option Holder) :
    (s.replaceService n x y).pathB = s.pathB := by
  unfold State.replaceService; split
  · rfl
  · dsimp only; split <;> simp
@[simp] theorem State.replaceService_house (s : State) (n : Nat) (x y : Option Holder) :
    (s.replaceService n x y).house = s.house := by
  unfold State.replaceService; split
  · rfl
  · dsimp only; split <;> simp
@[simp] theorem State.replaceService_patternMem (s : State) (n : Nat) (x y : Option Holder) :
    (s.replaceService n x y).patternMem = s.patternMem := by
  unfold State.replaceService; split
  · rfl
  · dsimp only; split <;> simp
@[simp] theorem State.replaceService_port (s : State) (n : Nat) (x y : Option Holder) :
    (s.replaceService n x y).port = s.port := by
  unfold State.replaceService; split
  · rfl
  · dsimp only; split <;> simp
@[simp] theorem State.replaceService_frozen (s : State) (n : Nat) (x y : Option Holder) :
    (s.replaceService n x y).frozen = s.frozen := by
  unfold State.replaceService; split
  · rfl
  · dsimp only; split <;> simp
@[simp] theorem State.replaceService_frozenLabel (s : State) (n : Nat) (x y : Option Holder) :
    (s.replaceService n x y).frozenLabel = s.frozenLabel := by
  unfold State.replaceService; split
  · rfl
  · dsimp only; split <;> simp
@[simp] theorem State.replaceService_freeCount (s : State) (n : Nat) (x y : Option Holder) :
    (s.replaceService n x y).freeCount = s.freeCount := by
  unfold State.replaceService; split
  · rfl
  · dsimp only; split <;> simp
@[simp] theorem State.replaceService_pending (s : State) (n : Nat) (x y : Option Holder) :
    (s.replaceService n x y).pending = s.pending := by
  unfold State.replaceService; split
  · rfl
  · dsimp only; split <;> simp

@[simp] theorem State.slot_replaceService (s : State) (n : Nat) (x y : Option Holder) (j : Fin 16) :
    (s.replaceService n x y).slot j = s.slot j := by simp [State.slot]
@[simp] theorem State.path_replaceService (s : State) (n : Nat) (x y : Option Holder) (z : PathId) :
    (s.replaceService n x y).path z = s.path z := by cases z <;> simp [State.path]
@[simp] theorem State.now_replaceService (s : State) (n : Nat) (x y : Option Holder) :
    (s.replaceService n x y).now = s.now := by simp [State.now]

@[simp] theorem State.goOn_power (s : State) (p : PathId) (f : PathSet) :
    (s.goOn p f).power = s.power := by unfold State.goOn; split <;> simp
@[simp] theorem State.goOn_elapsed (s : State) (p : PathId) (f : PathSet) :
    (s.goOn p f).elapsed = s.elapsed := by unfold State.goOn; split <;> simp
@[simp] theorem State.goOn_params (s : State) (p : PathId) (f : PathSet) :
    (s.goOn p f).params = s.params := by unfold State.goOn; split <;> simp
@[simp] theorem State.goOn_store (s : State) (p : PathId) (f : PathSet) :
    (s.goOn p f).store = s.store := by unfold State.goOn; split <;> simp
@[simp] theorem State.goOn_slots (s : State) (p : PathId) (f : PathSet) :
    (s.goOn p f).slots = s.slots := by unfold State.goOn; split <;> simp
@[simp] theorem State.goOn_sumA (s : State) (p : PathId) (f : PathSet) :
    (s.goOn p f).sumA = s.sumA := by unfold State.goOn; split <;> simp
@[simp] theorem State.goOn_sumB (s : State) (p : PathId) (f : PathSet) :
    (s.goOn p f).sumB = s.sumB := by unfold State.goOn; split <;> simp
@[simp] theorem State.goOn_due (s : State) (p : PathId) (f : PathSet) :
    (s.goOn p f).due = s.due := by unfold State.goOn; split <;> simp
@[simp] theorem State.goOn_held (s : State) (p : PathId) (f : PathSet) :
    (s.goOn p f).held = s.held := by unfold State.goOn; split <;> simp
@[simp] theorem State.goOn_ring (s : State) (p : PathId) (f : PathSet) :
    (s.goOn p f).ring = s.ring := by unfold State.goOn; split <;> simp
@[simp] theorem State.goOn_ringMode (s : State) (p : PathId) (f : PathSet) :
    (s.goOn p f).ringMode = s.ringMode := by unfold State.goOn; split <;> simp
@[simp] theorem State.goOn_launcher (s : State) (p : PathId) (f : PathSet) :
    (s.goOn p f).launcher = s.launcher := by unfold State.goOn; split <;> simp
@[simp] theorem State.goOn_cellMem (s : State) (p : PathId) (f : PathSet) :
    (s.goOn p f).cellMem = s.cellMem := by unfold State.goOn; split <;> simp
@[simp] theorem State.goOn_lanes (s : State) (p : PathId) (f : PathSet) :
    (s.goOn p f).lanes = s.lanes := by unfold State.goOn; split <;> simp
@[simp] theorem State.goOn_house (s : State) (p : PathId) (f : PathSet) :
    (s.goOn p f).house = s.house := by unfold State.goOn; split <;> simp
@[simp] theorem State.goOn_pattern (s : State) (p : PathId) (f : PathSet) :
    (s.goOn p f).pattern = s.pattern := by unfold State.goOn; split <;> simp
@[simp] theorem State.goOn_patternMem (s : State) (p : PathId) (f : PathSet) :
    (s.goOn p f).patternMem = s.patternMem := by unfold State.goOn; split <;> simp
@[simp] theorem State.goOn_port (s : State) (p : PathId) (f : PathSet) :
    (s.goOn p f).port = s.port := by unfold State.goOn; split <;> simp
@[simp] theorem State.goOn_frozen (s : State) (p : PathId) (f : PathSet) :
    (s.goOn p f).frozen = s.frozen := by unfold State.goOn; split <;> simp
@[simp] theorem State.goOn_frozenLabel (s : State) (p : PathId) (f : PathSet) :
    (s.goOn p f).frozenLabel = s.frozenLabel := by unfold State.goOn; split <;> simp
@[simp] theorem State.goOn_freeCount (s : State) (p : PathId) (f : PathSet) :
    (s.goOn p f).freeCount = s.freeCount := by unfold State.goOn; split <;> simp
@[simp] theorem State.goOn_pending (s : State) (p : PathId) (f : PathSet) :
    (s.goOn p f).pending = s.pending := by unfold State.goOn; split <;> simp

@[simp] theorem State.slot_goOn (s : State) (p : PathId) (f : PathSet) (j : Fin 16) :
    (s.goOn p f).slot j = s.slot j := by simp [State.slot]
@[simp] theorem State.lane_goOn (s : State) (p : PathId) (f : PathSet) (m : Fin 4) :
    (s.goOn p f).lane m = s.lane m := by simp [State.lane]
@[simp] theorem State.now_goOn (s : State) (p : PathId) (f : PathSet) :
    (s.goOn p f).now = s.now := by simp [State.now]

@[simp] theorem State.fanOut_power (s : State) (v : Service) :
    (s.fanOut v).power = s.power := by simp [State.fanOut]
@[simp] theorem State.fanOut_elapsed (s : State) (v : Service) :
    (s.fanOut v).elapsed = s.elapsed := by simp [State.fanOut]
@[simp] theorem State.fanOut_params (s : State) (v : Service) :
    (s.fanOut v).params = s.params := by simp [State.fanOut]
@[simp] theorem State.fanOut_store (s : State) (v : Service) :
    (s.fanOut v).store = s.store := by simp [State.fanOut]
@[simp] theorem State.fanOut_slots (s : State) (v : Service) :
    (s.fanOut v).slots = s.slots := by simp [State.fanOut]
@[simp] theorem State.fanOut_sumA (s : State) (v : Service) :
    (s.fanOut v).sumA = s.sumA := by simp [State.fanOut]
@[simp] theorem State.fanOut_sumB (s : State) (v : Service) :
    (s.fanOut v).sumB = s.sumB := by simp [State.fanOut]
@[simp] theorem State.fanOut_due (s : State) (v : Service) :
    (s.fanOut v).due = s.due := by simp [State.fanOut]
@[simp] theorem State.fanOut_held (s : State) (v : Service) :
    (s.fanOut v).held = s.held := by simp [State.fanOut]
@[simp] theorem State.fanOut_ring (s : State) (v : Service) :
    (s.fanOut v).ring = s.ring := by simp [State.fanOut]
@[simp] theorem State.fanOut_ringMode (s : State) (v : Service) :
    (s.fanOut v).ringMode = s.ringMode := by simp [State.fanOut]
@[simp] theorem State.fanOut_cellMem (s : State) (v : Service) :
    (s.fanOut v).cellMem = s.cellMem := by simp [State.fanOut]
@[simp] theorem State.fanOut_house (s : State) (v : Service) :
    (s.fanOut v).house = s.house := by simp [State.fanOut]
@[simp] theorem State.fanOut_patternMem (s : State) (v : Service) :
    (s.fanOut v).patternMem = s.patternMem := by simp [State.fanOut]
@[simp] theorem State.fanOut_port (s : State) (v : Service) :
    (s.fanOut v).port = s.port := by simp [State.fanOut]
@[simp] theorem State.fanOut_frozen (s : State) (v : Service) :
    (s.fanOut v).frozen = s.frozen := by simp [State.fanOut]
@[simp] theorem State.fanOut_frozenLabel (s : State) (v : Service) :
    (s.fanOut v).frozenLabel = s.frozenLabel := by simp [State.fanOut]
@[simp] theorem State.fanOut_freeCount (s : State) (v : Service) :
    (s.fanOut v).freeCount = s.freeCount := by simp [State.fanOut]
@[simp] theorem State.fanOut_pending (s : State) (v : Service) :
    (s.fanOut v).pending = s.pending := by simp [State.fanOut]

@[simp] theorem State.slot_fanOut (s : State) (v : Service) (j : Fin 16) :
    (s.fanOut v).slot j = s.slot j := by simp [State.slot]
@[simp] theorem State.now_fanOut (s : State) (v : Service) :
    (s.fanOut v).now = s.now := by simp [State.now]

/-- The hand-over leaves the launcher free (R54). -/
@[simp] theorem State.fanOut_launcher (s : State) (v : Service) : (s.fanOut v).launcher = none := by simp [State.fanOut]

/-! ## STATUS frames -/

@[simp] theorem State.restartSilence_power (s : State) (p : PathId) :
    (s.restartSilence p).power = s.power := by simp [State.restartSilence]
@[simp] theorem State.restartSilence_elapsed (s : State) (p : PathId) :
    (s.restartSilence p).elapsed = s.elapsed := by simp [State.restartSilence]
@[simp] theorem State.restartSilence_params (s : State) (p : PathId) :
    (s.restartSilence p).params = s.params := by simp [State.restartSilence]
@[simp] theorem State.restartSilence_store (s : State) (p : PathId) :
    (s.restartSilence p).store = s.store := by simp [State.restartSilence]
@[simp] theorem State.restartSilence_slots (s : State) (p : PathId) :
    (s.restartSilence p).slots = s.slots := by simp [State.restartSilence]
@[simp] theorem State.restartSilence_sumA (s : State) (p : PathId) :
    (s.restartSilence p).sumA = s.sumA := by simp [State.restartSilence]
@[simp] theorem State.restartSilence_sumB (s : State) (p : PathId) :
    (s.restartSilence p).sumB = s.sumB := by simp [State.restartSilence]
@[simp] theorem State.restartSilence_due (s : State) (p : PathId) :
    (s.restartSilence p).due = s.due := by simp [State.restartSilence]
@[simp] theorem State.restartSilence_held (s : State) (p : PathId) :
    (s.restartSilence p).held = s.held := by simp [State.restartSilence]
@[simp] theorem State.restartSilence_ring (s : State) (p : PathId) :
    (s.restartSilence p).ring = s.ring := by simp [State.restartSilence]
@[simp] theorem State.restartSilence_ringMode (s : State) (p : PathId) :
    (s.restartSilence p).ringMode = s.ringMode := by simp [State.restartSilence]
@[simp] theorem State.restartSilence_launcher (s : State) (p : PathId) :
    (s.restartSilence p).launcher = s.launcher := by simp [State.restartSilence]
@[simp] theorem State.restartSilence_entries (s : State) (p : PathId) :
    (s.restartSilence p).entries = s.entries := by simp [State.restartSilence]
@[simp] theorem State.restartSilence_cellMem (s : State) (p : PathId) :
    (s.restartSilence p).cellMem = s.cellMem := by simp [State.restartSilence]
@[simp] theorem State.restartSilence_lanes (s : State) (p : PathId) :
    (s.restartSilence p).lanes = s.lanes := by simp [State.restartSilence]
@[simp] theorem State.restartSilence_house (s : State) (p : PathId) :
    (s.restartSilence p).house = s.house := by simp [State.restartSilence]
@[simp] theorem State.restartSilence_pattern (s : State) (p : PathId) :
    (s.restartSilence p).pattern = s.pattern := by simp [State.restartSilence]
@[simp] theorem State.restartSilence_patternMem (s : State) (p : PathId) :
    (s.restartSilence p).patternMem = s.patternMem := by simp [State.restartSilence]
@[simp] theorem State.restartSilence_port (s : State) (p : PathId) :
    (s.restartSilence p).port = s.port := by simp [State.restartSilence]
@[simp] theorem State.restartSilence_active (s : State) (p : PathId) :
    (s.restartSilence p).active = s.active := by simp [State.restartSilence]
@[simp] theorem State.restartSilence_frozen (s : State) (p : PathId) :
    (s.restartSilence p).frozen = s.frozen := by simp [State.restartSilence]
@[simp] theorem State.restartSilence_frozenLabel (s : State) (p : PathId) :
    (s.restartSilence p).frozenLabel = s.frozenLabel := by simp [State.restartSilence]
@[simp] theorem State.restartSilence_freeCount (s : State) (p : PathId) :
    (s.restartSilence p).freeCount = s.freeCount := by simp [State.restartSilence]
@[simp] theorem State.restartSilence_pending (s : State) (p : PathId) :
    (s.restartSilence p).pending = s.pending := by simp [State.restartSilence]

@[simp] theorem State.slot_restartSilence (s : State) (p : PathId) (j : Fin 16) :
    (s.restartSilence p).slot j = s.slot j := by simp [State.slot]
@[simp] theorem State.lane_restartSilence (s : State) (p : PathId) (m : Fin 4) :
    (s.restartSilence p).lane m = s.lane m := by simp [State.lane]
@[simp] theorem State.now_restartSilence (s : State) (p : PathId) :
    (s.restartSilence p).now = s.now := by simp [State.now]
@[simp] theorem State.entry_restartSilence (s : State) (p : PathId) (a : Nat) :
    (s.restartSilence p).entry? a = s.entry? a := by simp [State.entry?]

/-- The other path sender stays. -/
@[simp] theorem State.restartSilence_other (s : State) (p : PathId) :
    (s.restartSilence p).path (otherPath p) = s.path (otherPath p) := by simp [State.restartSilence]

@[simp] theorem State.breakRun_power (s : State) (p : PathId) :
    (s.breakRun p).power = s.power := by unfold State.breakRun; split <;> simp
@[simp] theorem State.breakRun_elapsed (s : State) (p : PathId) :
    (s.breakRun p).elapsed = s.elapsed := by unfold State.breakRun; split <;> simp
@[simp] theorem State.breakRun_params (s : State) (p : PathId) :
    (s.breakRun p).params = s.params := by unfold State.breakRun; split <;> simp
@[simp] theorem State.breakRun_store (s : State) (p : PathId) :
    (s.breakRun p).store = s.store := by unfold State.breakRun; split <;> simp
@[simp] theorem State.breakRun_slots (s : State) (p : PathId) :
    (s.breakRun p).slots = s.slots := by unfold State.breakRun; split <;> simp
@[simp] theorem State.breakRun_sumA (s : State) (p : PathId) :
    (s.breakRun p).sumA = s.sumA := by unfold State.breakRun; split <;> simp
@[simp] theorem State.breakRun_sumB (s : State) (p : PathId) :
    (s.breakRun p).sumB = s.sumB := by unfold State.breakRun; split <;> simp
@[simp] theorem State.breakRun_due (s : State) (p : PathId) :
    (s.breakRun p).due = s.due := by unfold State.breakRun; split <;> simp
@[simp] theorem State.breakRun_held (s : State) (p : PathId) :
    (s.breakRun p).held = s.held := by unfold State.breakRun; split <;> simp
@[simp] theorem State.breakRun_ring (s : State) (p : PathId) :
    (s.breakRun p).ring = s.ring := by unfold State.breakRun; split <;> simp
@[simp] theorem State.breakRun_ringMode (s : State) (p : PathId) :
    (s.breakRun p).ringMode = s.ringMode := by unfold State.breakRun; split <;> simp
@[simp] theorem State.breakRun_launcher (s : State) (p : PathId) :
    (s.breakRun p).launcher = s.launcher := by unfold State.breakRun; split <;> simp
@[simp] theorem State.breakRun_entries (s : State) (p : PathId) :
    (s.breakRun p).entries = s.entries := by unfold State.breakRun; split <;> simp
@[simp] theorem State.breakRun_cellMem (s : State) (p : PathId) :
    (s.breakRun p).cellMem = s.cellMem := by unfold State.breakRun; split <;> simp
@[simp] theorem State.breakRun_lanes (s : State) (p : PathId) :
    (s.breakRun p).lanes = s.lanes := by unfold State.breakRun; split <;> simp
@[simp] theorem State.breakRun_house (s : State) (p : PathId) :
    (s.breakRun p).house = s.house := by unfold State.breakRun; split <;> simp
@[simp] theorem State.breakRun_pattern (s : State) (p : PathId) :
    (s.breakRun p).pattern = s.pattern := by unfold State.breakRun; split <;> simp
@[simp] theorem State.breakRun_patternMem (s : State) (p : PathId) :
    (s.breakRun p).patternMem = s.patternMem := by unfold State.breakRun; split <;> simp
@[simp] theorem State.breakRun_port (s : State) (p : PathId) :
    (s.breakRun p).port = s.port := by unfold State.breakRun; split <;> simp
@[simp] theorem State.breakRun_active (s : State) (p : PathId) :
    (s.breakRun p).active = s.active := by unfold State.breakRun; split <;> simp
@[simp] theorem State.breakRun_frozen (s : State) (p : PathId) :
    (s.breakRun p).frozen = s.frozen := by unfold State.breakRun; split <;> simp
@[simp] theorem State.breakRun_frozenLabel (s : State) (p : PathId) :
    (s.breakRun p).frozenLabel = s.frozenLabel := by unfold State.breakRun; split <;> simp
@[simp] theorem State.breakRun_freeCount (s : State) (p : PathId) :
    (s.breakRun p).freeCount = s.freeCount := by unfold State.breakRun; split <;> simp
@[simp] theorem State.breakRun_pending (s : State) (p : PathId) :
    (s.breakRun p).pending = s.pending := by unfold State.breakRun; split <;> simp

@[simp] theorem State.slot_breakRun (s : State) (p : PathId) (j : Fin 16) :
    (s.breakRun p).slot j = s.slot j := by simp [State.slot]
@[simp] theorem State.lane_breakRun (s : State) (p : PathId) (m : Fin 4) :
    (s.breakRun p).lane m = s.lane m := by simp [State.lane]
@[simp] theorem State.now_breakRun (s : State) (p : PathId) :
    (s.breakRun p).now = s.now := by simp [State.now]
@[simp] theorem State.entry_breakRun (s : State) (p : PathId) (a : Nat) :
    (s.breakRun p).entry? a = s.entry? a := by simp [State.entry?]

/-- The other path sender stays. -/
@[simp] theorem State.breakRun_other (s : State) (p : PathId) :
    (s.breakRun p).path (otherPath p) = s.path (otherPath p) := by unfold State.breakRun; split <;> simp

@[simp] theorem State.acknowledge_power (s : State) (p : PathId) (a : PathSeq) :
    (s.acknowledge p a).power = s.power := by unfold State.acknowledge; dsimp only; split <;> (try split) <;> simp
@[simp] theorem State.acknowledge_elapsed (s : State) (p : PathId) (a : PathSeq) :
    (s.acknowledge p a).elapsed = s.elapsed := by unfold State.acknowledge; dsimp only; split <;> (try split) <;> simp
@[simp] theorem State.acknowledge_params (s : State) (p : PathId) (a : PathSeq) :
    (s.acknowledge p a).params = s.params := by unfold State.acknowledge; dsimp only; split <;> (try split) <;> simp
@[simp] theorem State.acknowledge_store (s : State) (p : PathId) (a : PathSeq) :
    (s.acknowledge p a).store = s.store := by unfold State.acknowledge; dsimp only; split <;> (try split) <;> simp
@[simp] theorem State.acknowledge_slots (s : State) (p : PathId) (a : PathSeq) :
    (s.acknowledge p a).slots = s.slots := by unfold State.acknowledge; dsimp only; split <;> (try split) <;> simp
@[simp] theorem State.acknowledge_sumA (s : State) (p : PathId) (a : PathSeq) :
    (s.acknowledge p a).sumA = s.sumA := by unfold State.acknowledge; dsimp only; split <;> (try split) <;> simp
@[simp] theorem State.acknowledge_sumB (s : State) (p : PathId) (a : PathSeq) :
    (s.acknowledge p a).sumB = s.sumB := by unfold State.acknowledge; dsimp only; split <;> (try split) <;> simp
@[simp] theorem State.acknowledge_due (s : State) (p : PathId) (a : PathSeq) :
    (s.acknowledge p a).due = s.due := by unfold State.acknowledge; dsimp only; split <;> (try split) <;> simp
@[simp] theorem State.acknowledge_held (s : State) (p : PathId) (a : PathSeq) :
    (s.acknowledge p a).held = s.held := by unfold State.acknowledge; dsimp only; split <;> (try split) <;> simp
@[simp] theorem State.acknowledge_ring (s : State) (p : PathId) (a : PathSeq) :
    (s.acknowledge p a).ring = s.ring := by unfold State.acknowledge; dsimp only; split <;> (try split) <;> simp
@[simp] theorem State.acknowledge_ringMode (s : State) (p : PathId) (a : PathSeq) :
    (s.acknowledge p a).ringMode = s.ringMode := by unfold State.acknowledge; dsimp only; split <;> (try split) <;> simp
@[simp] theorem State.acknowledge_launcher (s : State) (p : PathId) (a : PathSeq) :
    (s.acknowledge p a).launcher = s.launcher := by unfold State.acknowledge; dsimp only; split <;> (try split) <;> simp
@[simp] theorem State.acknowledge_cellMem (s : State) (p : PathId) (a : PathSeq) :
    (s.acknowledge p a).cellMem = s.cellMem := by unfold State.acknowledge; dsimp only; split <;> (try split) <;> simp
@[simp] theorem State.acknowledge_house (s : State) (p : PathId) (a : PathSeq) :
    (s.acknowledge p a).house = s.house := by unfold State.acknowledge; dsimp only; split <;> (try split) <;> simp
@[simp] theorem State.acknowledge_patternMem (s : State) (p : PathId) (a : PathSeq) :
    (s.acknowledge p a).patternMem = s.patternMem := by unfold State.acknowledge; dsimp only; split <;> (try split) <;> simp
@[simp] theorem State.acknowledge_port (s : State) (p : PathId) (a : PathSeq) :
    (s.acknowledge p a).port = s.port := by unfold State.acknowledge; dsimp only; split <;> (try split) <;> simp
@[simp] theorem State.acknowledge_frozen (s : State) (p : PathId) (a : PathSeq) :
    (s.acknowledge p a).frozen = s.frozen := by unfold State.acknowledge; dsimp only; split <;> (try split) <;> simp
@[simp] theorem State.acknowledge_frozenLabel (s : State) (p : PathId) (a : PathSeq) :
    (s.acknowledge p a).frozenLabel = s.frozenLabel := by unfold State.acknowledge; dsimp only; split <;> (try split) <;> simp
@[simp] theorem State.acknowledge_freeCount (s : State) (p : PathId) (a : PathSeq) :
    (s.acknowledge p a).freeCount = s.freeCount := by unfold State.acknowledge; dsimp only; split <;> (try split) <;> simp
@[simp] theorem State.acknowledge_pending (s : State) (p : PathId) (a : PathSeq) :
    (s.acknowledge p a).pending = s.pending := by unfold State.acknowledge; dsimp only; split <;> (try split) <;> simp

@[simp] theorem State.slot_acknowledge (s : State) (p : PathId) (a : PathSeq) (j : Fin 16) :
    (s.acknowledge p a).slot j = s.slot j := by simp [State.slot]
@[simp] theorem State.now_acknowledge (s : State) (p : PathId) (a : PathSeq) :
    (s.acknowledge p a).now = s.now := by simp [State.now]

/-- The other path sender stays. -/
@[simp] theorem State.acknowledge_other (s : State) (p : PathId) (a : PathSeq) :
    (s.acknowledge p a).path (otherPath p) = s.path (otherPath p) := by unfold State.acknowledge; dsimp only; split <;> (try split) <;> simp

@[simp] theorem State.leaveProbing_power (s : State) (p : PathId) :
    (s.leaveProbing p).power = s.power := by simp [State.leaveProbing]
@[simp] theorem State.leaveProbing_elapsed (s : State) (p : PathId) :
    (s.leaveProbing p).elapsed = s.elapsed := by simp [State.leaveProbing]
@[simp] theorem State.leaveProbing_params (s : State) (p : PathId) :
    (s.leaveProbing p).params = s.params := by simp [State.leaveProbing]
@[simp] theorem State.leaveProbing_store (s : State) (p : PathId) :
    (s.leaveProbing p).store = s.store := by simp [State.leaveProbing]
@[simp] theorem State.leaveProbing_slots (s : State) (p : PathId) :
    (s.leaveProbing p).slots = s.slots := by simp [State.leaveProbing]
@[simp] theorem State.leaveProbing_sumA (s : State) (p : PathId) :
    (s.leaveProbing p).sumA = s.sumA := by simp [State.leaveProbing]
@[simp] theorem State.leaveProbing_sumB (s : State) (p : PathId) :
    (s.leaveProbing p).sumB = s.sumB := by simp [State.leaveProbing]
@[simp] theorem State.leaveProbing_due (s : State) (p : PathId) :
    (s.leaveProbing p).due = s.due := by simp [State.leaveProbing]
@[simp] theorem State.leaveProbing_held (s : State) (p : PathId) :
    (s.leaveProbing p).held = s.held := by simp [State.leaveProbing]
@[simp] theorem State.leaveProbing_ring (s : State) (p : PathId) :
    (s.leaveProbing p).ring = s.ring := by simp [State.leaveProbing]
@[simp] theorem State.leaveProbing_ringMode (s : State) (p : PathId) :
    (s.leaveProbing p).ringMode = s.ringMode := by simp [State.leaveProbing]
@[simp] theorem State.leaveProbing_launcher (s : State) (p : PathId) :
    (s.leaveProbing p).launcher = s.launcher := by simp [State.leaveProbing]
@[simp] theorem State.leaveProbing_cellMem (s : State) (p : PathId) :
    (s.leaveProbing p).cellMem = s.cellMem := by simp [State.leaveProbing]
@[simp] theorem State.leaveProbing_lanes (s : State) (p : PathId) :
    (s.leaveProbing p).lanes = s.lanes := by simp [State.leaveProbing]
@[simp] theorem State.leaveProbing_house (s : State) (p : PathId) :
    (s.leaveProbing p).house = s.house := by simp [State.leaveProbing]
@[simp] theorem State.leaveProbing_pattern (s : State) (p : PathId) :
    (s.leaveProbing p).pattern = s.pattern := by simp [State.leaveProbing]
@[simp] theorem State.leaveProbing_patternMem (s : State) (p : PathId) :
    (s.leaveProbing p).patternMem = s.patternMem := by simp [State.leaveProbing]
@[simp] theorem State.leaveProbing_frozen (s : State) (p : PathId) :
    (s.leaveProbing p).frozen = s.frozen := by simp [State.leaveProbing]
@[simp] theorem State.leaveProbing_frozenLabel (s : State) (p : PathId) :
    (s.leaveProbing p).frozenLabel = s.frozenLabel := by simp [State.leaveProbing]
@[simp] theorem State.leaveProbing_freeCount (s : State) (p : PathId) :
    (s.leaveProbing p).freeCount = s.freeCount := by simp [State.leaveProbing]
@[simp] theorem State.leaveProbing_pending (s : State) (p : PathId) :
    (s.leaveProbing p).pending = s.pending := by simp [State.leaveProbing]

@[simp] theorem State.slot_leaveProbing (s : State) (p : PathId) (j : Fin 16) :
    (s.leaveProbing p).slot j = s.slot j := by simp [State.slot]
@[simp] theorem State.lane_leaveProbing (s : State) (p : PathId) (m : Fin 4) :
    (s.leaveProbing p).lane m = s.lane m := by simp [State.lane]
@[simp] theorem State.now_leaveProbing (s : State) (p : PathId) :
    (s.leaveProbing p).now = s.now := by simp [State.now]

/-- The other path sender stays. -/
@[simp] theorem State.leaveProbing_other (s : State) (p : PathId) :
    (s.leaveProbing p).path (otherPath p) = s.path (otherPath p) := by simp [State.leaveProbing]

/-- A good STATUS in PROBING sets the good run; a full one takes the path to SENDING (R120). -/
theorem State.probeStatus_cases (s : State) (p : PathId) (t : StatusRecord) (k : Nat) :
    (∃ r, s.probeStatus p t k = s.updPath p fun x => { x with goodRun := r })
      ∨ (∃ r, t.repeats = false ∧ (s.params.path p).nGood ≤ r
          ∧ s.probeStatus p t k = (s.updPath p fun x => { x with goodRun := r }).leaveProbing p) := by
  unfold State.probeStatus
  cases ht : t.repeats with
  | true => exact .inl ⟨0, rfl⟩
  | false =>
    have h : (s.updPath p fun x => { x with goodRun := if 0 < k then 1 else min (x.goodRun + 1) 15 }) =
        s.updPath p fun x => { x with goodRun := if 0 < k then 1 else min ((s.path p).goodRun + 1) 15 } := by
      cases p <;> rfl
    simp only [h, Bool.false_eq_true, if_false, State.path_updPath]
    by_cases hn : (s.params.path p).nGood ≤ (if 0 < k then 1 else min ((s.path p).goodRun + 1) 15)
    · exact .inr ⟨_, trivial, hn, by rw [if_pos (by simpa using hn)]⟩
    · exact .inl ⟨_, by rw [if_neg (by simpa using hn)]⟩

@[simp] theorem State.probeStatus_power (s : State) (p : PathId) (t : StatusRecord) (k : Nat) :
    (s.probeStatus p t k).power = s.power := by
  rcases s.probeStatus_cases p t k with ⟨_, h⟩ | ⟨_, _, _, h⟩ <;> simp [h]
@[simp] theorem State.probeStatus_elapsed (s : State) (p : PathId) (t : StatusRecord) (k : Nat) :
    (s.probeStatus p t k).elapsed = s.elapsed := by
  rcases s.probeStatus_cases p t k with ⟨_, h⟩ | ⟨_, _, _, h⟩ <;> simp [h]
@[simp] theorem State.probeStatus_params (s : State) (p : PathId) (t : StatusRecord) (k : Nat) :
    (s.probeStatus p t k).params = s.params := by
  rcases s.probeStatus_cases p t k with ⟨_, h⟩ | ⟨_, _, _, h⟩ <;> simp [h]
@[simp] theorem State.probeStatus_store (s : State) (p : PathId) (t : StatusRecord) (k : Nat) :
    (s.probeStatus p t k).store = s.store := by
  rcases s.probeStatus_cases p t k with ⟨_, h⟩ | ⟨_, _, _, h⟩ <;> simp [h]
@[simp] theorem State.probeStatus_slots (s : State) (p : PathId) (t : StatusRecord) (k : Nat) :
    (s.probeStatus p t k).slots = s.slots := by
  rcases s.probeStatus_cases p t k with ⟨_, h⟩ | ⟨_, _, _, h⟩ <;> simp [h]
@[simp] theorem State.probeStatus_sumA (s : State) (p : PathId) (t : StatusRecord) (k : Nat) :
    (s.probeStatus p t k).sumA = s.sumA := by
  rcases s.probeStatus_cases p t k with ⟨_, h⟩ | ⟨_, _, _, h⟩ <;> simp [h]
@[simp] theorem State.probeStatus_sumB (s : State) (p : PathId) (t : StatusRecord) (k : Nat) :
    (s.probeStatus p t k).sumB = s.sumB := by
  rcases s.probeStatus_cases p t k with ⟨_, h⟩ | ⟨_, _, _, h⟩ <;> simp [h]
@[simp] theorem State.probeStatus_due (s : State) (p : PathId) (t : StatusRecord) (k : Nat) :
    (s.probeStatus p t k).due = s.due := by
  rcases s.probeStatus_cases p t k with ⟨_, h⟩ | ⟨_, _, _, h⟩ <;> simp [h]
@[simp] theorem State.probeStatus_held (s : State) (p : PathId) (t : StatusRecord) (k : Nat) :
    (s.probeStatus p t k).held = s.held := by
  rcases s.probeStatus_cases p t k with ⟨_, h⟩ | ⟨_, _, _, h⟩ <;> simp [h]
@[simp] theorem State.probeStatus_ring (s : State) (p : PathId) (t : StatusRecord) (k : Nat) :
    (s.probeStatus p t k).ring = s.ring := by
  rcases s.probeStatus_cases p t k with ⟨_, h⟩ | ⟨_, _, _, h⟩ <;> simp [h]
@[simp] theorem State.probeStatus_ringMode (s : State) (p : PathId) (t : StatusRecord) (k : Nat) :
    (s.probeStatus p t k).ringMode = s.ringMode := by
  rcases s.probeStatus_cases p t k with ⟨_, h⟩ | ⟨_, _, _, h⟩ <;> simp [h]
@[simp] theorem State.probeStatus_launcher (s : State) (p : PathId) (t : StatusRecord) (k : Nat) :
    (s.probeStatus p t k).launcher = s.launcher := by
  rcases s.probeStatus_cases p t k with ⟨_, h⟩ | ⟨_, _, _, h⟩ <;> simp [h]
@[simp] theorem State.probeStatus_cellMem (s : State) (p : PathId) (t : StatusRecord) (k : Nat) :
    (s.probeStatus p t k).cellMem = s.cellMem := by
  rcases s.probeStatus_cases p t k with ⟨_, h⟩ | ⟨_, _, _, h⟩ <;> simp [h]
@[simp] theorem State.probeStatus_lanes (s : State) (p : PathId) (t : StatusRecord) (k : Nat) :
    (s.probeStatus p t k).lanes = s.lanes := by
  rcases s.probeStatus_cases p t k with ⟨_, h⟩ | ⟨_, _, _, h⟩ <;> simp [h]
@[simp] theorem State.probeStatus_house (s : State) (p : PathId) (t : StatusRecord) (k : Nat) :
    (s.probeStatus p t k).house = s.house := by
  rcases s.probeStatus_cases p t k with ⟨_, h⟩ | ⟨_, _, _, h⟩ <;> simp [h]
@[simp] theorem State.probeStatus_pattern (s : State) (p : PathId) (t : StatusRecord) (k : Nat) :
    (s.probeStatus p t k).pattern = s.pattern := by
  rcases s.probeStatus_cases p t k with ⟨_, h⟩ | ⟨_, _, _, h⟩ <;> simp [h]
@[simp] theorem State.probeStatus_patternMem (s : State) (p : PathId) (t : StatusRecord) (k : Nat) :
    (s.probeStatus p t k).patternMem = s.patternMem := by
  rcases s.probeStatus_cases p t k with ⟨_, h⟩ | ⟨_, _, _, h⟩ <;> simp [h]
@[simp] theorem State.probeStatus_frozen (s : State) (p : PathId) (t : StatusRecord) (k : Nat) :
    (s.probeStatus p t k).frozen = s.frozen := by
  rcases s.probeStatus_cases p t k with ⟨_, h⟩ | ⟨_, _, _, h⟩ <;> simp [h]
@[simp] theorem State.probeStatus_frozenLabel (s : State) (p : PathId) (t : StatusRecord) (k : Nat) :
    (s.probeStatus p t k).frozenLabel = s.frozenLabel := by
  rcases s.probeStatus_cases p t k with ⟨_, h⟩ | ⟨_, _, _, h⟩ <;> simp [h]
@[simp] theorem State.probeStatus_freeCount (s : State) (p : PathId) (t : StatusRecord) (k : Nat) :
    (s.probeStatus p t k).freeCount = s.freeCount := by
  rcases s.probeStatus_cases p t k with ⟨_, h⟩ | ⟨_, _, _, h⟩ <;> simp [h]
@[simp] theorem State.probeStatus_pending (s : State) (p : PathId) (t : StatusRecord) (k : Nat) :
    (s.probeStatus p t k).pending = s.pending := by
  rcases s.probeStatus_cases p t k with ⟨_, h⟩ | ⟨_, _, _, h⟩ <;> simp [h]

@[simp] theorem State.slot_probeStatus (s : State) (p : PathId) (t : StatusRecord) (k : Nat) (j : Fin 16) :
    (s.probeStatus p t k).slot j = s.slot j := by simp [State.slot]
@[simp] theorem State.lane_probeStatus (s : State) (p : PathId) (t : StatusRecord) (k : Nat) (m : Fin 4) :
    (s.probeStatus p t k).lane m = s.lane m := by simp [State.lane]
@[simp] theorem State.now_probeStatus (s : State) (p : PathId) (t : StatusRecord) (k : Nat) :
    (s.probeStatus p t k).now = s.now := by simp [State.now]

/-- The other path sender stays. -/
@[simp] theorem State.probeStatus_other (s : State) (p : PathId) (t : StatusRecord) (k : Nat) :
    (s.probeStatus p t k).path (otherPath p) = s.path (otherPath p) := by
  rcases s.probeStatus_cases p t k with ⟨_, h⟩ | ⟨_, _, _, h⟩ <;> simp [h]

@[simp] theorem State.sendingStatus_power (s : State) (p : PathId) (t : StatusRecord) :
    (s.sendingStatus p t).power = s.power := by unfold State.sendingStatus; dsimp only; split <;> (try split) <;> simp
@[simp] theorem State.sendingStatus_elapsed (s : State) (p : PathId) (t : StatusRecord) :
    (s.sendingStatus p t).elapsed = s.elapsed := by unfold State.sendingStatus; dsimp only; split <;> (try split) <;> simp
@[simp] theorem State.sendingStatus_params (s : State) (p : PathId) (t : StatusRecord) :
    (s.sendingStatus p t).params = s.params := by unfold State.sendingStatus; dsimp only; split <;> (try split) <;> simp
@[simp] theorem State.sendingStatus_store (s : State) (p : PathId) (t : StatusRecord) :
    (s.sendingStatus p t).store = s.store := by unfold State.sendingStatus; dsimp only; split <;> (try split) <;> simp
@[simp] theorem State.sendingStatus_slots (s : State) (p : PathId) (t : StatusRecord) :
    (s.sendingStatus p t).slots = s.slots := by unfold State.sendingStatus; dsimp only; split <;> (try split) <;> simp
@[simp] theorem State.sendingStatus_sumA (s : State) (p : PathId) (t : StatusRecord) :
    (s.sendingStatus p t).sumA = s.sumA := by unfold State.sendingStatus; dsimp only; split <;> (try split) <;> simp
@[simp] theorem State.sendingStatus_sumB (s : State) (p : PathId) (t : StatusRecord) :
    (s.sendingStatus p t).sumB = s.sumB := by unfold State.sendingStatus; dsimp only; split <;> (try split) <;> simp
@[simp] theorem State.sendingStatus_due (s : State) (p : PathId) (t : StatusRecord) :
    (s.sendingStatus p t).due = s.due := by unfold State.sendingStatus; dsimp only; split <;> (try split) <;> simp
@[simp] theorem State.sendingStatus_held (s : State) (p : PathId) (t : StatusRecord) :
    (s.sendingStatus p t).held = s.held := by unfold State.sendingStatus; dsimp only; split <;> (try split) <;> simp
@[simp] theorem State.sendingStatus_ring (s : State) (p : PathId) (t : StatusRecord) :
    (s.sendingStatus p t).ring = s.ring := by unfold State.sendingStatus; dsimp only; split <;> (try split) <;> simp
@[simp] theorem State.sendingStatus_ringMode (s : State) (p : PathId) (t : StatusRecord) :
    (s.sendingStatus p t).ringMode = s.ringMode := by unfold State.sendingStatus; dsimp only; split <;> (try split) <;> simp
@[simp] theorem State.sendingStatus_launcher (s : State) (p : PathId) (t : StatusRecord) :
    (s.sendingStatus p t).launcher = s.launcher := by unfold State.sendingStatus; dsimp only; split <;> (try split) <;> simp
@[simp] theorem State.sendingStatus_cellMem (s : State) (p : PathId) (t : StatusRecord) :
    (s.sendingStatus p t).cellMem = s.cellMem := by unfold State.sendingStatus; dsimp only; split <;> (try split) <;> simp
@[simp] theorem State.sendingStatus_house (s : State) (p : PathId) (t : StatusRecord) :
    (s.sendingStatus p t).house = s.house := by unfold State.sendingStatus; dsimp only; split <;> (try split) <;> simp
@[simp] theorem State.sendingStatus_patternMem (s : State) (p : PathId) (t : StatusRecord) :
    (s.sendingStatus p t).patternMem = s.patternMem := by unfold State.sendingStatus; dsimp only; split <;> (try split) <;> simp
@[simp] theorem State.sendingStatus_port (s : State) (p : PathId) (t : StatusRecord) :
    (s.sendingStatus p t).port = s.port := by unfold State.sendingStatus; dsimp only; split <;> (try split) <;> simp
@[simp] theorem State.sendingStatus_frozen (s : State) (p : PathId) (t : StatusRecord) :
    (s.sendingStatus p t).frozen = s.frozen := by unfold State.sendingStatus; dsimp only; split <;> (try split) <;> simp
@[simp] theorem State.sendingStatus_frozenLabel (s : State) (p : PathId) (t : StatusRecord) :
    (s.sendingStatus p t).frozenLabel = s.frozenLabel := by unfold State.sendingStatus; dsimp only; split <;> (try split) <;> simp
@[simp] theorem State.sendingStatus_freeCount (s : State) (p : PathId) (t : StatusRecord) :
    (s.sendingStatus p t).freeCount = s.freeCount := by unfold State.sendingStatus; dsimp only; split <;> (try split) <;> simp
@[simp] theorem State.sendingStatus_pending (s : State) (p : PathId) (t : StatusRecord) :
    (s.sendingStatus p t).pending = s.pending := by unfold State.sendingStatus; dsimp only; split <;> (try split) <;> simp

@[simp] theorem State.slot_sendingStatus (s : State) (p : PathId) (t : StatusRecord) (j : Fin 16) :
    (s.sendingStatus p t).slot j = s.slot j := by simp [State.slot]
@[simp] theorem State.now_sendingStatus (s : State) (p : PathId) (t : StatusRecord) :
    (s.sendingStatus p t).now = s.now := by simp [State.now]

/-- The other path sender stays. -/
@[simp] theorem State.sendingStatus_other (s : State) (p : PathId) (t : StatusRecord) :
    (s.sendingStatus p t).path (otherPath p) = s.path (otherPath p) := by unfold State.sendingStatus; dsimp only; split <;> (try split) <;> simp

@[simp] theorem State.repeatingStatus_power (s : State) (p : PathId) (t : StatusRecord) :
    (s.repeatingStatus p t).power = s.power := by unfold State.repeatingStatus; dsimp only; split <;> simp
@[simp] theorem State.repeatingStatus_elapsed (s : State) (p : PathId) (t : StatusRecord) :
    (s.repeatingStatus p t).elapsed = s.elapsed := by unfold State.repeatingStatus; dsimp only; split <;> simp
@[simp] theorem State.repeatingStatus_params (s : State) (p : PathId) (t : StatusRecord) :
    (s.repeatingStatus p t).params = s.params := by unfold State.repeatingStatus; dsimp only; split <;> simp
@[simp] theorem State.repeatingStatus_store (s : State) (p : PathId) (t : StatusRecord) :
    (s.repeatingStatus p t).store = s.store := by unfold State.repeatingStatus; dsimp only; split <;> simp
@[simp] theorem State.repeatingStatus_slots (s : State) (p : PathId) (t : StatusRecord) :
    (s.repeatingStatus p t).slots = s.slots := by unfold State.repeatingStatus; dsimp only; split <;> simp
@[simp] theorem State.repeatingStatus_sumA (s : State) (p : PathId) (t : StatusRecord) :
    (s.repeatingStatus p t).sumA = s.sumA := by unfold State.repeatingStatus; dsimp only; split <;> simp
@[simp] theorem State.repeatingStatus_sumB (s : State) (p : PathId) (t : StatusRecord) :
    (s.repeatingStatus p t).sumB = s.sumB := by unfold State.repeatingStatus; dsimp only; split <;> simp
@[simp] theorem State.repeatingStatus_due (s : State) (p : PathId) (t : StatusRecord) :
    (s.repeatingStatus p t).due = s.due := by unfold State.repeatingStatus; dsimp only; split <;> simp
@[simp] theorem State.repeatingStatus_held (s : State) (p : PathId) (t : StatusRecord) :
    (s.repeatingStatus p t).held = s.held := by unfold State.repeatingStatus; dsimp only; split <;> simp
@[simp] theorem State.repeatingStatus_ring (s : State) (p : PathId) (t : StatusRecord) :
    (s.repeatingStatus p t).ring = s.ring := by unfold State.repeatingStatus; dsimp only; split <;> simp
@[simp] theorem State.repeatingStatus_ringMode (s : State) (p : PathId) (t : StatusRecord) :
    (s.repeatingStatus p t).ringMode = s.ringMode := by unfold State.repeatingStatus; dsimp only; split <;> simp
@[simp] theorem State.repeatingStatus_launcher (s : State) (p : PathId) (t : StatusRecord) :
    (s.repeatingStatus p t).launcher = s.launcher := by unfold State.repeatingStatus; dsimp only; split <;> simp
@[simp] theorem State.repeatingStatus_cellMem (s : State) (p : PathId) (t : StatusRecord) :
    (s.repeatingStatus p t).cellMem = s.cellMem := by unfold State.repeatingStatus; dsimp only; split <;> simp
@[simp] theorem State.repeatingStatus_house (s : State) (p : PathId) (t : StatusRecord) :
    (s.repeatingStatus p t).house = s.house := by unfold State.repeatingStatus; dsimp only; split <;> simp
@[simp] theorem State.repeatingStatus_patternMem (s : State) (p : PathId) (t : StatusRecord) :
    (s.repeatingStatus p t).patternMem = s.patternMem := by unfold State.repeatingStatus; dsimp only; split <;> simp
@[simp] theorem State.repeatingStatus_port (s : State) (p : PathId) (t : StatusRecord) :
    (s.repeatingStatus p t).port = s.port := by unfold State.repeatingStatus; dsimp only; split <;> simp
@[simp] theorem State.repeatingStatus_frozen (s : State) (p : PathId) (t : StatusRecord) :
    (s.repeatingStatus p t).frozen = s.frozen := by unfold State.repeatingStatus; dsimp only; split <;> simp
@[simp] theorem State.repeatingStatus_frozenLabel (s : State) (p : PathId) (t : StatusRecord) :
    (s.repeatingStatus p t).frozenLabel = s.frozenLabel := by unfold State.repeatingStatus; dsimp only; split <;> simp
@[simp] theorem State.repeatingStatus_freeCount (s : State) (p : PathId) (t : StatusRecord) :
    (s.repeatingStatus p t).freeCount = s.freeCount := by unfold State.repeatingStatus; dsimp only; split <;> simp
@[simp] theorem State.repeatingStatus_pending (s : State) (p : PathId) (t : StatusRecord) :
    (s.repeatingStatus p t).pending = s.pending := by unfold State.repeatingStatus; dsimp only; split <;> simp

@[simp] theorem State.slot_repeatingStatus (s : State) (p : PathId) (t : StatusRecord) (j : Fin 16) :
    (s.repeatingStatus p t).slot j = s.slot j := by simp [State.slot]
@[simp] theorem State.now_repeatingStatus (s : State) (p : PathId) (t : StatusRecord) :
    (s.repeatingStatus p t).now = s.now := by simp [State.now]

/-- The other path sender stays. -/
@[simp] theorem State.repeatingStatus_other (s : State) (p : PathId) (t : StatusRecord) :
    (s.repeatingStatus p t).path (otherPath p) = s.path (otherPath p) := by unfold State.repeatingStatus; dsimp only; split <;> simp

@[simp] theorem State.goodStatus_power (s : State) (p : PathId) (t : StatusRecord) :
    (s.goodStatus p t).power = s.power := by unfold State.goodStatus; dsimp only; split <;> simp
@[simp] theorem State.goodStatus_elapsed (s : State) (p : PathId) (t : StatusRecord) :
    (s.goodStatus p t).elapsed = s.elapsed := by unfold State.goodStatus; dsimp only; split <;> simp
@[simp] theorem State.goodStatus_params (s : State) (p : PathId) (t : StatusRecord) :
    (s.goodStatus p t).params = s.params := by unfold State.goodStatus; dsimp only; split <;> simp
@[simp] theorem State.goodStatus_store (s : State) (p : PathId) (t : StatusRecord) :
    (s.goodStatus p t).store = s.store := by unfold State.goodStatus; dsimp only; split <;> simp
@[simp] theorem State.goodStatus_slots (s : State) (p : PathId) (t : StatusRecord) :
    (s.goodStatus p t).slots = s.slots := by unfold State.goodStatus; dsimp only; split <;> simp
@[simp] theorem State.goodStatus_sumA (s : State) (p : PathId) (t : StatusRecord) :
    (s.goodStatus p t).sumA = s.sumA := by unfold State.goodStatus; dsimp only; split <;> simp
@[simp] theorem State.goodStatus_sumB (s : State) (p : PathId) (t : StatusRecord) :
    (s.goodStatus p t).sumB = s.sumB := by unfold State.goodStatus; dsimp only; split <;> simp
@[simp] theorem State.goodStatus_due (s : State) (p : PathId) (t : StatusRecord) :
    (s.goodStatus p t).due = s.due := by unfold State.goodStatus; dsimp only; split <;> simp
@[simp] theorem State.goodStatus_held (s : State) (p : PathId) (t : StatusRecord) :
    (s.goodStatus p t).held = s.held := by unfold State.goodStatus; dsimp only; split <;> simp
@[simp] theorem State.goodStatus_ring (s : State) (p : PathId) (t : StatusRecord) :
    (s.goodStatus p t).ring = s.ring := by unfold State.goodStatus; dsimp only; split <;> simp
@[simp] theorem State.goodStatus_ringMode (s : State) (p : PathId) (t : StatusRecord) :
    (s.goodStatus p t).ringMode = s.ringMode := by unfold State.goodStatus; dsimp only; split <;> simp
@[simp] theorem State.goodStatus_launcher (s : State) (p : PathId) (t : StatusRecord) :
    (s.goodStatus p t).launcher = s.launcher := by unfold State.goodStatus; dsimp only; split <;> simp
@[simp] theorem State.goodStatus_cellMem (s : State) (p : PathId) (t : StatusRecord) :
    (s.goodStatus p t).cellMem = s.cellMem := by unfold State.goodStatus; dsimp only; split <;> simp
@[simp] theorem State.goodStatus_house (s : State) (p : PathId) (t : StatusRecord) :
    (s.goodStatus p t).house = s.house := by unfold State.goodStatus; dsimp only; split <;> simp
@[simp] theorem State.goodStatus_patternMem (s : State) (p : PathId) (t : StatusRecord) :
    (s.goodStatus p t).patternMem = s.patternMem := by unfold State.goodStatus; dsimp only; split <;> simp
@[simp] theorem State.goodStatus_frozen (s : State) (p : PathId) (t : StatusRecord) :
    (s.goodStatus p t).frozen = s.frozen := by unfold State.goodStatus; dsimp only; split <;> simp
@[simp] theorem State.goodStatus_frozenLabel (s : State) (p : PathId) (t : StatusRecord) :
    (s.goodStatus p t).frozenLabel = s.frozenLabel := by unfold State.goodStatus; dsimp only; split <;> simp
@[simp] theorem State.goodStatus_freeCount (s : State) (p : PathId) (t : StatusRecord) :
    (s.goodStatus p t).freeCount = s.freeCount := by unfold State.goodStatus; dsimp only; split <;> simp
@[simp] theorem State.goodStatus_pending (s : State) (p : PathId) (t : StatusRecord) :
    (s.goodStatus p t).pending = s.pending := by unfold State.goodStatus; dsimp only; split <;> simp

@[simp] theorem State.slot_goodStatus (s : State) (p : PathId) (t : StatusRecord) (j : Fin 16) :
    (s.goodStatus p t).slot j = s.slot j := by simp [State.slot]
@[simp] theorem State.now_goodStatus (s : State) (p : PathId) (t : StatusRecord) :
    (s.goodStatus p t).now = s.now := by simp [State.now]

/-- The other path sender stays. -/
@[simp] theorem State.goodStatus_other (s : State) (p : PathId) (t : StatusRecord) :
    (s.goodStatus p t).path (otherPath p) = s.path (otherPath p) := by unfold State.goodStatus; dsimp only; split <;> simp

@[simp] theorem State.takeStatus_power (s : State) (p : PathId) (b : List Byte) :
    (s.takeStatus p b).power = s.power := by unfold State.takeStatus; dsimp only; split <;> (try split) <;> simp
@[simp] theorem State.takeStatus_elapsed (s : State) (p : PathId) (b : List Byte) :
    (s.takeStatus p b).elapsed = s.elapsed := by unfold State.takeStatus; dsimp only; split <;> (try split) <;> simp
@[simp] theorem State.takeStatus_params (s : State) (p : PathId) (b : List Byte) :
    (s.takeStatus p b).params = s.params := by unfold State.takeStatus; dsimp only; split <;> (try split) <;> simp
@[simp] theorem State.takeStatus_store (s : State) (p : PathId) (b : List Byte) :
    (s.takeStatus p b).store = s.store := by unfold State.takeStatus; dsimp only; split <;> (try split) <;> simp
@[simp] theorem State.takeStatus_slots (s : State) (p : PathId) (b : List Byte) :
    (s.takeStatus p b).slots = s.slots := by unfold State.takeStatus; dsimp only; split <;> (try split) <;> simp
@[simp] theorem State.takeStatus_sumA (s : State) (p : PathId) (b : List Byte) :
    (s.takeStatus p b).sumA = s.sumA := by unfold State.takeStatus; dsimp only; split <;> (try split) <;> simp
@[simp] theorem State.takeStatus_sumB (s : State) (p : PathId) (b : List Byte) :
    (s.takeStatus p b).sumB = s.sumB := by unfold State.takeStatus; dsimp only; split <;> (try split) <;> simp
@[simp] theorem State.takeStatus_due (s : State) (p : PathId) (b : List Byte) :
    (s.takeStatus p b).due = s.due := by unfold State.takeStatus; dsimp only; split <;> (try split) <;> simp
@[simp] theorem State.takeStatus_held (s : State) (p : PathId) (b : List Byte) :
    (s.takeStatus p b).held = s.held := by unfold State.takeStatus; dsimp only; split <;> (try split) <;> simp
@[simp] theorem State.takeStatus_ring (s : State) (p : PathId) (b : List Byte) :
    (s.takeStatus p b).ring = s.ring := by unfold State.takeStatus; dsimp only; split <;> (try split) <;> simp
@[simp] theorem State.takeStatus_ringMode (s : State) (p : PathId) (b : List Byte) :
    (s.takeStatus p b).ringMode = s.ringMode := by unfold State.takeStatus; dsimp only; split <;> (try split) <;> simp
@[simp] theorem State.takeStatus_launcher (s : State) (p : PathId) (b : List Byte) :
    (s.takeStatus p b).launcher = s.launcher := by unfold State.takeStatus; dsimp only; split <;> (try split) <;> simp
@[simp] theorem State.takeStatus_cellMem (s : State) (p : PathId) (b : List Byte) :
    (s.takeStatus p b).cellMem = s.cellMem := by unfold State.takeStatus; dsimp only; split <;> (try split) <;> simp
@[simp] theorem State.takeStatus_house (s : State) (p : PathId) (b : List Byte) :
    (s.takeStatus p b).house = s.house := by unfold State.takeStatus; dsimp only; split <;> (try split) <;> simp
@[simp] theorem State.takeStatus_patternMem (s : State) (p : PathId) (b : List Byte) :
    (s.takeStatus p b).patternMem = s.patternMem := by unfold State.takeStatus; dsimp only; split <;> (try split) <;> simp
@[simp] theorem State.takeStatus_frozen (s : State) (p : PathId) (b : List Byte) :
    (s.takeStatus p b).frozen = s.frozen := by unfold State.takeStatus; dsimp only; split <;> (try split) <;> simp
@[simp] theorem State.takeStatus_frozenLabel (s : State) (p : PathId) (b : List Byte) :
    (s.takeStatus p b).frozenLabel = s.frozenLabel := by unfold State.takeStatus; dsimp only; split <;> (try split) <;> simp
@[simp] theorem State.takeStatus_freeCount (s : State) (p : PathId) (b : List Byte) :
    (s.takeStatus p b).freeCount = s.freeCount := by unfold State.takeStatus; dsimp only; split <;> (try split) <;> simp
@[simp] theorem State.takeStatus_pending (s : State) (p : PathId) (b : List Byte) :
    (s.takeStatus p b).pending = s.pending := by unfold State.takeStatus; dsimp only; split <;> (try split) <;> simp

@[simp] theorem State.slot_takeStatus (s : State) (p : PathId) (b : List Byte) (j : Fin 16) :
    (s.takeStatus p b).slot j = s.slot j := by simp [State.slot]
@[simp] theorem State.now_takeStatus (s : State) (p : PathId) (b : List Byte) :
    (s.takeStatus p b).now = s.now := by simp [State.now]

/-- The other path sender stays. -/
@[simp] theorem State.takeStatus_other (s : State) (p : PathId) (b : List Byte) :
    (s.takeStatus p b).path (otherPath p) = s.path (otherPath p) := by unfold State.takeStatus; dsimp only; split <;> (try split) <;> simp

end Sys2Proof.Machine
end

