-- ==== Sys2Proof/Laws/Lanes.lean ====
section
/-!
SUPPORT. The feed lanes: the taking of records, the verdict on a PACKET, acceptance, batches and lane reset.
-/

namespace Sys2Proof.Machine

open Sys2Proof

@[simp] theorem State.badRecord_power (s : State) (l : Fin 4) :
    (s.badRecord l).power = s.power := by simp [State.badRecord]
@[simp] theorem State.badRecord_elapsed (s : State) (l : Fin 4) :
    (s.badRecord l).elapsed = s.elapsed := by simp [State.badRecord]
@[simp] theorem State.badRecord_params (s : State) (l : Fin 4) :
    (s.badRecord l).params = s.params := by simp [State.badRecord]
@[simp] theorem State.badRecord_store (s : State) (l : Fin 4) :
    (s.badRecord l).store = s.store := by simp [State.badRecord]
@[simp] theorem State.badRecord_slots (s : State) (l : Fin 4) :
    (s.badRecord l).slots = s.slots := by simp [State.badRecord]
@[simp] theorem State.badRecord_sumA (s : State) (l : Fin 4) :
    (s.badRecord l).sumA = s.sumA := by simp [State.badRecord]
@[simp] theorem State.badRecord_sumB (s : State) (l : Fin 4) :
    (s.badRecord l).sumB = s.sumB := by simp [State.badRecord]
@[simp] theorem State.badRecord_due (s : State) (l : Fin 4) :
    (s.badRecord l).due = s.due := by simp [State.badRecord]
@[simp] theorem State.badRecord_held (s : State) (l : Fin 4) :
    (s.badRecord l).held = s.held := by simp [State.badRecord]
@[simp] theorem State.badRecord_ring (s : State) (l : Fin 4) :
    (s.badRecord l).ring = s.ring := by simp [State.badRecord]
@[simp] theorem State.badRecord_ringMode (s : State) (l : Fin 4) :
    (s.badRecord l).ringMode = s.ringMode := by simp [State.badRecord]
@[simp] theorem State.badRecord_launcher (s : State) (l : Fin 4) :
    (s.badRecord l).launcher = s.launcher := by simp [State.badRecord]
@[simp] theorem State.badRecord_entries (s : State) (l : Fin 4) :
    (s.badRecord l).entries = s.entries := by simp [State.badRecord]
@[simp] theorem State.badRecord_cellMem (s : State) (l : Fin 4) :
    (s.badRecord l).cellMem = s.cellMem := by simp [State.badRecord]
@[simp] theorem State.badRecord_pathA (s : State) (l : Fin 4) :
    (s.badRecord l).pathA = s.pathA := by simp [State.badRecord]
@[simp] theorem State.badRecord_pathB (s : State) (l : Fin 4) :
    (s.badRecord l).pathB = s.pathB := by simp [State.badRecord]
@[simp] theorem State.badRecord_house (s : State) (l : Fin 4) :
    (s.badRecord l).house = s.house := by simp [State.badRecord]
@[simp] theorem State.badRecord_pattern (s : State) (l : Fin 4) :
    (s.badRecord l).pattern = s.pattern := by simp [State.badRecord]
@[simp] theorem State.badRecord_patternMem (s : State) (l : Fin 4) :
    (s.badRecord l).patternMem = s.patternMem := by simp [State.badRecord]
@[simp] theorem State.badRecord_frozen (s : State) (l : Fin 4) :
    (s.badRecord l).frozen = s.frozen := by simp [State.badRecord]
@[simp] theorem State.badRecord_frozenLabel (s : State) (l : Fin 4) :
    (s.badRecord l).frozenLabel = s.frozenLabel := by simp [State.badRecord]
@[simp] theorem State.badRecord_freeCount (s : State) (l : Fin 4) :
    (s.badRecord l).freeCount = s.freeCount := by simp [State.badRecord]
@[simp] theorem State.badRecord_pending (s : State) (l : Fin 4) :
    (s.badRecord l).pending = s.pending := by simp [State.badRecord]

@[simp] theorem State.slot_badRecord (s : State) (l : Fin 4) (j : Fin 16) :
    (s.badRecord l).slot j = s.slot j := by simp [State.slot]
@[simp] theorem State.path_badRecord (s : State) (l : Fin 4) (z : PathId) :
    (s.badRecord l).path z = s.path z := by cases z <;> simp [State.path]
@[simp] theorem State.now_badRecord (s : State) (l : Fin 4) :
    (s.badRecord l).now = s.now := by simp [State.now]
@[simp] theorem State.entry_badRecord (s : State) (l : Fin 4) (a : Nat) :
    (s.badRecord l).entry? a = s.entry? a := by simp [State.entry?]

@[simp] theorem State.noteTaken_power (s : State) (l : Fin 4) (q : LaneSeq) :
    (s.noteTaken l q).power = s.power := by simp [State.noteTaken]
@[simp] theorem State.noteTaken_elapsed (s : State) (l : Fin 4) (q : LaneSeq) :
    (s.noteTaken l q).elapsed = s.elapsed := by simp [State.noteTaken]
@[simp] theorem State.noteTaken_params (s : State) (l : Fin 4) (q : LaneSeq) :
    (s.noteTaken l q).params = s.params := by simp [State.noteTaken]
@[simp] theorem State.noteTaken_store (s : State) (l : Fin 4) (q : LaneSeq) :
    (s.noteTaken l q).store = s.store := by simp [State.noteTaken]
@[simp] theorem State.noteTaken_slots (s : State) (l : Fin 4) (q : LaneSeq) :
    (s.noteTaken l q).slots = s.slots := by simp [State.noteTaken]
@[simp] theorem State.noteTaken_sumA (s : State) (l : Fin 4) (q : LaneSeq) :
    (s.noteTaken l q).sumA = s.sumA := by simp [State.noteTaken]
@[simp] theorem State.noteTaken_sumB (s : State) (l : Fin 4) (q : LaneSeq) :
    (s.noteTaken l q).sumB = s.sumB := by simp [State.noteTaken]
@[simp] theorem State.noteTaken_due (s : State) (l : Fin 4) (q : LaneSeq) :
    (s.noteTaken l q).due = s.due := by simp [State.noteTaken]
@[simp] theorem State.noteTaken_held (s : State) (l : Fin 4) (q : LaneSeq) :
    (s.noteTaken l q).held = s.held := by simp [State.noteTaken]
@[simp] theorem State.noteTaken_ring (s : State) (l : Fin 4) (q : LaneSeq) :
    (s.noteTaken l q).ring = s.ring := by simp [State.noteTaken]
@[simp] theorem State.noteTaken_ringMode (s : State) (l : Fin 4) (q : LaneSeq) :
    (s.noteTaken l q).ringMode = s.ringMode := by simp [State.noteTaken]
@[simp] theorem State.noteTaken_launcher (s : State) (l : Fin 4) (q : LaneSeq) :
    (s.noteTaken l q).launcher = s.launcher := by simp [State.noteTaken]
@[simp] theorem State.noteTaken_entries (s : State) (l : Fin 4) (q : LaneSeq) :
    (s.noteTaken l q).entries = s.entries := by simp [State.noteTaken]
@[simp] theorem State.noteTaken_cellMem (s : State) (l : Fin 4) (q : LaneSeq) :
    (s.noteTaken l q).cellMem = s.cellMem := by simp [State.noteTaken]
@[simp] theorem State.noteTaken_pathA (s : State) (l : Fin 4) (q : LaneSeq) :
    (s.noteTaken l q).pathA = s.pathA := by simp [State.noteTaken]
@[simp] theorem State.noteTaken_pathB (s : State) (l : Fin 4) (q : LaneSeq) :
    (s.noteTaken l q).pathB = s.pathB := by simp [State.noteTaken]
@[simp] theorem State.noteTaken_house (s : State) (l : Fin 4) (q : LaneSeq) :
    (s.noteTaken l q).house = s.house := by simp [State.noteTaken]
@[simp] theorem State.noteTaken_pattern (s : State) (l : Fin 4) (q : LaneSeq) :
    (s.noteTaken l q).pattern = s.pattern := by simp [State.noteTaken]
@[simp] theorem State.noteTaken_patternMem (s : State) (l : Fin 4) (q : LaneSeq) :
    (s.noteTaken l q).patternMem = s.patternMem := by simp [State.noteTaken]
@[simp] theorem State.noteTaken_port (s : State) (l : Fin 4) (q : LaneSeq) :
    (s.noteTaken l q).port = s.port := by simp [State.noteTaken]
@[simp] theorem State.noteTaken_frozen (s : State) (l : Fin 4) (q : LaneSeq) :
    (s.noteTaken l q).frozen = s.frozen := by simp [State.noteTaken]
@[simp] theorem State.noteTaken_frozenLabel (s : State) (l : Fin 4) (q : LaneSeq) :
    (s.noteTaken l q).frozenLabel = s.frozenLabel := by simp [State.noteTaken]
@[simp] theorem State.noteTaken_freeCount (s : State) (l : Fin 4) (q : LaneSeq) :
    (s.noteTaken l q).freeCount = s.freeCount := by simp [State.noteTaken]
@[simp] theorem State.noteTaken_pending (s : State) (l : Fin 4) (q : LaneSeq) :
    (s.noteTaken l q).pending = s.pending := by simp [State.noteTaken]

@[simp] theorem State.slot_noteTaken (s : State) (l : Fin 4) (q : LaneSeq) (j : Fin 16) :
    (s.noteTaken l q).slot j = s.slot j := by simp [State.slot]
@[simp] theorem State.path_noteTaken (s : State) (l : Fin 4) (q : LaneSeq) (z : PathId) :
    (s.noteTaken l q).path z = s.path z := by cases z <;> simp [State.path]
@[simp] theorem State.now_noteTaken (s : State) (l : Fin 4) (q : LaneSeq) :
    (s.noteTaken l q).now = s.now := by simp [State.now]
@[simp] theorem State.entry_noteTaken (s : State) (l : Fin 4) (q : LaneSeq) (a : Nat) :
    (s.noteTaken l q).entry? a = s.entry? a := by simp [State.entry?]

@[simp] theorem State.lane_noteTaken_self (s : State) (l : Fin 4) (q : LaneSeq) :
    (s.noteTaken l q).lane l = { s.lane l with expectation := some (q + 1) } := by
  simp [State.noteTaken]

theorem State.lane_noteTaken_ne (s : State) (l m : Fin 4) (q : LaneSeq) (h : m ≠ l) :
    (s.noteTaken l q).lane m = s.lane m := by
  simp [State.noteTaken, State.lane_updLane_ne _ l m _ h]

/-- A record of a lane sequence is taken in order, taken with a gap counted, or not taken (R62). -/
theorem State.sequenced_cases (s : State) (l : Fin 4) (q : LaneSeq) :
    (((s.lane l).expectation = none ∨ (s.lane l).expectation = some q) ∧ s.sequenced l q = some (s.noteTaken l q))
    ∨ (∃ e, (s.lane l).expectation = some e ∧ 1 ≤ (q - e).toNat ∧ (q - e).toNat ≤ 32767
        ∧ s.sequenced l q = some ((s.noteTaken l q).countLane l .seqGap 1))
    ∨ (∃ e, (s.lane l).expectation = some e ∧ 32768 ≤ (q - e).toNat ∧ s.sequenced l q = none) := by
  unfold State.sequenced
  cases he : (s.lane l).expectation with
  | none => exact .inl ⟨.inl rfl, rfl⟩
  | some e =>
    dsimp only
    by_cases h0 : (q - e).toNat = 0
    · have hq : q - e = 0 := by
        apply BitVec.eq_of_toNat_eq; simpa using h0
      have : e = q := by
        have := congrArg (· + e) hq
        simpa using this.symm
      subst this
      exact .inl ⟨.inr rfl, by simp⟩
    · by_cases h1 : (q - e).toNat ≤ 32767
      · exact .inr (.inl ⟨e, rfl, by omega, h1, by rw [if_neg h0, if_pos h1]⟩)
      · exact .inr (.inr ⟨e, rfl, by omega, by rw [if_neg h0, if_neg h1]⟩)

/-- Whatever a taken record finds, only its lane and the counters have moved before its dispatch. -/
theorem State.sequenced_frame {s t : State} {l : Fin 4} {q : LaneSeq} (h : s.sequenced l q = some t) :
    t = { (s.noteTaken l q) with active := t.active } := by
  rcases s.sequenced_cases l q with ⟨_, hs⟩ | ⟨_, _, _, _, hs⟩ | ⟨_, _, _, hs⟩ <;> rw [hs] at h
  · cases h; rfl
  · cases h; rfl
  · cases h

/-! ## CLOSE -/

@[simp] theorem State.takeClose_power (s : State) (i : Fin 16) (b : Bool) :
    (s.takeClose i b).power = s.power := by unfold State.takeClose; split <;> (try split) <;> simp
@[simp] theorem State.takeClose_elapsed (s : State) (i : Fin 16) (b : Bool) :
    (s.takeClose i b).elapsed = s.elapsed := by unfold State.takeClose; split <;> (try split) <;> simp
@[simp] theorem State.takeClose_params (s : State) (i : Fin 16) (b : Bool) :
    (s.takeClose i b).params = s.params := by unfold State.takeClose; split <;> (try split) <;> simp
@[simp] theorem State.takeClose_store (s : State) (i : Fin 16) (b : Bool) :
    (s.takeClose i b).store = s.store := by unfold State.takeClose; split <;> (try split) <;> simp
@[simp] theorem State.takeClose_ring (s : State) (i : Fin 16) (b : Bool) :
    (s.takeClose i b).ring = s.ring := by unfold State.takeClose; split <;> (try split) <;> simp
@[simp] theorem State.takeClose_ringMode (s : State) (i : Fin 16) (b : Bool) :
    (s.takeClose i b).ringMode = s.ringMode := by unfold State.takeClose; split <;> (try split) <;> simp
@[simp] theorem State.takeClose_launcher (s : State) (i : Fin 16) (b : Bool) :
    (s.takeClose i b).launcher = s.launcher := by unfold State.takeClose; split <;> (try split) <;> simp
@[simp] theorem State.takeClose_cellMem (s : State) (i : Fin 16) (b : Bool) :
    (s.takeClose i b).cellMem = s.cellMem := by unfold State.takeClose; split <;> (try split) <;> simp
@[simp] theorem State.takeClose_pathA (s : State) (i : Fin 16) (b : Bool) :
    (s.takeClose i b).pathA = s.pathA := by unfold State.takeClose; split <;> (try split) <;> simp
@[simp] theorem State.takeClose_pathB (s : State) (i : Fin 16) (b : Bool) :
    (s.takeClose i b).pathB = s.pathB := by unfold State.takeClose; split <;> (try split) <;> simp
@[simp] theorem State.takeClose_house (s : State) (i : Fin 16) (b : Bool) :
    (s.takeClose i b).house = s.house := by unfold State.takeClose; split <;> (try split) <;> simp
@[simp] theorem State.takeClose_patternMem (s : State) (i : Fin 16) (b : Bool) :
    (s.takeClose i b).patternMem = s.patternMem := by unfold State.takeClose; split <;> (try split) <;> simp
@[simp] theorem State.takeClose_frozen (s : State) (i : Fin 16) (b : Bool) :
    (s.takeClose i b).frozen = s.frozen := by unfold State.takeClose; split <;> (try split) <;> simp
@[simp] theorem State.takeClose_frozenLabel (s : State) (i : Fin 16) (b : Bool) :
    (s.takeClose i b).frozenLabel = s.frozenLabel := by unfold State.takeClose; split <;> (try split) <;> simp
@[simp] theorem State.takeClose_freeCount (s : State) (i : Fin 16) (b : Bool) :
    (s.takeClose i b).freeCount = s.freeCount := by unfold State.takeClose; split <;> (try split) <;> simp
@[simp] theorem State.takeClose_pending (s : State) (i : Fin 16) (b : Bool) :
    (s.takeClose i b).pending = s.pending := by unfold State.takeClose; split <;> (try split) <;> simp

@[simp] theorem State.path_takeClose (s : State) (i : Fin 16) (b : Bool) (z : PathId) :
    (s.takeClose i b).path z = s.path z := by cases z <;> simp [State.path]
@[simp] theorem State.now_takeClose (s : State) (i : Fin 16) (b : Bool) :
    (s.takeClose i b).now = s.now := by simp [State.now]

/-! ## PACKET -/

@[simp] theorem State.dropPacket_power (s : State) (l : Fin 4) (c : Nat) (k : LaneCounter) :
    (s.dropPacket l c k).power = s.power := by simp [State.dropPacket]
@[simp] theorem State.dropPacket_elapsed (s : State) (l : Fin 4) (c : Nat) (k : LaneCounter) :
    (s.dropPacket l c k).elapsed = s.elapsed := by simp [State.dropPacket]
@[simp] theorem State.dropPacket_params (s : State) (l : Fin 4) (c : Nat) (k : LaneCounter) :
    (s.dropPacket l c k).params = s.params := by simp [State.dropPacket]
@[simp] theorem State.dropPacket_store (s : State) (l : Fin 4) (c : Nat) (k : LaneCounter) :
    (s.dropPacket l c k).store = s.store := by simp [State.dropPacket]
@[simp] theorem State.dropPacket_slots (s : State) (l : Fin 4) (c : Nat) (k : LaneCounter) :
    (s.dropPacket l c k).slots = s.slots := by simp [State.dropPacket]
@[simp] theorem State.dropPacket_sumA (s : State) (l : Fin 4) (c : Nat) (k : LaneCounter) :
    (s.dropPacket l c k).sumA = s.sumA := by simp [State.dropPacket]
@[simp] theorem State.dropPacket_sumB (s : State) (l : Fin 4) (c : Nat) (k : LaneCounter) :
    (s.dropPacket l c k).sumB = s.sumB := by simp [State.dropPacket]
@[simp] theorem State.dropPacket_due (s : State) (l : Fin 4) (c : Nat) (k : LaneCounter) :
    (s.dropPacket l c k).due = s.due := by simp [State.dropPacket]
@[simp] theorem State.dropPacket_held (s : State) (l : Fin 4) (c : Nat) (k : LaneCounter) :
    (s.dropPacket l c k).held = s.held := by simp [State.dropPacket]
@[simp] theorem State.dropPacket_ring (s : State) (l : Fin 4) (c : Nat) (k : LaneCounter) :
    (s.dropPacket l c k).ring = s.ring := by simp [State.dropPacket]
@[simp] theorem State.dropPacket_ringMode (s : State) (l : Fin 4) (c : Nat) (k : LaneCounter) :
    (s.dropPacket l c k).ringMode = s.ringMode := by simp [State.dropPacket]
@[simp] theorem State.dropPacket_launcher (s : State) (l : Fin 4) (c : Nat) (k : LaneCounter) :
    (s.dropPacket l c k).launcher = s.launcher := by simp [State.dropPacket]
@[simp] theorem State.dropPacket_entries (s : State) (l : Fin 4) (c : Nat) (k : LaneCounter) :
    (s.dropPacket l c k).entries = s.entries := by simp [State.dropPacket]
@[simp] theorem State.dropPacket_cellMem (s : State) (l : Fin 4) (c : Nat) (k : LaneCounter) :
    (s.dropPacket l c k).cellMem = s.cellMem := by simp [State.dropPacket]
@[simp] theorem State.dropPacket_pathA (s : State) (l : Fin 4) (c : Nat) (k : LaneCounter) :
    (s.dropPacket l c k).pathA = s.pathA := by simp [State.dropPacket]
@[simp] theorem State.dropPacket_pathB (s : State) (l : Fin 4) (c : Nat) (k : LaneCounter) :
    (s.dropPacket l c k).pathB = s.pathB := by simp [State.dropPacket]
@[simp] theorem State.dropPacket_house (s : State) (l : Fin 4) (c : Nat) (k : LaneCounter) :
    (s.dropPacket l c k).house = s.house := by simp [State.dropPacket]
@[simp] theorem State.dropPacket_pattern (s : State) (l : Fin 4) (c : Nat) (k : LaneCounter) :
    (s.dropPacket l c k).pattern = s.pattern := by simp [State.dropPacket]
@[simp] theorem State.dropPacket_patternMem (s : State) (l : Fin 4) (c : Nat) (k : LaneCounter) :
    (s.dropPacket l c k).patternMem = s.patternMem := by simp [State.dropPacket]
@[simp] theorem State.dropPacket_port (s : State) (l : Fin 4) (c : Nat) (k : LaneCounter) :
    (s.dropPacket l c k).port = s.port := by simp [State.dropPacket]
@[simp] theorem State.dropPacket_frozen (s : State) (l : Fin 4) (c : Nat) (k : LaneCounter) :
    (s.dropPacket l c k).frozen = s.frozen := by simp [State.dropPacket]
@[simp] theorem State.dropPacket_frozenLabel (s : State) (l : Fin 4) (c : Nat) (k : LaneCounter) :
    (s.dropPacket l c k).frozenLabel = s.frozenLabel := by simp [State.dropPacket]
@[simp] theorem State.dropPacket_freeCount (s : State) (l : Fin 4) (c : Nat) (k : LaneCounter) :
    (s.dropPacket l c k).freeCount = s.freeCount := by simp [State.dropPacket]
@[simp] theorem State.dropPacket_pending (s : State) (l : Fin 4) (c : Nat) (k : LaneCounter) :
    (s.dropPacket l c k).pending = s.pending := by simp [State.dropPacket]

@[simp] theorem State.slot_dropPacket (s : State) (l : Fin 4) (c : Nat) (k : LaneCounter) (j : Fin 16) :
    (s.dropPacket l c k).slot j = s.slot j := by simp [State.slot]
@[simp] theorem State.path_dropPacket (s : State) (l : Fin 4) (c : Nat) (k : LaneCounter) (z : PathId) :
    (s.dropPacket l c k).path z = s.path z := by cases z <;> simp [State.path]
@[simp] theorem State.now_dropPacket (s : State) (l : Fin 4) (c : Nat) (k : LaneCounter) :
    (s.dropPacket l c k).now = s.now := by simp [State.now]
@[simp] theorem State.entry_dropPacket (s : State) (l : Fin 4) (c : Nat) (k : LaneCounter) (a : Nat) :
    (s.dropPacket l c k).entry? a = s.entry? a := by simp [State.entry?]

@[simp] theorem State.markTailFull_power (s : State) (i : Fin 16) :
    (s.markTailFull i).power = s.power := by
  unfold State.markTailFull; split
  · rfl
  · split
    · rfl
    · split <;> simp
@[simp] theorem State.markTailFull_elapsed (s : State) (i : Fin 16) :
    (s.markTailFull i).elapsed = s.elapsed := by
  unfold State.markTailFull; split
  · rfl
  · split
    · rfl
    · split <;> simp
@[simp] theorem State.markTailFull_params (s : State) (i : Fin 16) :
    (s.markTailFull i).params = s.params := by
  unfold State.markTailFull; split
  · rfl
  · split
    · rfl
    · split <;> simp
@[simp] theorem State.markTailFull_store (s : State) (i : Fin 16) :
    (s.markTailFull i).store = s.store := by
  unfold State.markTailFull; split
  · rfl
  · split
    · rfl
    · split <;> simp
@[simp] theorem State.markTailFull_slots (s : State) (i : Fin 16) :
    (s.markTailFull i).slots = s.slots := by
  unfold State.markTailFull; split
  · rfl
  · split
    · rfl
    · split <;> simp
@[simp] theorem State.markTailFull_sumA (s : State) (i : Fin 16) :
    (s.markTailFull i).sumA = s.sumA := by
  unfold State.markTailFull; split
  · rfl
  · split
    · rfl
    · split <;> simp
@[simp] theorem State.markTailFull_sumB (s : State) (i : Fin 16) :
    (s.markTailFull i).sumB = s.sumB := by
  unfold State.markTailFull; split
  · rfl
  · split
    · rfl
    · split <;> simp
@[simp] theorem State.markTailFull_due (s : State) (i : Fin 16) :
    (s.markTailFull i).due = s.due := by
  unfold State.markTailFull; split
  · rfl
  · split
    · rfl
    · split <;> simp
@[simp] theorem State.markTailFull_held (s : State) (i : Fin 16) :
    (s.markTailFull i).held = s.held := by
  unfold State.markTailFull; split
  · rfl
  · split
    · rfl
    · split <;> simp
@[simp] theorem State.markTailFull_ring (s : State) (i : Fin 16) :
    (s.markTailFull i).ring = s.ring := by
  unfold State.markTailFull; split
  · rfl
  · split
    · rfl
    · split <;> simp
@[simp] theorem State.markTailFull_ringMode (s : State) (i : Fin 16) :
    (s.markTailFull i).ringMode = s.ringMode := by
  unfold State.markTailFull; split
  · rfl
  · split
    · rfl
    · split <;> simp
@[simp] theorem State.markTailFull_launcher (s : State) (i : Fin 16) :
    (s.markTailFull i).launcher = s.launcher := by
  unfold State.markTailFull; split
  · rfl
  · split
    · rfl
    · split <;> simp
@[simp] theorem State.markTailFull_cellMem (s : State) (i : Fin 16) :
    (s.markTailFull i).cellMem = s.cellMem := by
  unfold State.markTailFull; split
  · rfl
  · split
    · rfl
    · split <;> simp
@[simp] theorem State.markTailFull_lanes (s : State) (i : Fin 16) :
    (s.markTailFull i).lanes = s.lanes := by
  unfold State.markTailFull; split
  · rfl
  · split
    · rfl
    · split <;> simp
@[simp] theorem State.markTailFull_pathA (s : State) (i : Fin 16) :
    (s.markTailFull i).pathA = s.pathA := by
  unfold State.markTailFull; split
  · rfl
  · split
    · rfl
    · split <;> simp
@[simp] theorem State.markTailFull_pathB (s : State) (i : Fin 16) :
    (s.markTailFull i).pathB = s.pathB := by
  unfold State.markTailFull; split
  · rfl
  · split
    · rfl
    · split <;> simp
@[simp] theorem State.markTailFull_house (s : State) (i : Fin 16) :
    (s.markTailFull i).house = s.house := by
  unfold State.markTailFull; split
  · rfl
  · split
    · rfl
    · split <;> simp
@[simp] theorem State.markTailFull_pattern (s : State) (i : Fin 16) :
    (s.markTailFull i).pattern = s.pattern := by
  unfold State.markTailFull; split
  · rfl
  · split
    · rfl
    · split <;> simp
@[simp] theorem State.markTailFull_patternMem (s : State) (i : Fin 16) :
    (s.markTailFull i).patternMem = s.patternMem := by
  unfold State.markTailFull; split
  · rfl
  · split
    · rfl
    · split <;> simp
@[simp] theorem State.markTailFull_port (s : State) (i : Fin 16) :
    (s.markTailFull i).port = s.port := by
  unfold State.markTailFull; split
  · rfl
  · split
    · rfl
    · split <;> simp
@[simp] theorem State.markTailFull_frozen (s : State) (i : Fin 16) :
    (s.markTailFull i).frozen = s.frozen := by
  unfold State.markTailFull; split
  · rfl
  · split
    · rfl
    · split <;> simp
@[simp] theorem State.markTailFull_frozenLabel (s : State) (i : Fin 16) :
    (s.markTailFull i).frozenLabel = s.frozenLabel := by
  unfold State.markTailFull; split
  · rfl
  · split
    · rfl
    · split <;> simp
@[simp] theorem State.markTailFull_freeCount (s : State) (i : Fin 16) :
    (s.markTailFull i).freeCount = s.freeCount := by
  unfold State.markTailFull; split
  · rfl
  · split
    · rfl
    · split <;> simp
@[simp] theorem State.markTailFull_pending (s : State) (i : Fin 16) :
    (s.markTailFull i).pending = s.pending := by
  unfold State.markTailFull; split
  · rfl
  · split
    · rfl
    · split <;> simp

@[simp] theorem State.slot_markTailFull (s : State) (i : Fin 16) (j : Fin 16) :
    (s.markTailFull i).slot j = s.slot j := by simp [State.slot]
@[simp] theorem State.lane_markTailFull (s : State) (i : Fin 16) (m : Fin 4) :
    (s.markTailFull i).lane m = s.lane m := by simp [State.lane]
@[simp] theorem State.path_markTailFull (s : State) (i : Fin 16) (z : PathId) :
    (s.markTailFull i).path z = s.path z := by cases z <;> simp [State.path]
@[simp] theorem State.now_markTailFull (s : State) (i : Fin 16) :
    (s.markTailFull i).now = s.now := by simp [State.now]

@[simp] theorem State.countIf_power (s : State) (i : Fin 16) (b : Bool) (c : SlotCounter) :
    (s.countIf i b c).power = s.power := by unfold State.countIf; split <;> simp
@[simp] theorem State.countIf_elapsed (s : State) (i : Fin 16) (b : Bool) (c : SlotCounter) :
    (s.countIf i b c).elapsed = s.elapsed := by unfold State.countIf; split <;> simp
@[simp] theorem State.countIf_params (s : State) (i : Fin 16) (b : Bool) (c : SlotCounter) :
    (s.countIf i b c).params = s.params := by unfold State.countIf; split <;> simp
@[simp] theorem State.countIf_store (s : State) (i : Fin 16) (b : Bool) (c : SlotCounter) :
    (s.countIf i b c).store = s.store := by unfold State.countIf; split <;> simp
@[simp] theorem State.countIf_slots (s : State) (i : Fin 16) (b : Bool) (c : SlotCounter) :
    (s.countIf i b c).slots = s.slots := by unfold State.countIf; split <;> simp
@[simp] theorem State.countIf_sumA (s : State) (i : Fin 16) (b : Bool) (c : SlotCounter) :
    (s.countIf i b c).sumA = s.sumA := by unfold State.countIf; split <;> simp
@[simp] theorem State.countIf_sumB (s : State) (i : Fin 16) (b : Bool) (c : SlotCounter) :
    (s.countIf i b c).sumB = s.sumB := by unfold State.countIf; split <;> simp
@[simp] theorem State.countIf_due (s : State) (i : Fin 16) (b : Bool) (c : SlotCounter) :
    (s.countIf i b c).due = s.due := by unfold State.countIf; split <;> simp
@[simp] theorem State.countIf_held (s : State) (i : Fin 16) (b : Bool) (c : SlotCounter) :
    (s.countIf i b c).held = s.held := by unfold State.countIf; split <;> simp
@[simp] theorem State.countIf_ring (s : State) (i : Fin 16) (b : Bool) (c : SlotCounter) :
    (s.countIf i b c).ring = s.ring := by unfold State.countIf; split <;> simp
@[simp] theorem State.countIf_ringMode (s : State) (i : Fin 16) (b : Bool) (c : SlotCounter) :
    (s.countIf i b c).ringMode = s.ringMode := by unfold State.countIf; split <;> simp
@[simp] theorem State.countIf_launcher (s : State) (i : Fin 16) (b : Bool) (c : SlotCounter) :
    (s.countIf i b c).launcher = s.launcher := by unfold State.countIf; split <;> simp
@[simp] theorem State.countIf_entries (s : State) (i : Fin 16) (b : Bool) (c : SlotCounter) :
    (s.countIf i b c).entries = s.entries := by unfold State.countIf; split <;> simp
@[simp] theorem State.countIf_cellMem (s : State) (i : Fin 16) (b : Bool) (c : SlotCounter) :
    (s.countIf i b c).cellMem = s.cellMem := by unfold State.countIf; split <;> simp
@[simp] theorem State.countIf_lanes (s : State) (i : Fin 16) (b : Bool) (c : SlotCounter) :
    (s.countIf i b c).lanes = s.lanes := by unfold State.countIf; split <;> simp
@[simp] theorem State.countIf_pathA (s : State) (i : Fin 16) (b : Bool) (c : SlotCounter) :
    (s.countIf i b c).pathA = s.pathA := by unfold State.countIf; split <;> simp
@[simp] theorem State.countIf_pathB (s : State) (i : Fin 16) (b : Bool) (c : SlotCounter) :
    (s.countIf i b c).pathB = s.pathB := by unfold State.countIf; split <;> simp
@[simp] theorem State.countIf_house (s : State) (i : Fin 16) (b : Bool) (c : SlotCounter) :
    (s.countIf i b c).house = s.house := by unfold State.countIf; split <;> simp
@[simp] theorem State.countIf_pattern (s : State) (i : Fin 16) (b : Bool) (c : SlotCounter) :
    (s.countIf i b c).pattern = s.pattern := by unfold State.countIf; split <;> simp
@[simp] theorem State.countIf_patternMem (s : State) (i : Fin 16) (b : Bool) (c : SlotCounter) :
    (s.countIf i b c).patternMem = s.patternMem := by unfold State.countIf; split <;> simp
@[simp] theorem State.countIf_port (s : State) (i : Fin 16) (b : Bool) (c : SlotCounter) :
    (s.countIf i b c).port = s.port := by unfold State.countIf; split <;> simp
@[simp] theorem State.countIf_frozen (s : State) (i : Fin 16) (b : Bool) (c : SlotCounter) :
    (s.countIf i b c).frozen = s.frozen := by unfold State.countIf; split <;> simp
@[simp] theorem State.countIf_frozenLabel (s : State) (i : Fin 16) (b : Bool) (c : SlotCounter) :
    (s.countIf i b c).frozenLabel = s.frozenLabel := by unfold State.countIf; split <;> simp
@[simp] theorem State.countIf_freeCount (s : State) (i : Fin 16) (b : Bool) (c : SlotCounter) :
    (s.countIf i b c).freeCount = s.freeCount := by unfold State.countIf; split <;> simp
@[simp] theorem State.countIf_pending (s : State) (i : Fin 16) (b : Bool) (c : SlotCounter) :
    (s.countIf i b c).pending = s.pending := by unfold State.countIf; split <;> simp

@[simp] theorem State.slot_countIf (s : State) (i : Fin 16) (b : Bool) (c : SlotCounter) (j : Fin 16) :
    (s.countIf i b c).slot j = s.slot j := by simp [State.slot]
@[simp] theorem State.lane_countIf (s : State) (i : Fin 16) (b : Bool) (c : SlotCounter) (m : Fin 4) :
    (s.countIf i b c).lane m = s.lane m := by simp [State.lane]
@[simp] theorem State.path_countIf (s : State) (i : Fin 16) (b : Bool) (c : SlotCounter) (z : PathId) :
    (s.countIf i b c).path z = s.path z := by cases z <;> simp [State.path]
@[simp] theorem State.now_countIf (s : State) (i : Fin 16) (b : Bool) (c : SlotCounter) :
    (s.countIf i b c).now = s.now := by simp [State.now]
@[simp] theorem State.entry_countIf (s : State) (i : Fin 16) (b : Bool) (c : SlotCounter) (a : Nat) :
    (s.countIf i b c).entry? a = s.entry? a := by simp [State.entry?]

@[simp] theorem State.countFlags_power (s : State) (i : Fin 16) (f : ConditionFlags) :
    (s.countFlags i f).power = s.power := by simp [State.countFlags]
@[simp] theorem State.countFlags_elapsed (s : State) (i : Fin 16) (f : ConditionFlags) :
    (s.countFlags i f).elapsed = s.elapsed := by simp [State.countFlags]
@[simp] theorem State.countFlags_params (s : State) (i : Fin 16) (f : ConditionFlags) :
    (s.countFlags i f).params = s.params := by simp [State.countFlags]
@[simp] theorem State.countFlags_store (s : State) (i : Fin 16) (f : ConditionFlags) :
    (s.countFlags i f).store = s.store := by simp [State.countFlags]
@[simp] theorem State.countFlags_slots (s : State) (i : Fin 16) (f : ConditionFlags) :
    (s.countFlags i f).slots = s.slots := by simp [State.countFlags]
@[simp] theorem State.countFlags_sumA (s : State) (i : Fin 16) (f : ConditionFlags) :
    (s.countFlags i f).sumA = s.sumA := by simp [State.countFlags]
@[simp] theorem State.countFlags_sumB (s : State) (i : Fin 16) (f : ConditionFlags) :
    (s.countFlags i f).sumB = s.sumB := by simp [State.countFlags]
@[simp] theorem State.countFlags_due (s : State) (i : Fin 16) (f : ConditionFlags) :
    (s.countFlags i f).due = s.due := by simp [State.countFlags]
@[simp] theorem State.countFlags_held (s : State) (i : Fin 16) (f : ConditionFlags) :
    (s.countFlags i f).held = s.held := by simp [State.countFlags]
@[simp] theorem State.countFlags_ring (s : State) (i : Fin 16) (f : ConditionFlags) :
    (s.countFlags i f).ring = s.ring := by simp [State.countFlags]
@[simp] theorem State.countFlags_ringMode (s : State) (i : Fin 16) (f : ConditionFlags) :
    (s.countFlags i f).ringMode = s.ringMode := by simp [State.countFlags]
@[simp] theorem State.countFlags_launcher (s : State) (i : Fin 16) (f : ConditionFlags) :
    (s.countFlags i f).launcher = s.launcher := by simp [State.countFlags]
@[simp] theorem State.countFlags_entries (s : State) (i : Fin 16) (f : ConditionFlags) :
    (s.countFlags i f).entries = s.entries := by simp [State.countFlags]
@[simp] theorem State.countFlags_cellMem (s : State) (i : Fin 16) (f : ConditionFlags) :
    (s.countFlags i f).cellMem = s.cellMem := by simp [State.countFlags]
@[simp] theorem State.countFlags_lanes (s : State) (i : Fin 16) (f : ConditionFlags) :
    (s.countFlags i f).lanes = s.lanes := by simp [State.countFlags]
@[simp] theorem State.countFlags_pathA (s : State) (i : Fin 16) (f : ConditionFlags) :
    (s.countFlags i f).pathA = s.pathA := by simp [State.countFlags]
@[simp] theorem State.countFlags_pathB (s : State) (i : Fin 16) (f : ConditionFlags) :
    (s.countFlags i f).pathB = s.pathB := by simp [State.countFlags]
@[simp] theorem State.countFlags_house (s : State) (i : Fin 16) (f : ConditionFlags) :
    (s.countFlags i f).house = s.house := by simp [State.countFlags]
@[simp] theorem State.countFlags_pattern (s : State) (i : Fin 16) (f : ConditionFlags) :
    (s.countFlags i f).pattern = s.pattern := by simp [State.countFlags]
@[simp] theorem State.countFlags_patternMem (s : State) (i : Fin 16) (f : ConditionFlags) :
    (s.countFlags i f).patternMem = s.patternMem := by simp [State.countFlags]
@[simp] theorem State.countFlags_port (s : State) (i : Fin 16) (f : ConditionFlags) :
    (s.countFlags i f).port = s.port := by simp [State.countFlags]
@[simp] theorem State.countFlags_frozen (s : State) (i : Fin 16) (f : ConditionFlags) :
    (s.countFlags i f).frozen = s.frozen := by simp [State.countFlags]
@[simp] theorem State.countFlags_frozenLabel (s : State) (i : Fin 16) (f : ConditionFlags) :
    (s.countFlags i f).frozenLabel = s.frozenLabel := by simp [State.countFlags]
@[simp] theorem State.countFlags_freeCount (s : State) (i : Fin 16) (f : ConditionFlags) :
    (s.countFlags i f).freeCount = s.freeCount := by simp [State.countFlags]
@[simp] theorem State.countFlags_pending (s : State) (i : Fin 16) (f : ConditionFlags) :
    (s.countFlags i f).pending = s.pending := by simp [State.countFlags]

@[simp] theorem State.slot_countFlags (s : State) (i : Fin 16) (f : ConditionFlags) (j : Fin 16) :
    (s.countFlags i f).slot j = s.slot j := by simp [State.slot]
@[simp] theorem State.lane_countFlags (s : State) (i : Fin 16) (f : ConditionFlags) (m : Fin 4) :
    (s.countFlags i f).lane m = s.lane m := by simp [State.lane]
@[simp] theorem State.path_countFlags (s : State) (i : Fin 16) (f : ConditionFlags) (z : PathId) :
    (s.countFlags i f).path z = s.path z := by cases z <;> simp [State.path]
@[simp] theorem State.now_countFlags (s : State) (i : Fin 16) (f : ConditionFlags) :
    (s.countFlags i f).now = s.now := by simp [State.now]
@[simp] theorem State.entry_countFlags (s : State) (i : Fin 16) (f : ConditionFlags) (a : Nat) :
    (s.countFlags i f).entry? a = s.entry? a := by simp [State.entry?]

@[simp] theorem State.accept_power (s : State) (n : Nat) (i : Fin 16) (o : Owner) (f k : Nat) (b : List Byte) (x y w : Bool) :
    (s.accept n i o f k b x y w).power = s.power := by unfold State.accept; dsimp only; split <;> simp
@[simp] theorem State.accept_elapsed (s : State) (n : Nat) (i : Fin 16) (o : Owner) (f k : Nat) (b : List Byte) (x y w : Bool) :
    (s.accept n i o f k b x y w).elapsed = s.elapsed := by unfold State.accept; dsimp only; split <;> simp
@[simp] theorem State.accept_params (s : State) (n : Nat) (i : Fin 16) (o : Owner) (f k : Nat) (b : List Byte) (x y w : Bool) :
    (s.accept n i o f k b x y w).params = s.params := by unfold State.accept; dsimp only; split <;> simp
@[simp] theorem State.accept_store (s : State) (n : Nat) (i : Fin 16) (o : Owner) (f k : Nat) (b : List Byte) (x y w : Bool) :
    (s.accept n i o f k b x y w).store = s.store := by unfold State.accept; dsimp only; split <;> simp
@[simp] theorem State.accept_ringMode (s : State) (n : Nat) (i : Fin 16) (o : Owner) (f k : Nat) (b : List Byte) (x y w : Bool) :
    (s.accept n i o f k b x y w).ringMode = s.ringMode := by unfold State.accept; dsimp only; split <;> simp
@[simp] theorem State.accept_pathA (s : State) (n : Nat) (i : Fin 16) (o : Owner) (f k : Nat) (b : List Byte) (x y w : Bool) :
    (s.accept n i o f k b x y w).pathA = s.pathA := by unfold State.accept; dsimp only; split <;> simp
@[simp] theorem State.accept_pathB (s : State) (n : Nat) (i : Fin 16) (o : Owner) (f k : Nat) (b : List Byte) (x y w : Bool) :
    (s.accept n i o f k b x y w).pathB = s.pathB := by unfold State.accept; dsimp only; split <;> simp
@[simp] theorem State.accept_house (s : State) (n : Nat) (i : Fin 16) (o : Owner) (f k : Nat) (b : List Byte) (x y w : Bool) :
    (s.accept n i o f k b x y w).house = s.house := by unfold State.accept; dsimp only; split <;> simp
@[simp] theorem State.accept_patternMem (s : State) (n : Nat) (i : Fin 16) (o : Owner) (f k : Nat) (b : List Byte) (x y w : Bool) :
    (s.accept n i o f k b x y w).patternMem = s.patternMem := by unfold State.accept; dsimp only; split <;> simp
@[simp] theorem State.accept_frozen (s : State) (n : Nat) (i : Fin 16) (o : Owner) (f k : Nat) (b : List Byte) (x y w : Bool) :
    (s.accept n i o f k b x y w).frozen = s.frozen := by unfold State.accept; dsimp only; split <;> simp
@[simp] theorem State.accept_frozenLabel (s : State) (n : Nat) (i : Fin 16) (o : Owner) (f k : Nat) (b : List Byte) (x y w : Bool) :
    (s.accept n i o f k b x y w).frozenLabel = s.frozenLabel := by unfold State.accept; dsimp only; split <;> simp
@[simp] theorem State.accept_freeCount (s : State) (n : Nat) (i : Fin 16) (o : Owner) (f k : Nat) (b : List Byte) (x y w : Bool) :
    (s.accept n i o f k b x y w).freeCount = s.freeCount := by unfold State.accept; dsimp only; split <;> simp
@[simp] theorem State.accept_pending (s : State) (n : Nat) (i : Fin 16) (o : Owner) (f k : Nat) (b : List Byte) (x y w : Bool) :
    (s.accept n i o f k b x y w).pending = s.pending := by unfold State.accept; dsimp only; split <;> simp

@[simp] theorem State.path_accept (s : State) (n : Nat) (i : Fin 16) (o : Owner) (f k : Nat) (b : List Byte) (x y w : Bool) (z : PathId) :
    (s.accept n i o f k b x y w).path z = s.path z := by cases z <;> simp [State.path]
@[simp] theorem State.now_accept (s : State) (n : Nat) (i : Fin 16) (o : Owner) (f k : Nat) (b : List Byte) (x y w : Bool) :
    (s.accept n i o f k b x y w).now = s.now := by simp [State.now]

/-- The payload an acceptance writes, whatever follows it (R90). -/
theorem State.accept_cellMem (s : State) (n : Nat) (i : Fin 16) (o : Owner) (f k : Nat) (b : List Byte)
    (x y z : Bool) :
    (s.accept n i o f k b x y z).cellMem = writePayload s.cellMem (s.takeCells (cellsFor b.length)) b := by
  unfold State.accept
  dsimp only
  split <;> simp [State.fill_cellMem]

/-- The verdict is an acceptance exactly when steps 1 to 6 of R65 pass. -/
theorem State.judgeRecord_accept (s : State) (l : Fin 4) (i : Fin 16) (p : PacketRecord) (n f : Nat)
    (h : s.judgeRecord l i p = .accept n f) :
    (s.slot i).state.takesPackets = true ∧ (s.slot i).owner = .lane l ∧ (s.slot i).tag = p.tag
      ∧ p.payload.length ≤ (s.slot i).s ∧ cellsFor p.payload.length ≤ (s.lane l).account.outstanding
      ∧ s.freeEntry = some n ∧ (s.slot i).queue.length < Config.queueLimit
      ∧ judgePacket (s.slot i) p.frameField p.index = .ok f := by
  unfold State.judgeRecord at h
  dsimp only at h
  split at h
  · cases h
  rename_i h1
  split at h
  · cases h
  rename_i h2
  split at h
  · cases h
  rename_i h3
  split at h
  · cases h
  rename_i m h4
  split at h
  · cases h
  rename_i h5
  split at h
  · cases h
  rename_i g h6
  cases h
  simp only [Bool.not_eq_true', Bool.not_eq_false, Bool.and_eq_true, decide_eq_true_eq] at h1
  exact ⟨h1.1.1, h1.1.2, h1.2, by omega, by omega, h4, by omega, h6⟩

/-! ## Batches and lane reset -/

@[simp] theorem State.takeBatch_power (s : State) (l : Fin 4) :
    (s.takeBatch l).power = s.power := by simp [State.takeBatch]
@[simp] theorem State.takeBatch_elapsed (s : State) (l : Fin 4) :
    (s.takeBatch l).elapsed = s.elapsed := by simp [State.takeBatch]
@[simp] theorem State.takeBatch_params (s : State) (l : Fin 4) :
    (s.takeBatch l).params = s.params := by simp [State.takeBatch]
@[simp] theorem State.takeBatch_store (s : State) (l : Fin 4) :
    (s.takeBatch l).store = s.store := by simp [State.takeBatch]
@[simp] theorem State.takeBatch_slots (s : State) (l : Fin 4) :
    (s.takeBatch l).slots = s.slots := by simp [State.takeBatch]
@[simp] theorem State.takeBatch_sumA (s : State) (l : Fin 4) :
    (s.takeBatch l).sumA = s.sumA := by simp [State.takeBatch]
@[simp] theorem State.takeBatch_sumB (s : State) (l : Fin 4) :
    (s.takeBatch l).sumB = s.sumB := by simp [State.takeBatch]
@[simp] theorem State.takeBatch_due (s : State) (l : Fin 4) :
    (s.takeBatch l).due = s.due := by simp [State.takeBatch]
@[simp] theorem State.takeBatch_held (s : State) (l : Fin 4) :
    (s.takeBatch l).held = s.held := by simp [State.takeBatch]
@[simp] theorem State.takeBatch_ring (s : State) (l : Fin 4) :
    (s.takeBatch l).ring = s.ring := by simp [State.takeBatch]
@[simp] theorem State.takeBatch_ringMode (s : State) (l : Fin 4) :
    (s.takeBatch l).ringMode = s.ringMode := by simp [State.takeBatch]
@[simp] theorem State.takeBatch_launcher (s : State) (l : Fin 4) :
    (s.takeBatch l).launcher = s.launcher := by simp [State.takeBatch]
@[simp] theorem State.takeBatch_entries (s : State) (l : Fin 4) :
    (s.takeBatch l).entries = s.entries := by simp [State.takeBatch]
@[simp] theorem State.takeBatch_cellMem (s : State) (l : Fin 4) :
    (s.takeBatch l).cellMem = s.cellMem := by simp [State.takeBatch]
@[simp] theorem State.takeBatch_pathA (s : State) (l : Fin 4) :
    (s.takeBatch l).pathA = s.pathA := by simp [State.takeBatch]
@[simp] theorem State.takeBatch_pathB (s : State) (l : Fin 4) :
    (s.takeBatch l).pathB = s.pathB := by simp [State.takeBatch]
@[simp] theorem State.takeBatch_house (s : State) (l : Fin 4) :
    (s.takeBatch l).house = s.house := by simp [State.takeBatch]
@[simp] theorem State.takeBatch_pattern (s : State) (l : Fin 4) :
    (s.takeBatch l).pattern = s.pattern := by simp [State.takeBatch]
@[simp] theorem State.takeBatch_patternMem (s : State) (l : Fin 4) :
    (s.takeBatch l).patternMem = s.patternMem := by simp [State.takeBatch]
@[simp] theorem State.takeBatch_port (s : State) (l : Fin 4) :
    (s.takeBatch l).port = s.port := by simp [State.takeBatch]
@[simp] theorem State.takeBatch_frozen (s : State) (l : Fin 4) :
    (s.takeBatch l).frozen = s.frozen := by simp [State.takeBatch]
@[simp] theorem State.takeBatch_frozenLabel (s : State) (l : Fin 4) :
    (s.takeBatch l).frozenLabel = s.frozenLabel := by simp [State.takeBatch]
@[simp] theorem State.takeBatch_freeCount (s : State) (l : Fin 4) :
    (s.takeBatch l).freeCount = s.freeCount := by simp [State.takeBatch]
@[simp] theorem State.takeBatch_pending (s : State) (l : Fin 4) :
    (s.takeBatch l).pending = s.pending := by simp [State.takeBatch]

@[simp] theorem State.slot_takeBatch (s : State) (l : Fin 4) (j : Fin 16) :
    (s.takeBatch l).slot j = s.slot j := by simp [State.slot]
@[simp] theorem State.path_takeBatch (s : State) (l : Fin 4) (z : PathId) :
    (s.takeBatch l).path z = s.path z := by cases z <;> simp [State.path]
@[simp] theorem State.now_takeBatch (s : State) (l : Fin 4) :
    (s.takeBatch l).now = s.now := by simp [State.now]
@[simp] theorem State.entry_takeBatch (s : State) (l : Fin 4) (a : Nat) :
    (s.takeBatch l).entry? a = s.entry? a := by simp [State.entry?]

/-- Merging a batch keeps the length of the queue. -/
@[simp] theorem mergeCredit_length (p : Nat) (ts : List Notice) : (mergeCredit p ts).length = ts.length := by
  induction ts with
  | nil => rfl
  | cons t ts ih => cases t <;> simp [mergeCredit, ih]

@[simp] theorem State.beginSend_power (s : State) (l : Fin 4) :
    (s.beginSend l).power = s.power := by unfold State.beginSend; split <;> simp
@[simp] theorem State.beginSend_elapsed (s : State) (l : Fin 4) :
    (s.beginSend l).elapsed = s.elapsed := by unfold State.beginSend; split <;> simp
@[simp] theorem State.beginSend_params (s : State) (l : Fin 4) :
    (s.beginSend l).params = s.params := by unfold State.beginSend; split <;> simp
@[simp] theorem State.beginSend_store (s : State) (l : Fin 4) :
    (s.beginSend l).store = s.store := by unfold State.beginSend; split <;> simp
@[simp] theorem State.beginSend_slots (s : State) (l : Fin 4) :
    (s.beginSend l).slots = s.slots := by unfold State.beginSend; split <;> simp
@[simp] theorem State.beginSend_sumA (s : State) (l : Fin 4) :
    (s.beginSend l).sumA = s.sumA := by unfold State.beginSend; split <;> simp
@[simp] theorem State.beginSend_sumB (s : State) (l : Fin 4) :
    (s.beginSend l).sumB = s.sumB := by unfold State.beginSend; split <;> simp
@[simp] theorem State.beginSend_due (s : State) (l : Fin 4) :
    (s.beginSend l).due = s.due := by unfold State.beginSend; split <;> simp
@[simp] theorem State.beginSend_held (s : State) (l : Fin 4) :
    (s.beginSend l).held = s.held := by unfold State.beginSend; split <;> simp
@[simp] theorem State.beginSend_ring (s : State) (l : Fin 4) :
    (s.beginSend l).ring = s.ring := by unfold State.beginSend; split <;> simp
@[simp] theorem State.beginSend_ringMode (s : State) (l : Fin 4) :
    (s.beginSend l).ringMode = s.ringMode := by unfold State.beginSend; split <;> simp
@[simp] theorem State.beginSend_launcher (s : State) (l : Fin 4) :
    (s.beginSend l).launcher = s.launcher := by unfold State.beginSend; split <;> simp
@[simp] theorem State.beginSend_entries (s : State) (l : Fin 4) :
    (s.beginSend l).entries = s.entries := by unfold State.beginSend; split <;> simp
@[simp] theorem State.beginSend_cellMem (s : State) (l : Fin 4) :
    (s.beginSend l).cellMem = s.cellMem := by unfold State.beginSend; split <;> simp
@[simp] theorem State.beginSend_pathA (s : State) (l : Fin 4) :
    (s.beginSend l).pathA = s.pathA := by unfold State.beginSend; split <;> simp
@[simp] theorem State.beginSend_pathB (s : State) (l : Fin 4) :
    (s.beginSend l).pathB = s.pathB := by unfold State.beginSend; split <;> simp
@[simp] theorem State.beginSend_house (s : State) (l : Fin 4) :
    (s.beginSend l).house = s.house := by unfold State.beginSend; split <;> simp
@[simp] theorem State.beginSend_pattern (s : State) (l : Fin 4) :
    (s.beginSend l).pattern = s.pattern := by unfold State.beginSend; split <;> simp
@[simp] theorem State.beginSend_patternMem (s : State) (l : Fin 4) :
    (s.beginSend l).patternMem = s.patternMem := by unfold State.beginSend; split <;> simp
@[simp] theorem State.beginSend_port (s : State) (l : Fin 4) :
    (s.beginSend l).port = s.port := by unfold State.beginSend; split <;> simp
@[simp] theorem State.beginSend_active (s : State) (l : Fin 4) :
    (s.beginSend l).active = s.active := by unfold State.beginSend; split <;> simp
@[simp] theorem State.beginSend_frozen (s : State) (l : Fin 4) :
    (s.beginSend l).frozen = s.frozen := by unfold State.beginSend; split <;> simp
@[simp] theorem State.beginSend_frozenLabel (s : State) (l : Fin 4) :
    (s.beginSend l).frozenLabel = s.frozenLabel := by unfold State.beginSend; split <;> simp
@[simp] theorem State.beginSend_freeCount (s : State) (l : Fin 4) :
    (s.beginSend l).freeCount = s.freeCount := by unfold State.beginSend; split <;> simp
@[simp] theorem State.beginSend_pending (s : State) (l : Fin 4) :
    (s.beginSend l).pending = s.pending := by unfold State.beginSend; split <;> simp

@[simp] theorem State.slot_beginSend (s : State) (l : Fin 4) (j : Fin 16) :
    (s.beginSend l).slot j = s.slot j := by simp [State.slot]
@[simp] theorem State.path_beginSend (s : State) (l : Fin 4) (z : PathId) :
    (s.beginSend l).path z = s.path z := by cases z <;> simp [State.path]
@[simp] theorem State.now_beginSend (s : State) (l : Fin 4) :
    (s.beginSend l).now = s.now := by simp [State.now]
@[simp] theorem State.entry_beginSend (s : State) (l : Fin 4) (a : Nat) :
    (s.beginSend l).entry? a = s.entry? a := by simp [State.entry?]

@[simp] theorem State.closeLaneStreams_power (s : State) (l : Fin 4) (b : Bool) :
    (s.closeLaneStreams l b).power = s.power :=
  foldl_keeps (fun t => t.power = s.power) _ (fun t i h => by split <;> simpa using h) allSlots s rfl
@[simp] theorem State.closeLaneStreams_elapsed (s : State) (l : Fin 4) (b : Bool) :
    (s.closeLaneStreams l b).elapsed = s.elapsed :=
  foldl_keeps (fun t => t.elapsed = s.elapsed) _ (fun t i h => by split <;> simpa using h) allSlots s rfl
@[simp] theorem State.closeLaneStreams_params (s : State) (l : Fin 4) (b : Bool) :
    (s.closeLaneStreams l b).params = s.params :=
  foldl_keeps (fun t => t.params = s.params) _ (fun t i h => by split <;> simpa using h) allSlots s rfl
@[simp] theorem State.closeLaneStreams_store (s : State) (l : Fin 4) (b : Bool) :
    (s.closeLaneStreams l b).store = s.store :=
  foldl_keeps (fun t => t.store = s.store) _ (fun t i h => by split <;> simpa using h) allSlots s rfl
@[simp] theorem State.closeLaneStreams_ring (s : State) (l : Fin 4) (b : Bool) :
    (s.closeLaneStreams l b).ring = s.ring :=
  foldl_keeps (fun t => t.ring = s.ring) _ (fun t i h => by split <;> simpa using h) allSlots s rfl
@[simp] theorem State.closeLaneStreams_ringMode (s : State) (l : Fin 4) (b : Bool) :
    (s.closeLaneStreams l b).ringMode = s.ringMode :=
  foldl_keeps (fun t => t.ringMode = s.ringMode) _ (fun t i h => by split <;> simpa using h) allSlots s rfl
@[simp] theorem State.closeLaneStreams_launcher (s : State) (l : Fin 4) (b : Bool) :
    (s.closeLaneStreams l b).launcher = s.launcher :=
  foldl_keeps (fun t => t.launcher = s.launcher) _ (fun t i h => by split <;> simpa using h) allSlots s rfl
@[simp] theorem State.closeLaneStreams_cellMem (s : State) (l : Fin 4) (b : Bool) :
    (s.closeLaneStreams l b).cellMem = s.cellMem :=
  foldl_keeps (fun t => t.cellMem = s.cellMem) _ (fun t i h => by split <;> simpa using h) allSlots s rfl
@[simp] theorem State.closeLaneStreams_pathA (s : State) (l : Fin 4) (b : Bool) :
    (s.closeLaneStreams l b).pathA = s.pathA :=
  foldl_keeps (fun t => t.pathA = s.pathA) _ (fun t i h => by split <;> simpa using h) allSlots s rfl
@[simp] theorem State.closeLaneStreams_pathB (s : State) (l : Fin 4) (b : Bool) :
    (s.closeLaneStreams l b).pathB = s.pathB :=
  foldl_keeps (fun t => t.pathB = s.pathB) _ (fun t i h => by split <;> simpa using h) allSlots s rfl
@[simp] theorem State.closeLaneStreams_house (s : State) (l : Fin 4) (b : Bool) :
    (s.closeLaneStreams l b).house = s.house :=
  foldl_keeps (fun t => t.house = s.house) _ (fun t i h => by split <;> simpa using h) allSlots s rfl
@[simp] theorem State.closeLaneStreams_patternMem (s : State) (l : Fin 4) (b : Bool) :
    (s.closeLaneStreams l b).patternMem = s.patternMem :=
  foldl_keeps (fun t => t.patternMem = s.patternMem) _ (fun t i h => by split <;> simpa using h) allSlots s rfl
@[simp] theorem State.closeLaneStreams_frozen (s : State) (l : Fin 4) (b : Bool) :
    (s.closeLaneStreams l b).frozen = s.frozen :=
  foldl_keeps (fun t => t.frozen = s.frozen) _ (fun t i h => by split <;> simpa using h) allSlots s rfl
@[simp] theorem State.closeLaneStreams_frozenLabel (s : State) (l : Fin 4) (b : Bool) :
    (s.closeLaneStreams l b).frozenLabel = s.frozenLabel :=
  foldl_keeps (fun t => t.frozenLabel = s.frozenLabel) _ (fun t i h => by split <;> simpa using h) allSlots s rfl
@[simp] theorem State.closeLaneStreams_freeCount (s : State) (l : Fin 4) (b : Bool) :
    (s.closeLaneStreams l b).freeCount = s.freeCount :=
  foldl_keeps (fun t => t.freeCount = s.freeCount) _ (fun t i h => by split <;> simpa using h) allSlots s rfl
@[simp] theorem State.closeLaneStreams_pending (s : State) (l : Fin 4) (b : Bool) :
    (s.closeLaneStreams l b).pending = s.pending :=
  foldl_keeps (fun t => t.pending = s.pending) _ (fun t i h => by split <;> simpa using h) allSlots s rfl

@[simp] theorem State.path_closeLaneStreams (s : State) (l : Fin 4) (b : Bool) (z : PathId) :
    (s.closeLaneStreams l b).path z = s.path z := by cases z <;> simp [State.path]
@[simp] theorem State.now_closeLaneStreams (s : State) (l : Fin 4) (b : Bool) :
    (s.closeLaneStreams l b).now = s.now := by simp [State.now]

@[simp] theorem State.resetLane_power (s : State) (l : Fin 4) (b : Bool) :
    (s.resetLane l b).power = s.power := by
  unfold State.resetLane
  rw [State.queueLaneReady_power, State.updLane_power, State.closeLaneStreams_power]
@[simp] theorem State.resetLane_elapsed (s : State) (l : Fin 4) (b : Bool) :
    (s.resetLane l b).elapsed = s.elapsed := by
  unfold State.resetLane
  rw [State.queueLaneReady_elapsed, State.updLane_elapsed, State.closeLaneStreams_elapsed]
@[simp] theorem State.resetLane_params (s : State) (l : Fin 4) (b : Bool) :
    (s.resetLane l b).params = s.params := by
  unfold State.resetLane
  rw [State.queueLaneReady_params, State.updLane_params, State.closeLaneStreams_params]
@[simp] theorem State.resetLane_store (s : State) (l : Fin 4) (b : Bool) :
    (s.resetLane l b).store = s.store := by
  unfold State.resetLane
  rw [State.queueLaneReady_store, State.updLane_store, State.closeLaneStreams_store]
@[simp] theorem State.resetLane_ring (s : State) (l : Fin 4) (b : Bool) :
    (s.resetLane l b).ring = s.ring := by
  unfold State.resetLane
  rw [State.queueLaneReady_ring, State.updLane_ring, State.closeLaneStreams_ring]
@[simp] theorem State.resetLane_ringMode (s : State) (l : Fin 4) (b : Bool) :
    (s.resetLane l b).ringMode = s.ringMode := by
  unfold State.resetLane
  rw [State.queueLaneReady_ringMode, State.updLane_ringMode, State.closeLaneStreams_ringMode]
@[simp] theorem State.resetLane_launcher (s : State) (l : Fin 4) (b : Bool) :
    (s.resetLane l b).launcher = s.launcher := by
  unfold State.resetLane
  rw [State.queueLaneReady_launcher, State.updLane_launcher, State.closeLaneStreams_launcher]
@[simp] theorem State.resetLane_cellMem (s : State) (l : Fin 4) (b : Bool) :
    (s.resetLane l b).cellMem = s.cellMem := by
  unfold State.resetLane
  rw [State.queueLaneReady_cellMem, State.updLane_cellMem, State.closeLaneStreams_cellMem]
@[simp] theorem State.resetLane_pathA (s : State) (l : Fin 4) (b : Bool) :
    (s.resetLane l b).pathA = s.pathA := by
  unfold State.resetLane
  rw [State.queueLaneReady_pathA, State.updLane_pathA, State.closeLaneStreams_pathA]
@[simp] theorem State.resetLane_pathB (s : State) (l : Fin 4) (b : Bool) :
    (s.resetLane l b).pathB = s.pathB := by
  unfold State.resetLane
  rw [State.queueLaneReady_pathB, State.updLane_pathB, State.closeLaneStreams_pathB]
@[simp] theorem State.resetLane_house (s : State) (l : Fin 4) (b : Bool) :
    (s.resetLane l b).house = s.house := by
  unfold State.resetLane
  rw [State.queueLaneReady_house, State.updLane_house, State.closeLaneStreams_house]
@[simp] theorem State.resetLane_patternMem (s : State) (l : Fin 4) (b : Bool) :
    (s.resetLane l b).patternMem = s.patternMem := by
  unfold State.resetLane
  rw [State.queueLaneReady_patternMem, State.updLane_patternMem, State.closeLaneStreams_patternMem]
@[simp] theorem State.resetLane_frozen (s : State) (l : Fin 4) (b : Bool) :
    (s.resetLane l b).frozen = s.frozen := by
  unfold State.resetLane
  rw [State.queueLaneReady_frozen, State.updLane_frozen, State.closeLaneStreams_frozen]
@[simp] theorem State.resetLane_frozenLabel (s : State) (l : Fin 4) (b : Bool) :
    (s.resetLane l b).frozenLabel = s.frozenLabel := by
  unfold State.resetLane
  rw [State.queueLaneReady_frozenLabel, State.updLane_frozenLabel, State.closeLaneStreams_frozenLabel]
@[simp] theorem State.resetLane_freeCount (s : State) (l : Fin 4) (b : Bool) :
    (s.resetLane l b).freeCount = s.freeCount := by
  unfold State.resetLane
  rw [State.queueLaneReady_freeCount, State.updLane_freeCount, State.closeLaneStreams_freeCount]
@[simp] theorem State.resetLane_pending (s : State) (l : Fin 4) (b : Bool) :
    (s.resetLane l b).pending = s.pending := by
  unfold State.resetLane
  rw [State.queueLaneReady_pending, State.updLane_pending, State.closeLaneStreams_pending]

@[simp] theorem State.path_resetLane (s : State) (l : Fin 4) (b : Bool) (z : PathId) :
    (s.resetLane l b).path z = s.path z := by cases z <;> simp [State.path]
@[simp] theorem State.now_resetLane (s : State) (l : Fin 4) (b : Bool) :
    (s.resetLane l b).now = s.now := by simp [State.now]

end Sys2Proof.Machine
end

