-- ==== Sys2Proof/Laws/Memory.lean ====
section
/-!
SUPPORT. The byte memories: the canonical form is kept by every write, a read after a write gives the byte written, and
every other address reads as before.
-/

namespace Sys2Proof.Machine

open Sys2Proof

/-! ## The canonical form -/

/-- A lower bound may be lowered. -/
theorem memWfFrom_mono {m : List Host.Cell} {lo lo' : Nat} (h : lo' ≤ lo) (w : memWfFrom lo m = true) :
    memWfFrom lo' m = true := by
  cases m with
  | nil => rfl
  | cons x rest =>
    simp only [memWfFrom, Bool.and_eq_true, decide_eq_true_eq] at w ⊢
    exact ⟨⟨by omega, w.1.2⟩, w.2⟩

/-- Below its lower bound a canonical memory reads blank. -/
theorem readMem_below {m : List Host.Cell} {lo a : Nat} (w : memWfFrom lo m = true) (h : a < lo) :
    readMem m a = Config.blankByte := by
  induction m generalizing lo with
  | nil => rfl
  | cons x rest ih =>
    simp only [memWfFrom, Bool.and_eq_true, decide_eq_true_eq] at w
    have hne : a ≠ x.1 := by omega
    simp only [readMem, if_neg hne]
    exact ih w.2 (by omega)

/-- One write keeps the form, at or above a lower bound of its address. -/
theorem writeMem_wfFrom {m : List Host.Cell} {lo a : Nat} {b : Byte} (w : memWfFrom lo m = true) (h : lo ≤ a) :
    memWfFrom lo (writeMem m a b) = true := by
  induction m generalizing lo with
  | nil =>
    simp only [writeMem]
    split <;> simp_all [memWfFrom]
  | cons x rest ih =>
    obtain ⟨k, v⟩ := x
    simp only [memWfFrom, Bool.and_eq_true, decide_eq_true_eq] at w
    obtain ⟨⟨hk, hv⟩, hr⟩ := w
    by_cases h1 : a < k
    · have hr' : memWfFrom (a + 1) ((k, v) :: rest) = true := by
        simp only [memWfFrom, Bool.and_eq_true, decide_eq_true_eq]
        exact ⟨⟨h1, hv⟩, hr⟩
      simp only [writeMem, if_pos h1]
      split
      · exact memWfFrom_mono (by omega) hr'
      · rename_i hb
        simp only [memWfFrom, Bool.and_eq_true, decide_eq_true_eq]
        exact ⟨⟨h, hb⟩, ⟨⟨h1, hv⟩, hr⟩⟩
    · by_cases h2 : a = k
      · subst h2
        simp only [writeMem, if_neg h1, if_pos]
        split
        · exact memWfFrom_mono (by omega) hr
        · rename_i hb
          simp only [memWfFrom, Bool.and_eq_true, decide_eq_true_eq]
          exact ⟨⟨hk, hb⟩, hr⟩
      · simp only [writeMem, if_neg h1, if_neg h2, memWfFrom, Bool.and_eq_true, decide_eq_true_eq]
        exact ⟨⟨hk, hv⟩, ih hr (by omega)⟩

/-- One write keeps the canonical form. -/
theorem writeMem_wf {m : List Host.Cell} (w : memWf m = true) (a : Nat) (b : Byte) : memWf (writeMem m a b) = true :=
  writeMem_wfFrom w (Nat.zero_le a)

/-- A run of writes keeps the canonical form. -/
theorem writeBytes_wf {m : List Host.Cell} (w : memWf m = true) (a : Nat) (bs : List Byte) :
    memWf (writeBytes m a bs) = true := by
  induction bs generalizing m a with
  | nil => exact w
  | cons b bs ih => exact ih (writeMem_wf w a b) (a + 1)

/-- Writing a payload into cells keeps the canonical form. -/
theorem writePayload_wf {m : List Host.Cell} (w : memWf m = true) (cells : List Nat) (bs : List Byte) :
    memWf (writePayload m cells bs) = true := by
  induction cells generalizing m bs with
  | nil => exact w
  | cons c cs ih => exact ih (writeBytes_wf w _ _) _

/-- Both memories of the state after power-on have the form. -/
theorem reset_memWf : memWf State.reset.cellMem = true ∧ memWf State.reset.patternMem = true := ⟨rfl, rfl⟩

/-! ## Read after write -/

/-- The byte written is read back. -/
theorem readMem_writeMem_self {m : List Host.Cell} {lo : Nat} (w : memWfFrom lo m = true) (a : Nat) (b : Byte) :
    readMem (writeMem m a b) a = b := by
  induction m generalizing lo with
  | nil =>
    simp only [writeMem]
    split <;> simp_all [readMem]
  | cons x rest ih =>
    obtain ⟨k, v⟩ := x
    simp only [memWfFrom, Bool.and_eq_true, decide_eq_true_eq] at w
    obtain ⟨⟨hk, hv⟩, hr⟩ := w
    by_cases h1 : a < k
    · simp only [writeMem, if_pos h1]
      split
      · rename_i hb
        simp only [readMem, if_neg (by omega : ¬ a = k)]
        exact (readMem_below hr (by omega)).trans hb.symm
      · simp [readMem]
    · by_cases h2 : a = k
      · subst h2
        simp only [writeMem, if_neg h1, if_pos]
        split
        · rename_i hb
          exact (readMem_below hr (Nat.lt_succ_self a)).trans hb.symm
        · simp [readMem]
      · simp only [writeMem, if_neg h1, if_neg h2, readMem]
        exact ih hr

/-- Every other address reads as before. -/
theorem readMem_writeMem_ne {m : List Host.Cell} {lo : Nat} (w : memWfFrom lo m = true) {a c : Nat} (h : c ≠ a) (b : Byte) :
    readMem (writeMem m a b) c = readMem m c := by
  induction m generalizing lo with
  | nil =>
    simp only [writeMem]
    split
    · rfl
    · simp [readMem, h]
  | cons x rest ih =>
    obtain ⟨k, v⟩ := x
    simp only [memWfFrom, Bool.and_eq_true, decide_eq_true_eq] at w
    obtain ⟨⟨hk, hv⟩, hr⟩ := w
    by_cases h1 : a < k
    · simp only [writeMem, if_pos h1]
      split
      · rfl
      · simp [readMem, h]
    · by_cases h2 : a = k
      · subst h2
        simp only [writeMem, if_neg h1, if_pos]
        split
        · simp [readMem, h]
        · simp [readMem, h]
      · simp only [writeMem, if_neg h1, if_neg h2, readMem, ih hr]

/-- A run of writes leaves the addresses outside it. -/
theorem readMem_writeBytes_outside {m : List Host.Cell} (w : memWf m = true) {a c : Nat} (bs : List Byte)
    (h : c < a ∨ a + bs.length ≤ c) : readMem (writeBytes m a bs) c = readMem m c := by
  induction bs generalizing m a with
  | nil => rfl
  | cons b bs ih =>
    simp only [List.length_cons] at h
    rw [writeBytes, ih (writeMem_wf w a b) (by omega)]
    exact readMem_writeMem_ne w (by omega) b

/-- A run of bytes written is read back. -/
theorem readBytes_writeBytes {m : List Host.Cell} (w : memWf m = true) (a : Nat) (bs : List Byte) :
    readBytes (writeBytes m a bs) a bs.length = bs := by
  induction bs generalizing m a with
  | nil => rfl
  | cons b bs ih =>
    simp only [List.length_cons, readBytes, writeBytes, ih (writeMem_wf w a b) (a + 1)]
    rw [readMem_writeBytes_outside (writeMem_wf w a b) bs (.inl (Nat.lt_succ_self a)), readMem_writeMem_self w a b]

end Sys2Proof.Machine
end

