-- ==== Sys2Proof/Laws/Pages.lean ====
section
/-!
SUPPORT. Bytes of numbers and items of a page: what a field of placed bytes reads, which item of a list answers at an
offset, and what a read takes of a row and of a page.
-/

namespace Sys2Proof.Machine

open Sys2Proof

/-! ## Bytes of a number -/

@[simp] theorem leBytes_length (n v : Nat) : (leBytes n v).length = n := by
  induction n generalizing v with
  | zero => rfl
  | succ n ih => simp [leBytes, ih]

theorem leNat_leBytes (n v : Nat) : leNat (leBytes n v) = v % 256 ^ n := by
  induction n generalizing v with
  | zero => simp [leBytes, leNat, Nat.mod_one]
  | succ n ih =>
    simp only [leBytes, leNat, ih, BitVec.toNat_ofNat]
    rw [show 256 ^ (n + 1) = 256 * 256 ^ n from Nat.pow_succ', Nat.mod_mul]

/-- The field that a number's bytes make is the number, in so many bytes. -/
theorem field_leBytes (n v : Nat) : field (leBytes n v) 0 n = v % 256 ^ n := by
  rw [field, List.drop_zero, List.take_of_length_le (by simp), leNat_leBytes]

/-! ## Items of a page -/

/-- An item answers inside it, where no item before it does. -/
theorem itemsByte_at (pre post : List Item) (a : Nat) (bytes : List Byte) (k : Nat)
    (h : ∀ x ∈ pre, a + bytes.length ≤ x.1 ∨ x.1 + x.2.length ≤ a) (hk : k < bytes.length) :
    itemsByte (pre ++ (a, bytes) :: post) (a + k) = byteAt bytes k := by
  induction pre with
  | nil =>
    simp only [List.nil_append, itemsByte]
    rw [if_pos ⟨Nat.le_add_right a k, by omega⟩, Nat.add_sub_cancel_left]
  | cons x pre ih =>
    obtain ⟨b, xs⟩ := x
    have hx := h _ List.mem_cons_self
    simp only [List.cons_append, itemsByte]
    rw [if_neg (by simp only at hx; omega)]
    exact ih fun y hy => h y (List.mem_cons_of_mem _ hy)

/-- No item answers where none reaches. -/
theorem itemsByte_none (items : List Item) (off : Nat) (h : ∀ x ∈ items, off < x.1 ∨ x.1 + x.2.length ≤ off) :
    itemsByte items off = 0 := by
  induction items with
  | nil => rfl
  | cons x items ih =>
    obtain ⟨a, bytes⟩ := x
    have hx := h _ List.mem_cons_self
    simp only [itemsByte]
    rw [if_neg (by simp only at hx; omega)]
    exact ih fun y hy => h y (List.mem_cons_of_mem _ hy)

/-- The bytes of an item, read one by one, are the item. -/
theorem map_byteAt (bytes : List Byte) : (List.range bytes.length).map (byteAt bytes) = bytes := by
  apply List.ext_getElem
  · simp
  · intro k h _
    simp only [List.length_map, List.length_range] at h
    simp [byteAt, h]

/-- An item of a page below the pattern memory reads as its number, where no item before it reaches into it. -/
theorem State.pageItem_at (s : State) (page a n v : Nat) (pre post : List Item) (hp : isPatternPage page = false)
    (hs : s.pageItems page = pre ++ numItem a n v :: post)
    (h : ∀ x ∈ pre, a + n ≤ x.1 ∨ x.1 + x.2.length ≤ a) : s.pageItem page a n = v % 256 ^ n := by
  have key : (List.range n).map (fun k => s.pageByte page (a + k)) = leBytes n v := by
    rw [← map_byteAt (leBytes n v), leBytes_length]
    refine List.map_congr_left fun k hk => ?_
    simp only [State.pageByte, hp, hs, numItem]
    exact itemsByte_at pre post a _ k (by simpa using h) (by simpa using hk)
  rw [State.pageItem, key, field_leBytes]

/-! ## Rows and pages -/

/-- The row a read takes is the row as it stands. -/
theorem State.rowBytes_eq (s : State) (page row : Nat) : s.rowBytes page row = s.rowNow page row := by
  unfold State.rowBytes State.rowNow State.pageByte
  by_cases h : isPatternPage page = true
  · simp [h, patternAddress]
  · simp [h]

/-- The page a read captures is the page as it stands. -/
theorem State.pageBytes_eq (s : State) (page : Nat) :
    s.pageBytes page = (List.range 256).map fun k => s.pageByte page k := by
  unfold State.pageBytes State.pageByte
  by_cases h : isPatternPage page = true <;> simp [h]

end Sys2Proof.Machine
end

