-- ==== Sys2Proof/Laws/Pattern.lean ====
section
/-!
SUPPORT. The Pattern Source: what a generation leaves, what it keeps, and when an event lets generation resume.
-/

namespace Sys2Proof.Machine

open Sys2Proof

@[simp] theorem State.generateNext_power (s : State) (i : Fin 16) :
    (s.generateNext i).power = s.power := by
  unfold State.generateNext; dsimp only; split
  · simp
  · split <;> simp
@[simp] theorem State.generateNext_elapsed (s : State) (i : Fin 16) :
    (s.generateNext i).elapsed = s.elapsed := by
  unfold State.generateNext; dsimp only; split
  · simp
  · split <;> simp
@[simp] theorem State.generateNext_params (s : State) (i : Fin 16) :
    (s.generateNext i).params = s.params := by
  unfold State.generateNext; dsimp only; split
  · simp
  · split <;> simp
@[simp] theorem State.generateNext_store (s : State) (i : Fin 16) :
    (s.generateNext i).store = s.store := by
  unfold State.generateNext; dsimp only; split
  · simp
  · split <;> simp
@[simp] theorem State.generateNext_ringMode (s : State) (i : Fin 16) :
    (s.generateNext i).ringMode = s.ringMode := by
  unfold State.generateNext; dsimp only; split
  · simp
  · split <;> simp
@[simp] theorem State.generateNext_pathA (s : State) (i : Fin 16) :
    (s.generateNext i).pathA = s.pathA := by
  unfold State.generateNext; dsimp only; split
  · simp
  · split <;> simp
@[simp] theorem State.generateNext_pathB (s : State) (i : Fin 16) :
    (s.generateNext i).pathB = s.pathB := by
  unfold State.generateNext; dsimp only; split
  · simp
  · split <;> simp
@[simp] theorem State.generateNext_house (s : State) (i : Fin 16) :
    (s.generateNext i).house = s.house := by
  unfold State.generateNext; dsimp only; split
  · simp
  · split <;> simp
@[simp] theorem State.generateNext_patternMem (s : State) (i : Fin 16) :
    (s.generateNext i).patternMem = s.patternMem := by
  unfold State.generateNext; dsimp only; split
  · simp
  · split <;> simp
@[simp] theorem State.generateNext_frozen (s : State) (i : Fin 16) :
    (s.generateNext i).frozen = s.frozen := by
  unfold State.generateNext; dsimp only; split
  · simp
  · split <;> simp
@[simp] theorem State.generateNext_frozenLabel (s : State) (i : Fin 16) :
    (s.generateNext i).frozenLabel = s.frozenLabel := by
  unfold State.generateNext; dsimp only; split
  · simp
  · split <;> simp
@[simp] theorem State.generateNext_freeCount (s : State) (i : Fin 16) :
    (s.generateNext i).freeCount = s.freeCount := by
  unfold State.generateNext; dsimp only; split
  · simp
  · split <;> simp
@[simp] theorem State.generateNext_pending (s : State) (i : Fin 16) :
    (s.generateNext i).pending = s.pending := by
  unfold State.generateNext; dsimp only; split
  · simp
  · split <;> simp

@[simp] theorem State.path_generateNext (s : State) (i : Fin 16) (z : PathId) :
    (s.generateNext i).path z = s.path z := by cases z <;> simp [State.path]
@[simp] theorem State.now_generateNext (s : State) (i : Fin 16) :
    (s.generateNext i).now = s.now := by simp [State.now]

/-- A run of generations keeps any fact that one generation keeps. -/
theorem State.generateRun_keeps (P : State → Prop) (i : Fin 16)
    (h : ∀ s, P s → s.canGenerate = true → s.generationStuck i = false → P (s.generateNext i)) (n : Nat) (s : State)
    (hs : P s) : P (s.generateRun i n) := by
  induction n generalizing s with
  | zero => exact hs
  | succ n ih =>
    unfold State.generateRun
    split
    · rename_i hg
      simp only [Bool.and_eq_true, Bool.not_eq_true'] at hg
      exact ih _ (h s hs hg.1 hg.2)
    · exact hs

/-- Generation resumes at the end of an event, or the event stands as it is (R167). -/
theorem State.resumed_cases (s t : State) :
    s.resumed t = t
      ∨ ∃ i, s.isPaused i = true ∧ t.pattern.slot = some i ∧ s.resumed t = t.generateRun i (t.generateFuel i) := by
  unfold State.resumed
  split
  · exact .inl rfl
  · rename_i i _
    split
    · rename_i h
      simp only [Bool.and_eq_true, decide_eq_true_eq] at h
      exact .inr ⟨i, h.1, h.2, rfl⟩
    · exact .inl rfl

/-- The end of an event keeps any fact that a generation keeps. -/
theorem State.resumed_keeps (P : State → Prop)
    (h : ∀ i s, P s → s.canGenerate = true → s.generationStuck i = false → P (s.generateNext i)) (s t : State) (ht : P t) :
    P (s.resumed t) := by
  rcases s.resumed_cases t with e | ⟨i, _, _, e⟩ <;> rw [e]
  · exact ht
  · exact State.generateRun_keeps P i (h i) _ t ht

/-- A paused pattern stream generates nothing. -/
theorem State.canGenerate_of_paused (s : State) (i : Fin 16) (h : s.isPaused i = true) : s.canGenerate = false := by
  simp only [State.isPaused, Bool.and_eq_true, decide_eq_true_eq] at h
  simp [State.canGenerate, h.1.1, h.2]

/-- A state in which nothing can be generated ends no event with a generation. -/
theorem State.generateRun_of_paused (s : State) (i : Fin 16) (n : Nat) (h : s.canGenerate = false) :
    s.generateRun i n = s := by
  cases n <;> simp [State.generateRun, h]

/-- An event after which a pause holds, or no pattern stream takes packets, ends with no generation. -/
theorem State.resumed_of_paused (s t : State) (h : t.canGenerate = false) : s.resumed t = t := by
  rcases s.resumed_cases t with e | ⟨i, _, _, e⟩
  · exact e
  · rw [e]; exact t.generateRun_of_paused i _ h

/-- An event that leaves the pauses as they are resumes no generation. -/
theorem State.resumed_same_pauses (s t : State) (h : t.pauses = s.pauses) : s.resumed t = t := by
  rcases s.resumed_cases t with e | ⟨i, hi, ht, e⟩
  · exact e
  · refine s.resumed_of_paused t ?_
    simp only [State.isPaused, Bool.and_eq_true, decide_eq_true_eq] at hi
    simp [State.canGenerate, ht, h, hi.2]

/-- An event that leaves every slot and the Pattern Source as they are resumes no generation. -/
theorem State.resumed_same (s t : State) (hs : t.slots = s.slots) (hp : t.pattern = s.pattern) : s.resumed t = t := by
  refine s.resumed_same_pauses t ?_
  have hl : ∀ j, t.slot j = s.slot j := fun j => by simp [State.slot, hs]
  simp only [State.pauses, hp, hl]

/-- What an event began with counts only by the slots and the Pattern Source. -/
theorem State.resumed_from (r s t : State) (hs : r.slots = s.slots) (hp : r.pattern = s.pattern) :
    r.resumed t = s.resumed t := by
  have hl : ∀ j, r.slot j = s.slot j := fun j => by simp [State.slot, hs]
  have hq : r.pauses = s.pauses := by simp only [State.pauses, hp, hl]
  have hi : ∀ i, r.isPaused i = s.isPaused i := fun i => by simp only [State.isPaused, hp, hl, hq]
  simp only [State.resumed, hp, hi]

/-- With no pattern stream no event resumes a generation. -/
theorem State.resumed_no_pattern (s t : State) (h : s.pattern.slot = none) : s.resumed t = t := by
  simp [State.resumed, h]


@[simp] theorem State.resumed_power (s t : State) : (s.resumed t).power = t.power :=
  State.resumed_keeps (fun u => u.power = t.power) (fun i u h _ _ => by simpa using h) s t rfl
@[simp] theorem State.resumed_elapsed (s t : State) : (s.resumed t).elapsed = t.elapsed :=
  State.resumed_keeps (fun u => u.elapsed = t.elapsed) (fun i u h _ _ => by simpa using h) s t rfl
@[simp] theorem State.resumed_params (s t : State) : (s.resumed t).params = t.params :=
  State.resumed_keeps (fun u => u.params = t.params) (fun i u h _ _ => by simpa using h) s t rfl
@[simp] theorem State.resumed_store (s t : State) : (s.resumed t).store = t.store :=
  State.resumed_keeps (fun u => u.store = t.store) (fun i u h _ _ => by simpa using h) s t rfl
@[simp] theorem State.resumed_ringMode (s t : State) : (s.resumed t).ringMode = t.ringMode :=
  State.resumed_keeps (fun u => u.ringMode = t.ringMode) (fun i u h _ _ => by simpa using h) s t rfl
@[simp] theorem State.resumed_pathA (s t : State) : (s.resumed t).pathA = t.pathA :=
  State.resumed_keeps (fun u => u.pathA = t.pathA) (fun i u h _ _ => by simpa using h) s t rfl
@[simp] theorem State.resumed_pathB (s t : State) : (s.resumed t).pathB = t.pathB :=
  State.resumed_keeps (fun u => u.pathB = t.pathB) (fun i u h _ _ => by simpa using h) s t rfl
@[simp] theorem State.resumed_house (s t : State) : (s.resumed t).house = t.house :=
  State.resumed_keeps (fun u => u.house = t.house) (fun i u h _ _ => by simpa using h) s t rfl
@[simp] theorem State.resumed_patternMem (s t : State) : (s.resumed t).patternMem = t.patternMem :=
  State.resumed_keeps (fun u => u.patternMem = t.patternMem) (fun i u h _ _ => by simpa using h) s t rfl
@[simp] theorem State.resumed_frozen (s t : State) : (s.resumed t).frozen = t.frozen :=
  State.resumed_keeps (fun u => u.frozen = t.frozen) (fun i u h _ _ => by simpa using h) s t rfl
@[simp] theorem State.resumed_frozenLabel (s t : State) : (s.resumed t).frozenLabel = t.frozenLabel :=
  State.resumed_keeps (fun u => u.frozenLabel = t.frozenLabel) (fun i u h _ _ => by simpa using h) s t rfl
@[simp] theorem State.resumed_freeCount (s t : State) : (s.resumed t).freeCount = t.freeCount :=
  State.resumed_keeps (fun u => u.freeCount = t.freeCount) (fun i u h _ _ => by simpa using h) s t rfl
@[simp] theorem State.resumed_pending (s t : State) : (s.resumed t).pending = t.pending :=
  State.resumed_keeps (fun u => u.pending = t.pending) (fun i u h _ _ => by simpa using h) s t rfl

/-- An event that is due is taken, and generation resumes after it where it ends the last pause. -/
theorem whenDueResuming_taken (f : State → State) {s : State} (h : s.power ≠ .off) :
    whenDueResuming true f s = .next (s.resumed (f s)) := by
  simp [whenDueResuming, whenDue, State.powered, h]

/-- An event whose condition does not hold changes nothing. -/
@[simp] theorem whenDueResuming_false (f : State → State) (s : State) : whenDueResuming false f s = .next s := by
  simp [whenDueResuming, whenDue]

end Sys2Proof.Machine
end

