-- ==== Sys2Proof/Laws/Step.lean ====
section
/-!
SUPPORT. The step, the events and the port: idle steps, events that are due or not, transactions the port takes.
-/

namespace Sys2Proof.Machine

open Sys2Proof

/-- Only the queue and the count of free values move when an idle step finds one of the part's events due. -/
theorem State.tick_cases (s : State) :
    (s.power = .off ∧ s.tick = s)
      ∨ (s.power ≠ .off ∧ s.dueEvents = [] ∧ s.tick = passNanosecond s)
      ∨ (s.power ≠ .off ∧ ∃ c ∈ s.dueEvents, s.tick = { s with pending := [c], freeCount := s.freeCount + 1 }) := by
  unfold State.tick
  split
  · rename_i h; exact .inl ⟨h, rfl⟩
  · rename_i h
    split
    · rename_i hd; exact .inr (.inl ⟨h, hd, rfl⟩)
    · rename_i c hd; exact .inr (.inr ⟨h, c, by simp [hd], rfl⟩)
    · rename_i c cs _ hd
      have hl : Config.eventChoice s.freeCount % (c :: cs).length < (c :: cs).length := Nat.mod_lt _ (by simp)
      refine .inr (.inr ⟨h, (c :: cs)[Config.eventChoice s.freeCount % (c :: cs).length], ?_, ?_⟩)
      · rw [hd]; exact List.getElem_mem hl
      · rw [List.getElem?_eq_getElem hl]; rfl

/-- An event whose condition holds is taken; the part has power. -/
theorem whenDue_taken (f : State → State) {s : State} (h : s.power ≠ .off) : whenDue true f s = .next (f s) := by
  simp [whenDue, State.powered, h]

/-- An event whose condition does not hold changes nothing. -/
@[simp] theorem whenDue_false (f : State → State) (s : State) : whenDue false f s = .next s := by simp [whenDue]

/-- An event answers a next state, which keeps any fact that the event keeps where it is due. -/
theorem whenDue_keeps (P : State → Prop) {due : Bool} {f : State → State} {s t : State} (hs : P s)
    (h : s.power ≠ .off → due = true → P (f s)) (ht : whenDue due f s = .next t) : P t := by
  unfold whenDue at ht
  cases ht
  split
  · rename_i hc
    simp only [State.powered, Bool.and_eq_true, decide_eq_true_eq] at hc
    exact h hc.1 hc.2
  · exact hs

/-! ## Transactions -/

/-- A port that is ready is not silent. -/
theorem State.not_silent_of_ready {s : State} (h : s.hostReady) : s.silent = false := by
  simp [State.silent, State.up, h.1, h.2.1]

/-- A port that is silent takes no write. -/
theorem State.hostWrite_silent (s : State) (bytes : List Byte) (h : s.silent = true) : s.hostWrite bytes = s := by
  simp [State.hostWrite, h]

/-- A ready port takes a write to a page and an offset: the pointer goes there, and the data bytes follow. -/
theorem State.writeAt_ready {s : State} (h : s.hostReady) (page off : Nat) (hp : page < 256) (ho : off < 256)
    (data : List Byte) :
    s.writeAt page off data =
      (s.updPort fun q => { q with page := page, offset := off, extension := false, reading := none }).putData data := by
  have he := h.2.2
  have hs := State.not_silent_of_ready h
  simp only [State.writeAt, he, State.hostWrite, hs, State.acceptWrite, Bool.false_eq_true, if_false]
  congr 1
  simp [State.takePage, State.takeOffset, State.endRead, State.updPort, he, Nat.mod_eq_of_lt hp, Nat.mod_eq_of_lt ho]

/-- The result of a command that is DONE. -/
@[simp] theorem State.finishCommand_ok (code : Byte) (s : State) (r : Option OpenResult) :
    State.finishCommand code (s, .ok r) = s.updPort fun p => { p with result := ⟨.done, none, code, r⟩ } := rfl

/-- The result of a command that is REFUSED. -/
@[simp] theorem State.finishCommand_error (code : Byte) (s : State) (e : RefusalCode) :
    State.finishCommand code (s, .error e) = s.updPort fun p => { p with result := ⟨.refused, some e, code, none⟩ } := rfl

/-! ## House time -/

@[simp] theorem State.notePulse_power (s : State) :
    s.notePulse.power = s.power := by simp [State.notePulse]
@[simp] theorem State.notePulse_elapsed (s : State) :
    s.notePulse.elapsed = s.elapsed := by simp [State.notePulse]
@[simp] theorem State.notePulse_params (s : State) :
    s.notePulse.params = s.params := by simp [State.notePulse]
@[simp] theorem State.notePulse_store (s : State) :
    s.notePulse.store = s.store := by simp [State.notePulse]
@[simp] theorem State.notePulse_slots (s : State) :
    s.notePulse.slots = s.slots := by simp [State.notePulse]
@[simp] theorem State.notePulse_sumA (s : State) :
    s.notePulse.sumA = s.sumA := by simp [State.notePulse]
@[simp] theorem State.notePulse_sumB (s : State) :
    s.notePulse.sumB = s.sumB := by simp [State.notePulse]
@[simp] theorem State.notePulse_due (s : State) :
    s.notePulse.due = s.due := by simp [State.notePulse]
@[simp] theorem State.notePulse_held (s : State) :
    s.notePulse.held = s.held := by simp [State.notePulse]
@[simp] theorem State.notePulse_ring (s : State) :
    s.notePulse.ring = s.ring := by simp [State.notePulse]
@[simp] theorem State.notePulse_ringMode (s : State) :
    s.notePulse.ringMode = s.ringMode := by simp [State.notePulse]
@[simp] theorem State.notePulse_launcher (s : State) :
    s.notePulse.launcher = s.launcher := by simp [State.notePulse]
@[simp] theorem State.notePulse_entries (s : State) :
    s.notePulse.entries = s.entries := by simp [State.notePulse]
@[simp] theorem State.notePulse_cellMem (s : State) :
    s.notePulse.cellMem = s.cellMem := by simp [State.notePulse]
@[simp] theorem State.notePulse_lanes (s : State) :
    s.notePulse.lanes = s.lanes := by simp [State.notePulse]
@[simp] theorem State.notePulse_pathA (s : State) :
    s.notePulse.pathA = s.pathA := by simp [State.notePulse]
@[simp] theorem State.notePulse_pathB (s : State) :
    s.notePulse.pathB = s.pathB := by simp [State.notePulse]
@[simp] theorem State.notePulse_pattern (s : State) :
    s.notePulse.pattern = s.pattern := by simp [State.notePulse]
@[simp] theorem State.notePulse_patternMem (s : State) :
    s.notePulse.patternMem = s.patternMem := by simp [State.notePulse]
@[simp] theorem State.notePulse_port (s : State) :
    s.notePulse.port = s.port := by simp [State.notePulse]
@[simp] theorem State.notePulse_frozen (s : State) :
    s.notePulse.frozen = s.frozen := by simp [State.notePulse]
@[simp] theorem State.notePulse_frozenLabel (s : State) :
    s.notePulse.frozenLabel = s.frozenLabel := by simp [State.notePulse]
@[simp] theorem State.notePulse_freeCount (s : State) :
    s.notePulse.freeCount = s.freeCount := by simp [State.notePulse]
@[simp] theorem State.notePulse_pending (s : State) :
    s.notePulse.pending = s.pending := by simp [State.notePulse]

@[simp] theorem State.slot_notePulse (s : State) (j : Fin 16) :
    s.notePulse.slot j = s.slot j := by simp [State.slot]
@[simp] theorem State.lane_notePulse (s : State) (m : Fin 4) :
    s.notePulse.lane m = s.lane m := by simp [State.lane]
@[simp] theorem State.path_notePulse (s : State) (z : PathId) :
    s.notePulse.path z = s.path z := by cases z <;> simp [State.path]
@[simp] theorem State.entry_notePulse (s : State) (a : Nat) :
    s.notePulse.entry? a = s.entry? a := by simp [State.entry?]

@[simp] theorem State.lockOnPulse_power (s : State) :
    s.lockOnPulse.power = s.power := by unfold State.lockOnPulse; split <;> simp
@[simp] theorem State.lockOnPulse_elapsed (s : State) :
    s.lockOnPulse.elapsed = s.elapsed := by unfold State.lockOnPulse; split <;> simp
@[simp] theorem State.lockOnPulse_params (s : State) :
    s.lockOnPulse.params = s.params := by unfold State.lockOnPulse; split <;> simp
@[simp] theorem State.lockOnPulse_store (s : State) :
    s.lockOnPulse.store = s.store := by unfold State.lockOnPulse; split <;> simp
@[simp] theorem State.lockOnPulse_slots (s : State) :
    s.lockOnPulse.slots = s.slots := by unfold State.lockOnPulse; split <;> simp
@[simp] theorem State.lockOnPulse_sumA (s : State) :
    s.lockOnPulse.sumA = s.sumA := by unfold State.lockOnPulse; split <;> simp
@[simp] theorem State.lockOnPulse_sumB (s : State) :
    s.lockOnPulse.sumB = s.sumB := by unfold State.lockOnPulse; split <;> simp
@[simp] theorem State.lockOnPulse_due (s : State) :
    s.lockOnPulse.due = s.due := by unfold State.lockOnPulse; split <;> simp
@[simp] theorem State.lockOnPulse_held (s : State) :
    s.lockOnPulse.held = s.held := by unfold State.lockOnPulse; split <;> simp
@[simp] theorem State.lockOnPulse_ring (s : State) :
    s.lockOnPulse.ring = s.ring := by unfold State.lockOnPulse; split <;> simp
@[simp] theorem State.lockOnPulse_ringMode (s : State) :
    s.lockOnPulse.ringMode = s.ringMode := by unfold State.lockOnPulse; split <;> simp
@[simp] theorem State.lockOnPulse_launcher (s : State) :
    s.lockOnPulse.launcher = s.launcher := by unfold State.lockOnPulse; split <;> simp
@[simp] theorem State.lockOnPulse_entries (s : State) :
    s.lockOnPulse.entries = s.entries := by unfold State.lockOnPulse; split <;> simp
@[simp] theorem State.lockOnPulse_cellMem (s : State) :
    s.lockOnPulse.cellMem = s.cellMem := by unfold State.lockOnPulse; split <;> simp
@[simp] theorem State.lockOnPulse_lanes (s : State) :
    s.lockOnPulse.lanes = s.lanes := by unfold State.lockOnPulse; split <;> simp
@[simp] theorem State.lockOnPulse_pathA (s : State) :
    s.lockOnPulse.pathA = s.pathA := by unfold State.lockOnPulse; split <;> simp
@[simp] theorem State.lockOnPulse_pathB (s : State) :
    s.lockOnPulse.pathB = s.pathB := by unfold State.lockOnPulse; split <;> simp
@[simp] theorem State.lockOnPulse_pattern (s : State) :
    s.lockOnPulse.pattern = s.pattern := by unfold State.lockOnPulse; split <;> simp
@[simp] theorem State.lockOnPulse_patternMem (s : State) :
    s.lockOnPulse.patternMem = s.patternMem := by unfold State.lockOnPulse; split <;> simp
@[simp] theorem State.lockOnPulse_active (s : State) :
    s.lockOnPulse.active = s.active := by unfold State.lockOnPulse; split <;> simp
@[simp] theorem State.lockOnPulse_frozen (s : State) :
    s.lockOnPulse.frozen = s.frozen := by unfold State.lockOnPulse; split <;> simp
@[simp] theorem State.lockOnPulse_frozenLabel (s : State) :
    s.lockOnPulse.frozenLabel = s.frozenLabel := by unfold State.lockOnPulse; split <;> simp
@[simp] theorem State.lockOnPulse_freeCount (s : State) :
    s.lockOnPulse.freeCount = s.freeCount := by unfold State.lockOnPulse; split <;> simp
@[simp] theorem State.lockOnPulse_pending (s : State) :
    s.lockOnPulse.pending = s.pending := by unfold State.lockOnPulse; split <;> simp

@[simp] theorem State.slot_lockOnPulse (s : State) (j : Fin 16) :
    s.lockOnPulse.slot j = s.slot j := by simp [State.slot]
@[simp] theorem State.lane_lockOnPulse (s : State) (m : Fin 4) :
    s.lockOnPulse.lane m = s.lane m := by simp [State.lane]
@[simp] theorem State.path_lockOnPulse (s : State) (z : PathId) :
    s.lockOnPulse.path z = s.path z := by cases z <;> simp [State.path]
@[simp] theorem State.entry_lockOnPulse (s : State) (a : Nat) :
    s.lockOnPulse.entry? a = s.entry? a := by simp [State.entry?]

@[simp] theorem State.stepHouse_power (s : State) (e : Int) :
    (s.stepHouse e).power = s.power := by unfold State.stepHouse; simp
@[simp] theorem State.stepHouse_elapsed (s : State) (e : Int) :
    (s.stepHouse e).elapsed = s.elapsed := by unfold State.stepHouse; simp
@[simp] theorem State.stepHouse_params (s : State) (e : Int) :
    (s.stepHouse e).params = s.params := by unfold State.stepHouse; simp
@[simp] theorem State.stepHouse_store (s : State) (e : Int) :
    (s.stepHouse e).store = s.store := by unfold State.stepHouse; simp
@[simp] theorem State.stepHouse_slots (s : State) (e : Int) :
    (s.stepHouse e).slots = s.slots := by unfold State.stepHouse; simp
@[simp] theorem State.stepHouse_sumA (s : State) (e : Int) :
    (s.stepHouse e).sumA = s.sumA := by unfold State.stepHouse; simp
@[simp] theorem State.stepHouse_sumB (s : State) (e : Int) :
    (s.stepHouse e).sumB = s.sumB := by unfold State.stepHouse; simp
@[simp] theorem State.stepHouse_due (s : State) (e : Int) :
    (s.stepHouse e).due = s.due := by unfold State.stepHouse; simp
@[simp] theorem State.stepHouse_held (s : State) (e : Int) :
    (s.stepHouse e).held = s.held := by unfold State.stepHouse; simp
@[simp] theorem State.stepHouse_ring (s : State) (e : Int) :
    (s.stepHouse e).ring = s.ring := by unfold State.stepHouse; simp
@[simp] theorem State.stepHouse_ringMode (s : State) (e : Int) :
    (s.stepHouse e).ringMode = s.ringMode := by unfold State.stepHouse; simp
@[simp] theorem State.stepHouse_launcher (s : State) (e : Int) :
    (s.stepHouse e).launcher = s.launcher := by unfold State.stepHouse; simp
@[simp] theorem State.stepHouse_entries (s : State) (e : Int) :
    (s.stepHouse e).entries = s.entries := by unfold State.stepHouse; simp
@[simp] theorem State.stepHouse_cellMem (s : State) (e : Int) :
    (s.stepHouse e).cellMem = s.cellMem := by unfold State.stepHouse; simp
@[simp] theorem State.stepHouse_lanes (s : State) (e : Int) :
    (s.stepHouse e).lanes = s.lanes := by unfold State.stepHouse; simp
@[simp] theorem State.stepHouse_pathA (s : State) (e : Int) :
    (s.stepHouse e).pathA = s.pathA := by unfold State.stepHouse; simp
@[simp] theorem State.stepHouse_pathB (s : State) (e : Int) :
    (s.stepHouse e).pathB = s.pathB := by unfold State.stepHouse; simp
@[simp] theorem State.stepHouse_pattern (s : State) (e : Int) :
    (s.stepHouse e).pattern = s.pattern := by unfold State.stepHouse; simp
@[simp] theorem State.stepHouse_patternMem (s : State) (e : Int) :
    (s.stepHouse e).patternMem = s.patternMem := by unfold State.stepHouse; simp
@[simp] theorem State.stepHouse_frozen (s : State) (e : Int) :
    (s.stepHouse e).frozen = s.frozen := by unfold State.stepHouse; simp
@[simp] theorem State.stepHouse_frozenLabel (s : State) (e : Int) :
    (s.stepHouse e).frozenLabel = s.frozenLabel := by unfold State.stepHouse; simp
@[simp] theorem State.stepHouse_freeCount (s : State) (e : Int) :
    (s.stepHouse e).freeCount = s.freeCount := by unfold State.stepHouse; simp
@[simp] theorem State.stepHouse_pending (s : State) (e : Int) :
    (s.stepHouse e).pending = s.pending := by unfold State.stepHouse; simp

@[simp] theorem State.slot_stepHouse (s : State) (e : Int) (j : Fin 16) :
    (s.stepHouse e).slot j = s.slot j := by simp [State.slot]
@[simp] theorem State.lane_stepHouse (s : State) (e : Int) (m : Fin 4) :
    (s.stepHouse e).lane m = s.lane m := by simp [State.lane]
@[simp] theorem State.path_stepHouse (s : State) (e : Int) (z : PathId) :
    (s.stepHouse e).path z = s.path z := by cases z <;> simp [State.path]
@[simp] theorem State.entry_stepHouse (s : State) (e : Int) (a : Nat) :
    (s.stepHouse e).entry? a = s.entry? a := by simp [State.entry?]

@[simp] theorem State.withholdStep_power (s : State) (e : Int) :
    (s.withholdStep e).power = s.power := by unfold State.withholdStep; simp
@[simp] theorem State.withholdStep_elapsed (s : State) (e : Int) :
    (s.withholdStep e).elapsed = s.elapsed := by unfold State.withholdStep; simp
@[simp] theorem State.withholdStep_params (s : State) (e : Int) :
    (s.withholdStep e).params = s.params := by unfold State.withholdStep; simp
@[simp] theorem State.withholdStep_store (s : State) (e : Int) :
    (s.withholdStep e).store = s.store := by unfold State.withholdStep; simp
@[simp] theorem State.withholdStep_slots (s : State) (e : Int) :
    (s.withholdStep e).slots = s.slots := by unfold State.withholdStep; simp
@[simp] theorem State.withholdStep_sumA (s : State) (e : Int) :
    (s.withholdStep e).sumA = s.sumA := by unfold State.withholdStep; simp
@[simp] theorem State.withholdStep_sumB (s : State) (e : Int) :
    (s.withholdStep e).sumB = s.sumB := by unfold State.withholdStep; simp
@[simp] theorem State.withholdStep_due (s : State) (e : Int) :
    (s.withholdStep e).due = s.due := by unfold State.withholdStep; simp
@[simp] theorem State.withholdStep_held (s : State) (e : Int) :
    (s.withholdStep e).held = s.held := by unfold State.withholdStep; simp
@[simp] theorem State.withholdStep_ring (s : State) (e : Int) :
    (s.withholdStep e).ring = s.ring := by unfold State.withholdStep; simp
@[simp] theorem State.withholdStep_ringMode (s : State) (e : Int) :
    (s.withholdStep e).ringMode = s.ringMode := by unfold State.withholdStep; simp
@[simp] theorem State.withholdStep_launcher (s : State) (e : Int) :
    (s.withholdStep e).launcher = s.launcher := by unfold State.withholdStep; simp
@[simp] theorem State.withholdStep_entries (s : State) (e : Int) :
    (s.withholdStep e).entries = s.entries := by unfold State.withholdStep; simp
@[simp] theorem State.withholdStep_cellMem (s : State) (e : Int) :
    (s.withholdStep e).cellMem = s.cellMem := by unfold State.withholdStep; simp
@[simp] theorem State.withholdStep_lanes (s : State) (e : Int) :
    (s.withholdStep e).lanes = s.lanes := by unfold State.withholdStep; simp
@[simp] theorem State.withholdStep_pathA (s : State) (e : Int) :
    (s.withholdStep e).pathA = s.pathA := by unfold State.withholdStep; simp
@[simp] theorem State.withholdStep_pathB (s : State) (e : Int) :
    (s.withholdStep e).pathB = s.pathB := by unfold State.withholdStep; simp
@[simp] theorem State.withholdStep_pattern (s : State) (e : Int) :
    (s.withholdStep e).pattern = s.pattern := by unfold State.withholdStep; simp
@[simp] theorem State.withholdStep_patternMem (s : State) (e : Int) :
    (s.withholdStep e).patternMem = s.patternMem := by unfold State.withholdStep; simp
@[simp] theorem State.withholdStep_frozen (s : State) (e : Int) :
    (s.withholdStep e).frozen = s.frozen := by unfold State.withholdStep; simp
@[simp] theorem State.withholdStep_frozenLabel (s : State) (e : Int) :
    (s.withholdStep e).frozenLabel = s.frozenLabel := by unfold State.withholdStep; simp
@[simp] theorem State.withholdStep_freeCount (s : State) (e : Int) :
    (s.withholdStep e).freeCount = s.freeCount := by unfold State.withholdStep; simp
@[simp] theorem State.withholdStep_pending (s : State) (e : Int) :
    (s.withholdStep e).pending = s.pending := by unfold State.withholdStep; simp

@[simp] theorem State.slot_withholdStep (s : State) (e : Int) (j : Fin 16) :
    (s.withholdStep e).slot j = s.slot j := by simp [State.slot]
@[simp] theorem State.lane_withholdStep (s : State) (e : Int) (m : Fin 4) :
    (s.withholdStep e).lane m = s.lane m := by simp [State.lane]
@[simp] theorem State.path_withholdStep (s : State) (e : Int) (z : PathId) :
    (s.withholdStep e).path z = s.path z := by cases z <;> simp [State.path]
@[simp] theorem State.entry_withholdStep (s : State) (e : Int) (a : Nat) :
    (s.withholdStep e).entry? a = s.entry? a := by simp [State.entry?]

@[simp] theorem State.stepEvent_power (s : State) :
    s.stepEvent.power = s.power := rfl
@[simp] theorem State.stepEvent_elapsed (s : State) :
    s.stepEvent.elapsed = s.elapsed := rfl
@[simp] theorem State.stepEvent_params (s : State) :
    s.stepEvent.params = s.params := rfl
@[simp] theorem State.stepEvent_store (s : State) :
    s.stepEvent.store = s.store := rfl
@[simp] theorem State.stepEvent_sumA (s : State) :
    s.stepEvent.sumA = s.sumA := rfl
@[simp] theorem State.stepEvent_sumB (s : State) :
    s.stepEvent.sumB = s.sumB := rfl
@[simp] theorem State.stepEvent_due (s : State) :
    s.stepEvent.due = s.due := rfl
@[simp] theorem State.stepEvent_held (s : State) :
    s.stepEvent.held = s.held := rfl
@[simp] theorem State.stepEvent_ring (s : State) :
    s.stepEvent.ring = s.ring := rfl
@[simp] theorem State.stepEvent_ringMode (s : State) :
    s.stepEvent.ringMode = s.ringMode := rfl
@[simp] theorem State.stepEvent_launcher (s : State) :
    s.stepEvent.launcher = s.launcher := rfl
@[simp] theorem State.stepEvent_entries (s : State) :
    s.stepEvent.entries = s.entries := rfl
@[simp] theorem State.stepEvent_cellMem (s : State) :
    s.stepEvent.cellMem = s.cellMem := rfl
@[simp] theorem State.stepEvent_lanes (s : State) :
    s.stepEvent.lanes = s.lanes := rfl
@[simp] theorem State.stepEvent_pathA (s : State) :
    s.stepEvent.pathA = s.pathA := rfl
@[simp] theorem State.stepEvent_pathB (s : State) :
    s.stepEvent.pathB = s.pathB := rfl
@[simp] theorem State.stepEvent_house (s : State) :
    s.stepEvent.house = s.house := rfl
@[simp] theorem State.stepEvent_pattern (s : State) :
    s.stepEvent.pattern = s.pattern := rfl
@[simp] theorem State.stepEvent_patternMem (s : State) :
    s.stepEvent.patternMem = s.patternMem := rfl
@[simp] theorem State.stepEvent_port (s : State) :
    s.stepEvent.port = s.port := rfl
@[simp] theorem State.stepEvent_active (s : State) :
    s.stepEvent.active = s.active := rfl
@[simp] theorem State.stepEvent_frozen (s : State) :
    s.stepEvent.frozen = s.frozen := rfl
@[simp] theorem State.stepEvent_frozenLabel (s : State) :
    s.stepEvent.frozenLabel = s.frozenLabel := rfl
@[simp] theorem State.stepEvent_freeCount (s : State) :
    s.stepEvent.freeCount = s.freeCount := rfl
@[simp] theorem State.stepEvent_pending (s : State) :
    s.stepEvent.pending = s.pending := rfl

@[simp] theorem State.lane_stepEvent (s : State) (m : Fin 4) :
    s.stepEvent.lane m = s.lane m := by simp [State.lane]
@[simp] theorem State.path_stepEvent (s : State) (z : PathId) :
    s.stepEvent.path z = s.path z := by cases z <;> simp [State.path]
@[simp] theorem State.now_stepEvent (s : State) :
    s.stepEvent.now = s.now := by simp [State.now]
@[simp] theorem State.entry_stepEvent (s : State) (a : Nat) :
    s.stepEvent.entry? a = s.entry? a := by simp [State.entry?]

@[simp] theorem State.takeMiss_power (s : State) :
    s.takeMiss.power = s.power := by unfold State.takeMiss; dsimp only; split <;> simp
@[simp] theorem State.takeMiss_elapsed (s : State) :
    s.takeMiss.elapsed = s.elapsed := by unfold State.takeMiss; dsimp only; split <;> simp
@[simp] theorem State.takeMiss_params (s : State) :
    s.takeMiss.params = s.params := by unfold State.takeMiss; dsimp only; split <;> simp
@[simp] theorem State.takeMiss_store (s : State) :
    s.takeMiss.store = s.store := by unfold State.takeMiss; dsimp only; split <;> simp
@[simp] theorem State.takeMiss_slots (s : State) :
    s.takeMiss.slots = s.slots := by unfold State.takeMiss; dsimp only; split <;> simp
@[simp] theorem State.takeMiss_sumA (s : State) :
    s.takeMiss.sumA = s.sumA := by unfold State.takeMiss; dsimp only; split <;> simp
@[simp] theorem State.takeMiss_sumB (s : State) :
    s.takeMiss.sumB = s.sumB := by unfold State.takeMiss; dsimp only; split <;> simp
@[simp] theorem State.takeMiss_due (s : State) :
    s.takeMiss.due = s.due := by unfold State.takeMiss; dsimp only; split <;> simp
@[simp] theorem State.takeMiss_held (s : State) :
    s.takeMiss.held = s.held := by unfold State.takeMiss; dsimp only; split <;> simp
@[simp] theorem State.takeMiss_ring (s : State) :
    s.takeMiss.ring = s.ring := by unfold State.takeMiss; dsimp only; split <;> simp
@[simp] theorem State.takeMiss_ringMode (s : State) :
    s.takeMiss.ringMode = s.ringMode := by unfold State.takeMiss; dsimp only; split <;> simp
@[simp] theorem State.takeMiss_launcher (s : State) :
    s.takeMiss.launcher = s.launcher := by unfold State.takeMiss; dsimp only; split <;> simp
@[simp] theorem State.takeMiss_entries (s : State) :
    s.takeMiss.entries = s.entries := by unfold State.takeMiss; dsimp only; split <;> simp
@[simp] theorem State.takeMiss_cellMem (s : State) :
    s.takeMiss.cellMem = s.cellMem := by unfold State.takeMiss; dsimp only; split <;> simp
@[simp] theorem State.takeMiss_lanes (s : State) :
    s.takeMiss.lanes = s.lanes := by unfold State.takeMiss; dsimp only; split <;> simp
@[simp] theorem State.takeMiss_pathA (s : State) :
    s.takeMiss.pathA = s.pathA := by unfold State.takeMiss; dsimp only; split <;> simp
@[simp] theorem State.takeMiss_pathB (s : State) :
    s.takeMiss.pathB = s.pathB := by unfold State.takeMiss; dsimp only; split <;> simp
@[simp] theorem State.takeMiss_pattern (s : State) :
    s.takeMiss.pattern = s.pattern := by unfold State.takeMiss; dsimp only; split <;> simp
@[simp] theorem State.takeMiss_patternMem (s : State) :
    s.takeMiss.patternMem = s.patternMem := by unfold State.takeMiss; dsimp only; split <;> simp
@[simp] theorem State.takeMiss_frozen (s : State) :
    s.takeMiss.frozen = s.frozen := by unfold State.takeMiss; dsimp only; split <;> simp
@[simp] theorem State.takeMiss_frozenLabel (s : State) :
    s.takeMiss.frozenLabel = s.frozenLabel := by unfold State.takeMiss; dsimp only; split <;> simp
@[simp] theorem State.takeMiss_freeCount (s : State) :
    s.takeMiss.freeCount = s.freeCount := by unfold State.takeMiss; dsimp only; split <;> simp
@[simp] theorem State.takeMiss_pending (s : State) :
    s.takeMiss.pending = s.pending := by unfold State.takeMiss; dsimp only; split <;> simp

@[simp] theorem State.slot_takeMiss (s : State) (j : Fin 16) :
    s.takeMiss.slot j = s.slot j := by simp [State.slot]
@[simp] theorem State.lane_takeMiss (s : State) (m : Fin 4) :
    s.takeMiss.lane m = s.lane m := by simp [State.lane]
@[simp] theorem State.path_takeMiss (s : State) (z : PathId) :
    s.takeMiss.path z = s.path z := by cases z <;> simp [State.path]
@[simp] theorem State.entry_takeMiss (s : State) (a : Nat) :
    s.takeMiss.entry? a = s.entry? a := by simp [State.entry?]

@[simp] theorem State.takeMarker_power (s : State) :
    s.takeMarker.power = s.power := by unfold State.takeMarker; split <;> simp
@[simp] theorem State.takeMarker_elapsed (s : State) :
    s.takeMarker.elapsed = s.elapsed := by unfold State.takeMarker; split <;> simp
@[simp] theorem State.takeMarker_params (s : State) :
    s.takeMarker.params = s.params := by unfold State.takeMarker; split <;> simp
@[simp] theorem State.takeMarker_store (s : State) :
    s.takeMarker.store = s.store := by unfold State.takeMarker; split <;> simp
@[simp] theorem State.takeMarker_slots (s : State) :
    s.takeMarker.slots = s.slots := by unfold State.takeMarker; split <;> simp
@[simp] theorem State.takeMarker_sumA (s : State) :
    s.takeMarker.sumA = s.sumA := by unfold State.takeMarker; split <;> simp
@[simp] theorem State.takeMarker_sumB (s : State) :
    s.takeMarker.sumB = s.sumB := by unfold State.takeMarker; split <;> simp
@[simp] theorem State.takeMarker_due (s : State) :
    s.takeMarker.due = s.due := by unfold State.takeMarker; split <;> simp
@[simp] theorem State.takeMarker_held (s : State) :
    s.takeMarker.held = s.held := by unfold State.takeMarker; split <;> simp
@[simp] theorem State.takeMarker_ring (s : State) :
    s.takeMarker.ring = s.ring := by unfold State.takeMarker; split <;> simp
@[simp] theorem State.takeMarker_ringMode (s : State) :
    s.takeMarker.ringMode = s.ringMode := by unfold State.takeMarker; split <;> simp
@[simp] theorem State.takeMarker_launcher (s : State) :
    s.takeMarker.launcher = s.launcher := by unfold State.takeMarker; split <;> simp
@[simp] theorem State.takeMarker_entries (s : State) :
    s.takeMarker.entries = s.entries := by unfold State.takeMarker; split <;> simp
@[simp] theorem State.takeMarker_cellMem (s : State) :
    s.takeMarker.cellMem = s.cellMem := by unfold State.takeMarker; split <;> simp
@[simp] theorem State.takeMarker_lanes (s : State) :
    s.takeMarker.lanes = s.lanes := by unfold State.takeMarker; split <;> simp
@[simp] theorem State.takeMarker_pathA (s : State) :
    s.takeMarker.pathA = s.pathA := by unfold State.takeMarker; split <;> simp
@[simp] theorem State.takeMarker_pathB (s : State) :
    s.takeMarker.pathB = s.pathB := by unfold State.takeMarker; split <;> simp
@[simp] theorem State.takeMarker_pattern (s : State) :
    s.takeMarker.pattern = s.pattern := by unfold State.takeMarker; split <;> simp
@[simp] theorem State.takeMarker_patternMem (s : State) :
    s.takeMarker.patternMem = s.patternMem := by unfold State.takeMarker; split <;> simp
@[simp] theorem State.takeMarker_freeCount (s : State) :
    s.takeMarker.freeCount = s.freeCount := by unfold State.takeMarker; split <;> simp
@[simp] theorem State.takeMarker_pending (s : State) :
    s.takeMarker.pending = s.pending := by unfold State.takeMarker; split <;> simp

@[simp] theorem State.slot_takeMarker (s : State) (j : Fin 16) :
    s.takeMarker.slot j = s.slot j := by simp [State.slot]
@[simp] theorem State.lane_takeMarker (s : State) (m : Fin 4) :
    s.takeMarker.lane m = s.lane m := by simp [State.lane]
@[simp] theorem State.path_takeMarker (s : State) (z : PathId) :
    s.takeMarker.path z = s.path z := by cases z <;> simp [State.path]
@[simp] theorem State.entry_takeMarker (s : State) (a : Nat) :
    s.takeMarker.entry? a = s.entry? a := by simp [State.entry?]

end Sys2Proof.Machine
end

