-- ==== Sys2Proof/Tests/Slice0.lean ====
section
/-!
SUPPORT. Tests: the spec's worked examples, the well-formedness checks refusing an ill-formed command each, and for
every statement with hypotheses a named witness that meets them, clause by clause.
-/

open Sys2Proof Sys2Proof.Machine

namespace Sys2Proof.Tests

/-! ## Small states -/

/-- The state a command leaves. -/
def after (c : Instr) (s : State) : State :=
  match exec c s with
  | .next t => t
  | _ => s

/-- A command stops with a fault. -/
def faults (c : Instr) (s : State) : Bool :=
  match exec c s with
  | .fault _ => true
  | _ => false

/-- The part up, every stream FREE, the accounts at their quotas, the paths DISABLED. -/
def part : State :=
  { State.reset with
    power := .on
    lanes := Vector.replicate 4 { Lane.blank with account := ⟨3584, 0, none, false⟩ }
    pattern := ⟨none, 0, 0, false, false, 2048⟩ }

/-- The stream of the Example in 1.3. -/
def stream : OpenParams where
  tag := 0x0B17
  pathSet := ⟨true, true⟩
  presence := 0
  startField := 0
  n := 50
  d := 1
  lt := 1125
  la := 1080
  lf := 41
  k := 4320
  s := 1200
  h := 500
  delta := 0

/-- Slot 2 as that OPEN leaves it. -/
def armed : Slot := openedSlot (.lane 2) stream none none 90 251

/-- House time `t`. -/
def at_ (t : Nat) (s : State) : State := { s with house := { s.house with time := t } }

/-- Slot 2 holds a context. -/
def slot2 (c : Slot) (s : State) : State := { s with slots := s.slots.set 2 c, sumA := c.loadA, sumB := c.loadB }

/-- A launcher in service with an entry of slot 3. -/
def busyLauncher : Service := ⟨3, 7, 1, 0, 1200, 0, 6000000000, ⟨true, false⟩, 9⟩

/-- Entry `n` of slot 2, frame 251, with packet index `n`, five cells, a holder. -/
def entry (n : Nat) (h : Holder) : Entry where
  number := n
  slot := 2
  owner := .lane 2
  frame := 251
  index := n
  payload := 1200
  cells := (List.range 5).map fun k => 5 * n + k
  flags := ⟨false, false, false, false, false, false⟩
  stamp := none
  holders := Holders.nobody.put h true

/-- Slot 2 RUNNING with packet (251, 0) queued and formed as its head. -/
def running : Slot :=
  { armed with state := .running, queue := [0], head := some ⟨251, 0, 5020728888, 5020728888⟩ }

/-- The part with that stream and its one entry at house time `t`. -/
def runningAt (t : Nat) : State :=
  { at_ t (slot2 running part) with
    entries := [entry 0 .queued]
    lanes := part.lanes.set 2 { Lane.blank with account := ⟨3579, 0, none, false⟩ } }

/-- A path SENDING with an empty window, a MARK on its line. -/
def sender : Path := { Path.blank with state := .sending, line := .mark 3 1 0 900, silence := some 1000000 }

/-- A host command with a one-byte argument. -/
def arg (v : Byte) (s : State) : State := { s with port := { s.port with args := s.port.args.set 0 v } }

/-! ## Worked examples of the spec -/

/-- R185: the check word of the nine digits. -/
theorem test_check_word : crc [0x31, 0x32, 0x33, 0x34, 0x35, 0x36, 0x37, 0x38, 0x39] = 0xCBF43926 := by decide +kernel

/-- Example in 1.3 and 1.4: terms, start frame, load. -/
theorem test_open_terms :
    (openNn stream, openDd stream, armed.q, armed.r, armed.o) = (1080000000000, 243000000, 4444, 108000000, 728888)
      ∧ armed.h = 1000 ∧ chooseStart stream none 5000000123 = 251 ∧ openLoad 25 stream = 90 := by decide +kernel

/-- Example in 1.3: the OPEN record is taken into the lowest FREE slot and answered OPENED. -/
theorem test_open_record :
    let t := after (.openRecord 2 (openRecordBytes 7 stream)) (at_ 5000000123 part)
    (t.slot 0).state = .armed ∧ (t.lane 2).queue = [.opened 0x0B17 0 251 90 90] ∧ (t.lane 2).expectation = some 8 := by
  decide +kernel

/-- Example in 2.1: the steps of the schedule. -/
theorem test_schedule :
    stepTimes 4444 108000000 243000000 3 (0, 0, 0) = (3, 13333, 81000000)
      ∧ scheduledInstant armed 251 1 = 5020733332 ∧ scheduledInstant armed 251 3 = 5020742221 := by decide +kernel

/-- Example in 2.2: the floor after the grant of (251, 1). -/
theorem test_catch_up_floor :
    latenessIndex 600 = 4 ∧ latenessIndex 20000 = 17 ∧ latenessIndex 16666 = 16
      ∧ spacing 4444 1 = 3889 ∧ spacing 4444 2 = 3333
      ∧ eligibility { armed with sameFrame := true, lambdaPrev := 600, codePrev := 1, aPrev := 5020733932 } 5020737776
        = 5020737821 := by decide +kernel

/-- Example in 2.2: the arming expiry forms the head, and the eligibility instant grants it. -/
theorem test_first_grant :
    let s := after (.armingExpiry 2) { runningAt 5020000000 with slots := part.slots.set 2 { armed with queue := [0] } }
    (s.slot 2).head = some ⟨251, 0, 5020728888, 5020728888⟩
      ∧ (after (.eligibilityInstant 2) (at_ 5020728888 s)).launcher.map (fun v => (v.entry, v.busyUntil))
        = some (0, 5020729285) := by decide +kernel

/-- Example in 4.2: sequence handling across a gap. -/
theorem test_record_gap :
    let s : State := { part with lanes := part.lanes.set 3 { Lane.blank with expectation := some 42 } }
    (after (.closeRecord 3 (closeRecordBytes 43 ⟨0, true, 1⟩)) s).lane 3 = { Lane.blank with expectation := some 44 } := by
  decide +kernel

/-- Example in 4.2: a record behind the expectation. -/
theorem test_record_stale :
    let s : State := { part with lanes := part.lanes.set 3 { Lane.blank with expectation := some 44 } }
    (after (.closeRecord 3 (closeRecordBytes 42 ⟨0, true, 1⟩)) s).active = (s.countLane 3 .stale 1).active := by
  decide +kernel

/-- Example in 5.2: extension across the wrap. -/
theorem test_extension :
    [8, 10, 12, 32775, 32776, 65535].map (extendFrame 131080) = [131080, 131082, 131084, 163847, 98312, 131071] := by
  decide +kernel

/-- Example in 7.4: the window is full, a report is lost, three entries retire and the backlog drains. -/
theorem test_full_window :
    let places := (List.range 6).map fun k => (⟨k, BitVec.ofNat 32 (70001 + k), 5, 0⟩ : WindowPlace)
    let s : State :=
      { part with
        pathA := { sender with
          window := places, backlog := [⟨611, 5⟩, ⟨612, 5⟩], nextSeq := 70007, sentThrough := 70006, ackThrough := 70000,
          reportRef := some 200 } }
    let t := after (.statusFrame .a (statusBytes .a ⟨70003, false, 203⟩)) s
    (t.pathA.window.map fun w => w.seq) = [70004, 70005, 70006, 70007, 70008]
      ∧ t.active.pathA.toList.getD 6 0 = 2 ∧ t.active.pathA.toList.getD 7 0 = 3 ∧ t.pathA.backlog = [] := by
  decide +kernel

/-- Example in 9.4: P3, a small pulse in LOCKED. -/
theorem test_small_pulse :
    let s : State :=
      { part with
        house := { House.blank with
          time := 1002000002625, lock := .locked, trim := -375, labelWritten := true, pulseSecond := 1002 } }
    let t := after .referencePulse s
    t.house.trim = -703 ∧ t.house.slew.remaining = -2625 ∧ t.house.pulseSecond = 1003 := by decide +kernel

/-- Example in 9.4: P1, a big error in FREE_RUN steps forward and raises the marker of second 1,000. -/
theorem test_first_step :
    let s : State :=
      { part with house := { House.blank with time := 2400000000, labelWritten := true, pulseSecond := 1000 } }
    let t := after .referencePulse s
    t.house.time = 1000000000000 ∧ t.house.lock = .locked ∧ t.house.markers = [1000] ∧ t.port.causes = 0x0C := by
  decide +kernel

/-- Example in 12.4: the fields and the time of the first DATA frame. -/
theorem test_data_frame :
    let e : Entry := { entry 1 (.window .a) with stamp := some 725766636 }
    let b := dataFrameBytes .a e ⟨1, 1, 0x0B17, 0⟩ (List.replicate 1200 0)
    b.length = 1232 ∧ b.take 24 = [0xD1, 0, 2, 0, 0x17, 0x0B, 0xB0, 4, 1, 0, 0, 0, 251, 0, 0, 0, 1, 0, 0, 0, 0, 0, 0, 0]
      ∧ field b 1224 4 = 725766636 ∧ wireTime 25 1200 = 397 := by decide +kernel

/-- 12.3: a LANE READY notice is 8 bytes and takes 80 ns. -/
theorem test_notice_length : (noticeBytes 1 (.laneReady 3584)).length = 8 ∧ noticeTime (.laneReady 3584) = 80 := by
  decide +kernel

/-! ## Well-formedness -/

/-- A PACKET record brought as an OPEN. -/
theorem test_wf_open : (Instr.openRecord 0 [0x02]).wellFormed = false := by decide

/-- An OPEN record brought as a PACKET. -/
theorem test_wf_packet : (Instr.packetRecord 0 [0x01]).wellFormed = false := by decide

/-- A LANE RESET record brought as a CLOSE. -/
theorem test_wf_close : (Instr.closeRecord 0 [0x0F]).wellFormed = false := by decide

/-- A CLOSE record brought as a LANE RESET. -/
theorem test_wf_lane_reset : (Instr.laneResetRecord 0 [0x03]).wellFormed = false := by decide

/-- A known code brought as an unknown one; 0 is no command. -/
theorem test_wf_bad_command :
    (Instr.badCommand 0x01).wellFormed = false ∧ (Instr.badCommand 0).wellFormed = false
      ∧ (Instr.badCommand 0x13).wellFormed = true := by decide

/-! ## Witnesses: power and the whole machine -/

/-- StepTakesTheFrontCommand; the invariants' hypotheses, with an entry live. -/
theorem witness_step :
    let s : State := { runningAt 5020000000 with pending := [.powerOn, .clear] }
    s.pending = [.powerOn, .clear] ∧ s.memoriesCanonical ∧ s.ringWhole
      ∧ s.noticesBounded ∧ (s.pathA.window.length ≤ 1024 ∧ s.pathB.backlog.length ≤ 256) ∧ s.trimBounded
      ∧ s.heldNotDue ∧ s.entriesRising ∧ (∀ l : Fin 4, s.creditLaw l) := by decide +kernel

/-- The same state: the step answers a next state; the invariants that range over paths and banks. -/
theorem witness_step_invariants :
    let s : State := { runningAt 5020000000 with pending := [.powerOn, .clear] }
    step s = .next { s with pending := [.clear] } ∧ s.pathsBounded ∧ s.countersBounded ∧ s.accountsSound ∧ s.sumsSound := by
  refine ⟨rfl, fun p => by cases p <;> decide +kernel, ?_, ?_, ?_⟩
  · unfold State.countersBounded Bank.bounded
    decide +kernel
  · unfold State.accountsSound
    decide +kernel
  · unfold State.sumsSound
    decide +kernel

/-- IdleStepPassesOneNanosecond: no adjustment withheld, at the edge of a second; one withheld. -/
theorem witness_idle_step :
    let s := at_ 999999999 part
    let s' : State := { s with house := { s.house with withheld := 1 } }
    s.pending = [] ∧ s.power ≠ .off ∧ s.dueEvents = [] ∧ s.house.time + 1 < 2 ^ 64 ∧ s.house.withheld = 0
      ∧ s'.pending = [] ∧ s'.dueEvents = [] ∧ 0 < s'.house.withheld := by decide +kernel

/-- ExecLeavesTheQueueAndStopsOnlyWithoutCells, its first two clauses: a command that is neither a packet nor a
generation. -/
theorem witness_exec_next :
    exec .powerOn part = .next part ∧ (∀ l b, Instr.powerOn ≠ .packetRecord l b) ∧ Instr.powerOn ≠ .patternGeneration :=
  ⟨rfl, fun _ _ h => (by cases h), by decide⟩

/-- PowerOnSetsThePowerOnState, PowerOnLoadBringsThePartUp, PowerFailEndsActivity: a part without power, one loading, one
with a STORE in progress and one without. -/
theorem witness_power :
    let off := after .powerFail part
    let storing : State := { part with port := { part.port with busy := some (.store part.params 5) } }
    off.power = .off ∧ off.port.busy = none ∧ Instr.clear ≠ .powerOn ∧ State.reset.power = .loading
      ∧ storing.power ≠ .off ∧ storing.port.busy = some (.store part.params 5)
      ∧ (∀ image since, part.port.busy ≠ some (.store image since)) :=
  ⟨by decide +kernel, by decide +kernel, by decide, by decide, by decide +kernel, by decide +kernel, fun _ _ h => (by cases h)⟩

/-! ## Witnesses: feed lanes -/

/-- RecordOfBadFormOrStaleSequenceIsDropped: empty records have bad form; good ones just behind the expectation, and at
the edge of the half range, are stale; good ones one ahead, and at the other edge of the half range, leave a gap. -/
theorem witness_dropped_records :
    let s : State := { part with lanes := part.lanes.set 0 { Lane.blank with expectation := some 44 } }
    let p : PacketRecord := ⟨true, true, false, 2, 0x0B17, 251, 0, [1, 2, 3]⟩
    let ahead (bytes : List Byte) : Nat := (recordSeq bytes - 44).toNat
    s.power = .on ∧ openForm [] = false ∧ packetForm [] = false ∧ closeForm [] = false ∧ laneResetForm [] = false
      ∧ (s.lane 0).expectation = some 44
      ∧ openForm (openRecordBytes 43 stream) = true ∧ 32768 ≤ ahead (openRecordBytes 43 stream)
      ∧ packetForm (packetRecordBytes 32812 p) = true ∧ ahead (packetRecordBytes 32812 p) = 32768
      ∧ closeForm (closeRecordBytes 43 ⟨2, true, 1⟩) = true ∧ 32768 ≤ ahead (closeRecordBytes 43 ⟨2, true, 1⟩)
      ∧ openForm (openRecordBytes 45 stream) = true ∧ ahead (openRecordBytes 45 stream) = 1
      ∧ packetForm (packetRecordBytes 32811 p) = true ∧ ahead (packetRecordBytes 32811 p) = 32767
      ∧ closeForm (closeRecordBytes 45 ⟨2, true, 1⟩) = true ∧ ahead (closeRecordBytes 45 ⟨2, true, 1⟩) = 1 := by
  decide +kernel

/-- OpenRecordArmsTheLowestFreeSlot: the path sums at the edge of the budget. -/
theorem witness_open_accepted :
    let s : State := { at_ 5000000123 part with sumA := 810, sumB := 810 }
    let bytes := openRecordBytes 7 stream
    s.power = .on ∧ openForm bytes = true ∧ s.inOrder 2 (recordSeq bytes) ∧ (s.lane 2).queue.length < 32
      ∧ s.lowestFree = some 0 ∧ badOpen (parseOpen (bytes.drop 8)) = false
      ∧ s.admits (parseOpen (bytes.drop 8)).pathSet (openLoad s.params.rate (parseOpen (bytes.drop 8))) = true := by
  decide +kernel

/-- OpenRecordIsTurnedAwayInOrder: no FREE slot; a bad parameter; path B over its budget by one stream (Example in 1.4);
32 notices queued. -/
theorem witness_open_refused :
    let full : State := { part with slots := Vector.replicate 16 armed }
    let tight : State := { part with sumA := 810, sumB := 900 }
    let good := openRecordBytes 7 stream
    let bad := openRecordBytes 7 { stream with s := 63 }
    let lane32 : State := { part with lanes := part.lanes.set 2 { Lane.blank with queue := List.replicate 32 (.credit 1) } }
    (full.power = .on ∧ full.inOrder 2 (recordSeq good) ∧ (full.lane 2).queue.length < 32)
      ∧ openForm good = true ∧ full.lowestFree = none
      ∧ openForm bad = true ∧ part.lowestFree ≠ none ∧ badOpen (parseOpen (bad.drop 8)) = true
      ∧ part.inOrder 2 (recordSeq bad) ∧ (part.lane 2).queue.length < 32
      ∧ tight.lowestFree ≠ none ∧ badOpen (parseOpen (good.drop 8)) = false
      ∧ tight.admits (parseOpen (good.drop 8)).pathSet (openLoad tight.params.rate (parseOpen (good.drop 8))) = false
      ∧ tight.inOrder 2 (recordSeq good) ∧ (tight.lane 2).queue.length < 32
      ∧ lane32.power = .on ∧ lane32.inOrder 2 (recordSeq good) ∧ (lane32.lane 2).queue.length = 32
      ∧ closeForm (closeRecordBytes 7 ⟨2, true, 1⟩) = true := by decide +kernel

/-- StartFrameIsTheLeastAtOrAfterTheBound: frame 251 named, usable exactly at the bound; frame 250 named, one
nanosecond too early. -/
theorem witness_start_frame :
    0 < stream.n ∧ 0 < stream.d ∧ 5019000000 + 1000000 ≤ boundary stream.n stream.d 251
      ∧ boundary stream.n stream.d 252 + openO stream + clampDelta stream.delta ≤ 2 ^ 64 - 1
      ∧ ¬ (4999000001 + 1000000 ≤ boundary stream.n stream.d 250) := by decide +kernel

/-- CloseRecordFollowsModeAndState: ARMED; RUNNING and DRAINING with NOW; RUNNING and DRAINING with DRAIN; an empty queue
with DRAIN; a FREE slot, another owner, another tag. -/
theorem witness_close :
    let bytes (now : Bool) := closeRecordBytes 7 ⟨2, now, 0x0B17⟩
    let with_ (c : Slot) := slot2 c part
    let fits (c : Slot) (now : Bool) : Prop :=
      (with_ c).power = .on ∧ closeForm (bytes now) = true ∧ (with_ c).inOrder 2 (recordSeq (bytes now))
        ∧ ((with_ c).lane 2).queue.length < 32 ∧ (parseClose (bytes now)).slot = 2
        ∧ ((with_ c).slot 2).owner = .lane 2 ∧ ((with_ c).slot 2).tag = (parseClose (bytes now)).tag
        ∧ (parseClose (bytes now)).now = now
    fits armed false ∧ fits running true ∧ fits { running with state := .draining } true ∧ fits running false
      ∧ running.queue ≠ [] ∧ fits { running with state := .draining } false
      ∧ fits { running with queue := [], head := none } false
      ∧ (part.slot 2).state = .free ∧ ((with_ { armed with owner := .pattern }).slot 2).owner ≠ .lane 2
      ∧ ((with_ { armed with tag := 1 }).slot 2).tag ≠ (parseClose (bytes true)).tag := by decide +kernel

/-- A PACKET record of the example stream with a short payload. -/
def packet (f i : Nat) : List Byte := packetRecordBytes 7 ⟨false, false, false, 2, 0x0B17, f, i, [1, 2, 3]⟩

/-- PacketRecordJoinsItsQueue: the last frame and the last index Intake takes, with exactly the credit it needs. -/
theorem witness_packet_accepted :
    let s : State := { runningAt 5020728000 with lanes := part.lanes.set 2 { Lane.blank with account := ⟨1, 0, none, false⟩ } }
    let bytes := packet 254 4319
    s.power = .on ∧ packetForm bytes = true ∧ s.inOrder 2 (recordSeq bytes) ∧ (parsePacket bytes).slot = 2
      ∧ s.packetPasses 2 2 (parsePacket bytes) 1 254 ∧ (s.slot 2).queue ≠ [] ∧ s.memoriesCanonical := by decide +kernel

/-- The packet (251, 1) of the example stream passes steps 1 and 2 of R65. -/
abbrev packetFits (s : State) : Prop :=
  s.power = .on ∧ s.inOrder 2 (recordSeq (packet 251 1)) ∧ (s.slot 2).state.takesPackets = true
    ∧ (s.slot 2).owner = .lane 2 ∧ (s.slot 2).tag = (parsePacket (packet 251 1)).tag

/-- It passes the tests of length, credit and entry too. -/
abbrev packetPassesFour (s : State) : Prop :=
  packetFits s ∧ (parsePacket (packet 251 1)).payload.length ≤ (s.slot 2).s
    ∧ cellsFor (parsePacket (packet 251 1)).payload.length ≤ (s.lane 2).account.outstanding ∧ s.freeEntry ≠ none

/-- PacketRecordDropsAreChargedAndRefunded: a DRAINING stream; a payload above S; no credit; a full queue with the FULL
mark clear on its tail and set. -/
theorem witness_packet_dropped :
    let p := parsePacket (packet 251 1)
    let draining := slot2 { running with state := .draining } part
    let small := slot2 { running with s := 2 } part
    let broke : State := { runningAt 5 with lanes := Vector.replicate 4 Lane.blank }
    let full (mark : Bool) : State :=
      { runningAt 5 with
        slots := part.slots.set 2 { running with queue := List.replicate 512 0 }
        entries := [{ entry 0 .queued with flags := ⟨false, false, false, false, mark, false⟩ }] }
    packetForm (packet 251 1) = true ∧ p.slot = 2 ∧ draining.power = .on ∧ draining.inOrder 2 (recordSeq (packet 251 1))
      ∧ (draining.slot 2).state.takesPackets = false
      ∧ packetFits small ∧ (small.slot 2).s < p.payload.length
      ∧ packetFits broke ∧ p.payload.length ≤ (broke.slot 2).s
      ∧ (broke.lane 2).account.outstanding < cellsFor p.payload.length
      ∧ (∀ mark, packetPassesFour (full mark) ∧ ((full mark).slot 2).queue.length = 512
          ∧ ((full mark).slot 2).queue.getLast? = some 0
          ∧ ((full mark).entry? 0).map (fun e => e.flags.full) = some mark) := by decide +kernel

/-- PacketRecordDropsAreChargedAndRefunded, Intake: a frame just behind fc, and just past the last taken; an index of K in
the first and the last frame taken; a position not after the last. -/
theorem witness_packet_refused :
    let s : State :=
      { runningAt 5 with slots := part.slots.set 2 { running with intake := ⟨some (251, 1), true, false, false⟩ } }
    let p (f i : Nat) := parsePacket (packet f i)
    let frame (f : Nat) : Int := extendFrame (s.slot 2).fc (p f 1).frameField
    packetPassesFour s ∧ (s.slot 2).queue.length < 512 ∧ (s.slot 2).fc = 251
      ∧ (∀ f ∈ [250, 251, 254, 255], packetForm (packet f 1) = true ∧ packetForm (packet f 4320) = true ∧ frame f = f)
      ∧ (p 251 4320).index = (s.slot 2).k ∧ (p 254 4320).index = (s.slot 2).k ∧ (p 251 1).index < (s.slot 2).k
      ∧ afterLast (s.slot 2).intake.lastAccepted 251 (p 251 1).index = false := by decide +kernel

/-- LaneResetResetsItsLane: the record, the command at lane 3 and at 4. -/
theorem witness_lane_reset :
    part.power = .on ∧ laneResetForm (laneResetRecordBytes 9) = true
      ∧ (arg 3 part).hostReady ∧ (arg 3 part).argIs (3 : Fin 4).val ∧ (arg 4 part).hostReady ∧ 3 < (arg 4 part).argByte
      ∧ ((slot2 running part).slot 2).state.isOpen = true ∧ ((slot2 running part).slot 2).owner = .lane 2 := by
  decide +kernel

/-- NoticesAreSentOldestFirst: a queued notice with the indication asserted by the command; one whose last byte goes
exactly now. -/
theorem witness_notice :
    let s : State := { part with
      elapsed := 80
      lanes := part.lanes.set 1 { Lane.blank with queue := [.laneReady 3584] } }
    let t : State := { s with
      lanes := s.lanes.set 1 { Lane.blank with sending := some ⟨.laneReady 3584, 80⟩ } }
    s.power ≠ .off ∧ (s.lane 1).queue = [.laneReady 3584] ∧ (s.lane 1).sending = none
      ∧ (some true).getD (s.lane 1).ready = true ∧ t.power ≠ .off
      ∧ (t.lane 1).sending = some ⟨.laneReady 3584, 80⟩ ∧ 80 ≤ t.elapsed := by decide +kernel

/-- CreditBatchReturnsThePendingCredit: sixteen pending cells with no CREDIT queued; one pending cell whose timer has
expired, a CREDIT queued among 32 notices; a timer at its edge. -/
theorem witness_batch :
    let lane (a : Account) (q : List Notice) : State :=
      { at_ 20005 part with lanes := part.lanes.set 2 { Lane.blank with account := a, queue := q } }
    let s := lane ⟨3568, 16, some 5, false⟩ (List.replicate 31 (.laneReady 1))
    let t := lane ⟨3583, 1, some 5, true⟩ (List.replicate 31 (.laneReady 1) ++ .credit 5 :: [])
    s.power ≠ .off ∧ 16 ≤ (s.lane 2).account.pending ∧ (s.lane 2).queue.length < 32 ∧ (s.lane 2).hasCredit = false
      ∧ (t.lane 2).account.expired = true ∧ 0 < (t.lane 2).account.pending ∧ (t.lane 2).hasCredit = true
      ∧ (t.lane 2).queue = List.replicate 31 (.laneReady 1) ++ .credit 5 :: []
      ∧ ((List.replicate 31 (Notice.laneReady 1)).any Notice.isCredit) = false
      ∧ (s.lane 2).account.oldest = some 5 ∧ (s.lane 2).account.expired = false ∧ 5 + 20000 ≤ s.now := by
  decide +kernel

/-! ## Witnesses: Pacer and launcher -/

/-- ScheduleStepsEqualTheClosedForm: the context of the Example in 2.1, after its first step, seeking index 3. -/
theorem witness_schedule :
    let t : Slot := { armed with stepIndex := 1, stepOffset := 4444, stepRemainder := 108000000 }
    0 < t.dd ∧ t.q = t.nn / t.dd ∧ t.r = t.nn % t.dd ∧ t.stepOffset = t.stepIndex * t.nn / t.dd
      ∧ t.stepRemainder = t.stepIndex * t.nn % t.dd ∧ t.stepIndex ≤ 3 := by decide +kernel

/-- ExpiriesArmASlotAndMakeItDue: an ARMED slot exactly at its boundary and one nanosecond before it, with a first entry
of fc and without; a RUNNING slot exactly at its eligibility instant and one nanosecond before it. -/
theorem witness_expiries :
    let ready (c : Slot) (t : Nat) : State :=
      { runningAt t with slots := part.slots.set 2 c, launcher := some busyLauncher }
    let s := ready { armed with queue := [0] } 5020000000
    let e := ready armed 5020000000
    let r := ready running 5020728888
    let early := ready running 5020728887
    s.power ≠ .off ∧ (s.slot 2).state = .armed ∧ boundary (s.slot 2).n (s.slot 2).d (s.slot 2).fs = s.now
      ∧ s.launcher ≠ none ∧ s.headEntry 2 = some (entry 0 .queued) ∧ (entry 0 .queued).frame = (s.slot 2).fc
      ∧ e.headEntry 2 = none ∧ boundary (e.slot 2).n (e.slot 2).d (e.slot 2).fs ≤ e.now
      ∧ (at_ 5019999999 s).now < boundary (s.slot 2).n (s.slot 2).d (s.slot 2).fs
      ∧ (r.slot 2).state = .running ∧ r.held[2] = false ∧ r.due[2] = false ∧ r.launcher ≠ none
      ∧ (r.slot 2).head = some ⟨251, 0, 5020728888, 5020728888⟩ ∧ (r.slot 2).fc = 251 ∧ 5020728888 ≤ r.now
      ∧ early.now < 5020728888 := by decide +kernel

/-- Slot 2 with a queue of the entries 0 to 3, of which 3 is of the next frame, and the launcher free. -/
def queued (st : SlotState) (queue : List Nat) (t : Nat) : State :=
  let next (n : Nat) : Entry := { entry n .queued with frame := 252 }
  { at_ t (slot2 { running with state := st, queue := queue } part) with
    entries := [entry 0 .queued, entry 1 .queued, entry 2 .queued, next 3] }

/-- LoneDueHeadIsGranted: RUNNING, exactly at the eligibility instant; a next entry of fc, one of a later frame, and the
last entry of a DRAINING stream. -/
theorem witness_grant :
    (∀ x ∈ [(SlotState.running, ([] : List Nat)), (.running, [1, 2]), (.running, [3]), (.draining, [])],
      let s := queued x.1 (0 :: x.2) 5020728888
      s.power ≠ .off ∧ (s.slot 2).state = x.1 ∧ s.held[2] = false
        ∧ (s.slot 2).head = some ⟨251, 0, 5020728888, 5020728888⟩ ∧ (s.slot 2).fc = 251 ∧ 5020728888 ≤ s.now
        ∧ s.launcher = none ∧ (∀ j : Fin 16, s.due[j] = false) ∧ s.ringWhole ∧ (s.slot 2).queue = 0 :: x.2
        ∧ s.entry? 0 = some (entry 0 .queued) ∧ s.closedFits 2)
      ∧ (queued .running [0, 1, 2] 5020728888).entry? 1 = some (entry 1 .queued)
      ∧ (((queued .running [0, 3] 5020728888).entry? 3).map fun e => e.frame) = some 252 := by decide +kernel

/-- ChoiceTakesTheHighestOfItsClass: slot 5 URGENT behind slot 2 due, and slot 2 highest with none URGENT. -/
theorem witness_choice :
    let late : Slot := { running with head := some ⟨251, 0, 5020719888, 5020719888⟩ }
    let s : State := { runningAt 5020728888 with
      slots := (part.slots.set 2 running).set 5 late
      due := (part.due.set 2 true).set 5 true
      ring := [0, 1, 2, 3, 4, 5, 6, 7, 8, 9, 10, 11, 12, 13, 14, 15] }
    let t : State := { runningAt 5020728888 with due := part.due.set 2 true }
    s.launcher = none ∧ s.due[5] = true ∧ s.ring = [0, 1, 2, 3, 4] ++ 5 :: [6, 7, 8, 9, 10, 11, 12, 13, 14, 15]
      ∧ s.isUrgent 5 = true ∧ (∀ j ∈ ([0, 1, 2, 3, 4] : List (Fin 16)), s.due[j] = true → s.isUrgent j = false)
      ∧ t.launcher = none ∧ t.due[2] = true ∧ t.ring = [0, 1] ++ 2 :: [3, 4, 5, 6, 7, 8, 9, 10, 11, 12, 13, 14, 15]
      ∧ (∀ j : Fin 16, t.due[j] = true → t.isUrgent j = false) ∧ (∀ j ∈ ([0, 1] : List (Fin 16)), t.due[j] = false) := by
  decide +kernel

/-- DiscardExpiryDropsTheHead: a lone head, exactly at t + H; then the entries 0 and 1, exactly at the instant of 1: entry
2 behind them with its instant 1 ns ahead or more, entry 3 of the next frame, none, and none in DRAINING. -/
theorem witness_discard :
    let s : State := { runningAt 5020729888 with launcher := some busyLauncher }
    (s.power ≠ .off ∧ (s.slot 2).state = .running ∧ 0 < (s.slot 2).h
        ∧ (s.slot 2).head = some ⟨251, 0, 5020728888, 5020728888⟩
        ∧ 5020728888 + (s.slot 2).h < closeInstant (s.slot 2) (s.slot 2).fc ∧ 5020728888 + (s.slot 2).h = s.now
        ∧ s.launcher ≠ none ∧ (s.slot 2).queue = [0] ∧ s.entry? 0 = some (entry 0 .queued)
        ∧ (entry 0 .queued).queuedOnly)
      ∧ ∀ x ∈ [(SlotState.running, [2]), (.running, [3]), (.running, []), (.draining, [2]), (.draining, [])],
        let c := (queued x.1 ([0, 1] ++ x.2) 0).slot 2
        let due (e : Entry) : Nat := scheduledInstant c c.fc e.index + c.h
        let gone := [entry 0 .queued, entry 1 .queued]
        let s : State := { queued x.1 ([0, 1] ++ x.2) (due (entry 1 .queued)) with launcher := some busyLauncher }
        s.power ≠ .off ∧ s.slot 2 = c ∧ c.state = x.1 ∧ 0 < c.h ∧ s.launcher ≠ none ∧ 0 < c.dd ∧ c.q = c.nn / c.dd
          ∧ c.r = c.nn % c.dd ∧ c.stepOffset = c.stepIndex * c.nn / c.dd
          ∧ c.stepRemainder = c.stepIndex * c.nn % c.dd ∧ c.queue = (gone.map fun e => e.number) ++ x.2
          ∧ c.queue.Nodup ∧ (∀ e ∈ gone, s.entry? e.number = some e ∧ e.queuedOnly ∧ e.frame = c.fc)
          ∧ gone.Pairwise (fun a b => a.index < b.index)
          ∧ (∀ e ∈ gone, c.stepIndex ≤ e.index ∧ due e < closeInstant c c.fc ∧ due e ≤ s.now)
          ∧ (c.head.map fun hd => hd.scheduled) = some (scheduledInstant c c.fc 0)
          ∧ s.entry? 2 = some (entry 2 .queued) ∧ (entry 1 .queued).index < (entry 2 .queued).index
          ∧ s.now < due (entry 2 .queued) ∧ ((s.entry? 3).map fun e => e.frame) = some (c.fc + 1)
          ∧ s.closedFits 2 := by decide +kernel

/-- FrameCloseRecordsTheFrame: exactly at the close instant, one idle frame short of the limit, at it, and with the
limit 0; the same with the entries 0 and 1 of fc queued, before entry 3 of the next frame or before none, RUNNING or
DRAINING, with the discard instant of the head past the close, and the next head's ahead. -/
theorem witness_frame_close :
    let closing (idle limit : Nat) : State :=
      { at_ 5040728888 (slot2 { running with queue := [], head := none, idle := idle } part) with
        launcher := some busyLauncher
        params := { part.params with idleLimit := limit } }
    let s := closing 48 50
    (s.power ≠ .off ∧ (s.slot 2).state = .running ∧ (s.slot 2).queue = []
      ∧ closeInstant (s.slot 2) (s.slot 2).fc = s.now ∧ s.now < closeInstant (s.slot 2) ((s.slot 2).fc + 1)
      ∧ s.launcher ≠ none ∧ (∀ l : Fin 4, (s.slot 2).owner = .lane l → (s.lane l).queue.length < 32)
      ∧ min ((s.slot 2).idle + 1) 255 < s.params.idleLimit
      ∧ (closing 49 50).params.idleLimit ≠ 0
      ∧ (closing 49 50).params.idleLimit ≤ min (((closing 49 50).slot 2).idle + 1) 255
      ∧ (closing 255 0).params.idleLimit = 0)
      ∧ ∀ x ∈ [(SlotState.running, [3]), (.running, []), (.draining, [3]), (.draining, [])],
        let u := queued x.1 ([0, 1] ++ x.2) 5040728888
        let s (idle : Nat) : State :=
          { u with slots := u.slots.set 2 { u.slot 2 with idle := idle, h := 20000000 }, launcher := some busyLauncher }
        let c := (s 48).slot 2
        let gone := [entry 0 .queued, entry 1 .queued]
        (s 48).power ≠ .off ∧ c.state = x.1 ∧ c.queue = (gone.map fun e => e.number) ++ x.2 ∧ c.queue.Nodup
          ∧ (∀ e ∈ gone, (s 48).entry? e.number = some e ∧ e.queuedOnly ∧ e.frame = c.fc)
          ∧ (((s 48).entry? 3).map fun e => e.frame) = some (c.fc + 1) ∧ closeInstant c c.fc = (s 48).now
          ∧ (s 48).now < closeInstant c (c.fc + 1) ∧ (s 48).launcher ≠ none ∧ (s 48).closedFits 2
          ∧ (c.head.map fun hd => hd.scheduled) = some 5020728888 ∧ closeInstant c c.fc = 5020728888 + c.h
          ∧ (s 48).now < closeInstant c c.fc + c.h ∧ c.released = 0 ∧ min (c.idle + 1) 255 < (s 48).params.idleLimit
          ∧ (s 49).params.idleLimit ≠ 0 ∧ (s 49).params.idleLimit = min (((s 49).slot 2).idle + 1) 255 := by
  decide +kernel

/-- The end of the service of an entry of slot 2 with a fan-out set, exactly at the busy-until instant. -/
def serving (fan : PathSet) (e : Entry) (a b : Path) : State :=
  { runningAt 5020729285 with
    launcher := some ⟨2, 0, 251, 0, 1200, 5020728888, 5020729285, fan, 0x0B17⟩, entries := [e], pathA := a, pathB := b }

/-- A path SENDING with its window full and a number of places in its backlog. -/
def crowded (backlog : Nat) : Path :=
  { sender with window := List.replicate 1024 ⟨9, 5, 1, 0⟩, backlog := List.replicate backlog ⟨8, 1⟩ }

/-- EndOfServiceEntersTheWindow, one path: one place left in the window, the other path at FILL; FILL on the line with
nothing unsent; the last place of the backlog, and a place in REPLAYING; a full backlog, a DISABLED and a PROBING path,
for an entry that nothing else holds and for one that the other path holds. -/
theorem witness_end_of_service :
    let s (a b : Path) := serving ⟨true, false⟩ (entry 0 .service) a b
    let room : Path := { sender with window := List.replicate 1023 ⟨9, 5, 1, 0⟩ }
    let still : Path := { Path.blank with state := .sending, nextSeq := 7, sentThrough := 6 }
    let both : Entry := { entry 0 .service with holders := (entry 0 .service).holders.put (.window .b) true }
    (∀ a ∈ [room, still, crowded 255, crowded 256], (s a Path.blank).power ≠ .off
        ∧ (s a Path.blank).launcher.map (fun v => (v.fanOut, v.busyUntil)) = some (PathSet.only .a, (s a Path.blank).now)
        ∧ (∀ j : Fin 16, (s a Path.blank).due[j] = false) ∧ (s a Path.blank).entry? 0 = some (entry 0 .service))
      ∧ room.state = .sending ∧ room.backlog = [] ∧ room.window.length < 1024 ∧ room.line ≠ .fill
      ∧ still.state = .sending ∧ still.backlog = [] ∧ still.window.length < 1024 ∧ still.line = .fill
      ∧ still.nextSeq = still.sentThrough + 1 ∧ (∀ w ∈ still.window, w.seq ≠ still.nextSeq)
      ∧ (crowded 255).state = .sending ∧ 1024 ≤ (crowded 255).window.length ∧ (crowded 255).backlog.length < 256
      ∧ (crowded 255).line ≠ .fill ∧ PathState.replaying.isSending = true
      ∧ 256 ≤ (crowded 256).backlog.length ∧ PathState.disabled.isSending = false ∧ PathState.probing.isSending = false
      ∧ Path.blank.state = .disabled
      ∧ ((entry 0 .service).holders.put .service false).isEmpty = true
      ∧ (both.holders.put .service false).isEmpty = false := by decide +kernel

/-- EndOfServiceEntersTheWindow, both paths: B with room, with its window full, DISABLED. -/
theorem witness_end_of_service_both :
    let s (b : Path) := serving ⟨true, true⟩ (entry 0 .service) sender b
    (∀ b ∈ [sender, crowded 0, Path.blank], (s b).power ≠ .off
        ∧ (s b).launcher.map (fun v => (v.fanOut, v.busyUntil)) = some (⟨true, true⟩, (s b).now)
        ∧ (∀ j : Fin 16, (s b).due[j] = false) ∧ (s b).entry? 0 = some (entry 0 .service))
      ∧ sender.state = .sending ∧ sender.backlog = [] ∧ sender.window.length < 1024 ∧ sender.line ≠ .fill
      ∧ (crowded 0).state.isSending = true ∧ 1024 ≤ (crowded 0).window.length ∧ (crowded 0).backlog.length < 256
      ∧ (crowded 0).line ≠ .fill ∧ Path.blank.state = .disabled := by decide +kernel

/-! ## Witnesses: carriage paths -/

/-- The part with a path A at an elapsed time. -/
def withPath (x : Path) (elapsed : Nat) : State := { part with pathA := x, elapsed := elapsed }

/-- StatusIsDiscardedOrOnlyRecorded: a bad form; a sequence just after sent-through; a good STATUS in DISABLED and in
FAILED. -/
theorem witness_status_discarded :
    let probing := withPath { sender with state := .probing, goodRun := 3 } 0
    let beyond := statusBytes .a ⟨1, false, 7⟩
    let good := statusBytes .a ⟨0, false, 7⟩
    let failed := withPath { Path.blank with state := .failed, reportRef := some 9 } 0
    probing.power ≠ .off ∧ ([] : List Byte).length ≠ 32 ∧ statusForm .a beyond = true
      ∧ seqAfter (parseStatus beyond).ack (probing.path .a).sentThrough = true ∧ statusForm .a good = true
      ∧ seqAfter (parseStatus good).ack (part.path .a).sentThrough = false ∧ (part.path .a).state = .disabled
      ∧ seqAfter (parseStatus good).ack (failed.path .a).sentThrough = false ∧ (failed.path .a).state = .failed := by
  decide +kernel

/-- GoodRunTakesThePathToSending: the STATUS that completes the run, one with no reference that does not, one after a lost
report, one with REPEAT, and one after a lost report that completes a run of N_good 1. -/
theorem witness_good_run :
    let probing (run : Nat) (ref : Option Byte) : State :=
      withPath { sender with state := .probing, goodRun := run, reportRef := ref } 5
    let one : State :=
      { probing 14 (some 254) with params := { part.params with pathA := { part.params.pathA with nGood := 1 } } }
    (∀ s ∈ [probing 3 (some 255), probing 2 none, probing 14 (some 254), one], ∀ repeats : Bool,
      let bytes := statusBytes .a ⟨0, repeats, 0⟩
      s.power ≠ .off ∧ statusForm .a bytes = true ∧ (parseStatus bytes).repeats = repeats
        ∧ (parseStatus bytes).counter = 0 ∧ seqAfter (parseStatus bytes).ack (s.path .a).sentThrough = false
        ∧ (s.path .a).state = .probing ∧ (s.path .a).goodRun < 15 ∧ (s.path .a).line ≠ .fill)
      ∧ ((probing 3 (some 255)).params.path .a).nGood = 3 + 1 ∧ 2 + 1 < ((probing 2 none).params.path .a).nGood
      ∧ 1 < ((probing 14 (some 254)).params.path .a).nGood ∧ (one.params.path .a).nGood = 1 := by decide +kernel

/-- Path A SENDING with three window places, the last on the line, and one backlog place. -/
def threeSent (x : Path → Path) : State :=
  { withPath (x { sender with
      window := [⟨0, 1, 5, 0⟩, ⟨1, 2, 5, 0⟩, ⟨2, 3, 5, 0⟩], nextSeq := 4, sentThrough := 3,
      backlog := [⟨3, 5⟩], line := .data ⟨2, 3, 5, 0⟩ 900 }) 5 with
    entries := [entry 0 (.window .a), entry 1 (.window .a), entry 2 (.window .a), entry 3 (.backlog .a)] }

/-- ClearStatusRetiresTheWindow: two of three entries retired, one of them held by this path alone; none retired. -/
theorem witness_clear_status :
    let s := threeSent id
    let bytes (ack : PathSeq) := statusBytes .a ⟨ack, false, 0⟩
    let x := s.path .a
    s.power ≠ .off ∧ x.state = .sending ∧ x.line ≠ .fill ∧ s.entriesRising
      ∧ (∀ k ∈ [0, 2], statusForm .a (bytes (BitVec.ofNat 32 k)) = true
          ∧ seqAfter (parseStatus (bytes (BitVec.ofNat 32 k))).ack x.sentThrough = false
          ∧ (parseStatus (bytes (BitVec.ofNat 32 k))).repeats = false
          ∧ x.line.isOf ((x.window.take k).map fun w => w.seq) = false
          ∧ (parseStatus (bytes (BitVec.ofNat 32 k))).ack = x.ackThrough + BitVec.ofNat 32 k)
      ∧ (entry 0 (.window .a)).number ∈ (x.window.take 2).map (fun w => w.entry)
      ∧ (entry 2 (.window .a)).number ∉ (x.window.take 2).map (fun w => w.entry) := by decide +kernel

/-- RepeatStartsTheProcedure: with entries sent and unacknowledged, two of three retired with the frame running on and all
three with the frame cut off; FILL on the line; the repeat timer running; each state of the procedure, with REPEAT and
without. -/
theorem witness_repeat :
    let bytes (ack : PathSeq) (r : Bool) := statusBytes .a ⟨ack, r, 0⟩
    let good (s : State) (k : Nat) (r : Bool) : Prop :=
      s.power ≠ .off ∧ statusForm .a (bytes (BitVec.ofNat 32 k) r) = true
        ∧ seqAfter (parseStatus (bytes (BitVec.ofNat 32 k) r)).ack (s.path .a).sentThrough = false
        ∧ (parseStatus (bytes (BitVec.ofNat 32 k) r)).ack = (s.path .a).ackThrough + BitVec.ofNat 32 k
        ∧ (parseStatus (bytes (BitVec.ofNat 32 k) r)).repeats = r
    let runsOn (s : State) (k : Nat) : Prop :=
      (s.path .a).line ≠ .fill ∧ (s.path .a).line.isOf (((s.path .a).window.take k).map fun w => w.seq) = false
    let s := threeSent id
    let still := withPath { sender with line := .fill } 5
    let timed := threeSent fun x => { x with repeatTimer := some 9 }
    let inState (st : PathState) := threeSent fun x => { x with state := st }
    (s.path .a).state = .sending ∧ (s.path .a).repeatTimer = none ∧ good s 2 true ∧ runsOn s 2
      ∧ good s 3 true ∧ (s.path .a).line.isOf (((s.path .a).window.take 3).map fun w => w.seq) = true
      ∧ good still 0 true ∧ (still.path .a).state = .sending ∧ (still.path .a).repeatTimer = none
      ∧ (still.path .a).line = .fill ∧ 0 < still.params.nMark
      ∧ good timed 2 true ∧ runsOn timed 2 ∧ (timed.path .a).repeatTimer = some 9
      ∧ (∀ st ∈ [PathState.finishing, .marking, .replaying], ∀ r, good (inState st) 2 r ∧ runsOn (inState st) 2) := by
  decide +kernel

/-- PathFailureReleasesThePath: each expiry exactly at its time; the attempt count at its limit; a read waiting; the
third unanswered poll. -/
theorem witness_path_failure :
    let status : StatusRecord := ⟨0, true, 0⟩
    let s : State := { withPath { sender with
        window := [⟨0, 1, 5, 0⟩], silence := some 1000000, repeatTimer := some 1000000, latest := some status,
        attempts := 8 } 1000000 with entries := [entry 0 (.window .a), entry 1 .queued] }
    let reading := withPath { sender with poll := .reading 7 } 5
    let silentModule := withPath { sender with poll := .clearing 5, unanswered := 2 } 5
    s.power ≠ .off ∧ (s.path .a).silence = some 1000000 ∧ 1000000 ≤ s.elapsed
      ∧ (s.path .a).repeatTimer = some 1000000 ∧ (s.path .a).latest = some status ∧ status.repeats = true
      ∧ s.params.attemptLimit = (s.path .a).attempts ∧ s.entriesRising
      ∧ (entry 0 (.window .a)).number ∈ (s.path .a).window.map (fun w => w.entry)
      ∧ (entry 1 .queued).number ∉ (s.path .a).window.map (fun w => w.entry)
      ∧ (reading.path .a).poll = .reading 7 ∧ (reading.path .a).state.isSending = true
      ∧ (reading.path .a).moduleAbsent = false
      ∧ (silentModule.path .a).poll.waitsUntil = some 5 ∧ 5 ≤ silentModule.elapsed
      ∧ (silentModule.path .a).unanswered = 2 ∧ (silentModule.path .a).state ≠ .disabled
      ∧ (silentModule.path .a).state ≠ .failed := by decide +kernel

/-- HoldoffAndRepeatTimersExpire: FAILED at the end of its holdoff; no latest status; one without REPEAT; one with
REPEAT one attempt below the limit. -/
theorem witness_timers :
    let failed := withPath { Path.blank with state := .failed, holdoff := some 9 } 9
    let t (latest : Option StatusRecord) :=
      withPath { sender with repeatTimer := some 9, latest := latest, attempts := 7 } 9
    failed.power ≠ .off ∧ (failed.path .a).holdoff = some 9 ∧ 9 ≤ failed.elapsed ∧ (failed.path .a).state = .failed
      ∧ ((t none).path .a).repeatTimer = some 9 ∧ 9 ≤ (t none).elapsed ∧ ((t none).path .a).latest = none
      ∧ ((t (some ⟨0, false, 1⟩)).path .a).latest = some ⟨0, false, 1⟩
      ∧ ((t (some ⟨0, true, 1⟩)).path .a).latest = some ⟨0, true, 1⟩
      ∧ ((t (some ⟨0, true, 1⟩)).path .a).attempts < (t none).params.attemptLimit
      ∧ ((t none).path .a).line ≠ .fill := by decide +kernel

/-- LineFrameEndTakesWhatTheStateCallsFor: exactly at the end of the frame, in each state named. -/
theorem witness_line :
    let s (st : PathState) (w : List WindowPlace) : State :=
      { withPath { sender with state := st, window := w } 900 with entries := [entry 0 (.window .a)] }
    let w : WindowPlace := ⟨0, 1, 5, 0⟩
    (s .sending [w]).power ≠ .off ∧ ((s .sending [w]).path .a).line.endsAt = some 900
      ∧ ((s .sending [w]).path .a).window.find? (fun y => decide (y.seq = ((s .sending [w]).path .a).sentThrough + 1))
        = some w
      ∧ (s .sending [w]).entry? w.entry = some (entry 0 (.window .a)) ∧ 900 ≤ (s .sending [w]).elapsed
      ∧ (∀ y ∈ ((s .sending []).path .a).window, y.seq ≠ ((s .sending []).path .a).sentThrough + 1)
      ∧ ((s .failed []).path .a).state = .failed ∧ ((s .probing []).path .a).state = .probing
      ∧ ((s .finishing []).path .a).state = .finishing ∧ 0 < (s .finishing []).params.nMark := by decide +kernel

/-- LineFrameEndTakesWhatTheStateCallsFor in MARKING and REPLAYING: a MARK left; the burst over with an entry to resend and
with none; the replay end just reached and passed; on the return an unsent entry from the window, from the backlog, and
none. -/
theorem witness_line_replay :
    let s (st : PathState) (x : Path → Path) : State :=
      { withPath (x { sender with
          state := st, window := [⟨0, 1, 5, 14⟩, ⟨1, 2, 5, 15⟩], nextSeq := 3, sentThrough := 2, burstLength := 8,
          burstOrdinal := 8, replayEnd := 2 }) 900 with
        entries := [entry 0 (.window .a), entry 1 (.window .a), entry 2 (.backlog .a)] }
    let found (s : State) (seq : PathSeq) : Option Entry :=
      ((s.path .a).window.find? fun y => decide (y.seq = seq)).bind fun w => s.entry? w.entry
    let seek (s : State) := seqLater (s.path .a).replayCursor ((s.path .a).ackThrough + 1)
    let unsent (s : State) : Option Nat :=
      ((s.path .a).drained.window.find? fun y => decide (y.seq = (s.path .a).drained.sentThrough + 1)).map (·.entry)
    let mark := s .marking fun x => { x with burstOrdinal := 7 }
    let acked := s .marking fun x => { x with ackThrough := 2, window := [] }
    let last := s .replaying fun x => { x with replayCursor := 2 }
    let past := s .replaying fun x => { x with replayCursor := 3, backlog := [⟨2, 5⟩] }
    let ahead := s .replaying fun x => { x with replayCursor := 2, sentThrough := 1, replayEnd := 1 }
    mark.power ≠ .off ∧ (mark.path .a).line.endsAt = some 900 ∧ 900 ≤ mark.elapsed
      ∧ (mark.path .a).burstOrdinal < (mark.path .a).burstLength
      ∧ ((s .marking id).path .a).burstLength ≤ ((s .marking id).path .a).burstOrdinal
      ∧ seqAfter ((s .marking id).path .a).sentThrough ((s .marking id).path .a).ackThrough = true
      ∧ found (s .marking id) 1 = some (entry 0 (.window .a))
      ∧ seqAfter (acked.path .a).sentThrough (acked.path .a).ackThrough = false ∧ unsent acked = none
      ∧ seek last = 2 ∧ seqAfter (seek last) (last.path .a).replayEnd = false ∧ found last 2 = some (entry 1 (.window .a))
      ∧ seqAfter (seek past) (past.path .a).replayEnd = true ∧ unsent past = some 2
      ∧ past.entry? 2 = some (entry 2 (.backlog .a))
      ∧ seqAfter (seek ahead) (ahead.path .a).replayEnd = true ∧ unsent ahead = some 1
      ∧ ahead.entry? 1 = some (entry 1 (.window .a)) := by decide +kernel

/-- ModulePollGoesStepByStep: a poll exactly at its instant; each waiting step; the second unanswered poll; the answers of
a FAILED path whose module was absent, and of one whose holdoff waits for the settings; a third unanswered poll in FAILED,
for another reason and for MODULE_ABSENT. -/
theorem witness_poll :
    let s (q : Poll) := withPath { sender with poll := q, unanswered := 1 } 100000000
    let block : Vector Byte 16 := Vector.replicate 16 0
    let failed (q : Poll) (absent owed : Bool) (r : FailReason) :=
      withPath
        { Path.blank with
          state := .failed, failure := some r, poll := q, unanswered := 2, moduleAbsent := absent, holdoffOwed := owed } 5
    (s .idle).power ≠ .off ∧ ((s .idle).path .a).nextPoll ≤ (s .idle).elapsed ∧ ((s .idle).path .a).poll = .idle
      ∧ ((s (.reading 5)).path .a).poll = .reading 5 ∧ ((s (.writing block 5)).path .a).poll = .writing block 5
      ∧ ((s (.clearing 5)).path .a).poll = .clearing 5 ∧ ((s (.clearing 5)).path .a).poll.waitsUntil = some 5
      ∧ 5 ≤ (s (.clearing 5)).elapsed ∧ ((s (.clearing 5)).path .a).unanswered < 2
      ∧ ((s (.clearing 5)).path .a).moduleAbsent = false
      ∧ ((failed (.reading 5) true false .moduleAbsent).path .a).state = .failed
      ∧ ((failed (.reading 5) true false .moduleAbsent).path .a).moduleAbsent = true
      ∧ ((failed (.writing block 5) false true .moduleAbsent).path .a).holdoffOwed = true
      ∧ 0 < (part.params.path .a).holdoff
      ∧ ((failed (.reading 5) false false .silent).path .a).poll.waitsUntil = some 5
      ∧ 2 ≤ ((failed (.reading 5) false false .silent).path .a).unanswered
      ∧ ((failed (.reading 5) false false .silent).path .a).failure ≠ some .moduleAbsent
      ∧ ((failed (.reading 5) true false .moduleAbsent).path .a).failure = some .moduleAbsent := by decide +kernel

/-! ## Witnesses: House Time -/

/-- House Time LOCKED, labelled, at second 1,002 with an error. -/
def lockedHouse (e : Int) : House :=
  { House.blank with
    time := ((1002000000000 : Int) - e).toNat, lock := .locked, labelWritten := true, pulseSecond := 1002,
    lastPulse := some ⟨1001000000000, 5, 0⟩ }

/-- SmallErrorsAreSlewedOut: no label; a pulse one nanosecond too early; LOCKED with the errors +10,000, −10,000 and 0
exactly at the early guard; HOLDOVER. -/
theorem witness_small_pulse :
    let s (e : Int) : State := { part with house := lockedHouse e, elapsed := 500000005 }
    let early : State := { s 0 with elapsed := 500000004 }
    let hold : State := { s (-10000) with house := { lockedHouse (-10000) with lock := .holdover } }
    part.house.labelWritten = false ∧ early.house.labelWritten = true
      ∧ early.house.lastPulse = some ⟨1001000000000, 5, 0⟩ ∧ early.elapsed - 5 < 500000000
      ∧ (s 0).power ≠ .off ∧ (s 0).house.lock = .locked ∧ 500000000 ≤ (s 0).elapsed - 5
      ∧ (s 10000).pulseError = 10000 ∧ (s (-10000)).pulseError = -10000 ∧ (s 0).pulseError = 0
      ∧ hold.house.lock ≠ .locked ∧ hold.pulseError.natAbs ≤ 10000 ∧ hold.house.pulseSecond < 18446744072 := by
  decide +kernel

/-- ThirdBigErrorIsBelieved: the least big errors, forward and backward, at counts 1 and 2, with step enabled and not; in
FREE_RUN and in HOLDOVER; during a long slew. -/
theorem witness_big_error :
    let s (e : Int) (n : Nat) (step : Bool) : State :=
      { part with
        house := { lockedHouse e with bigErrors := n }, elapsed := 500000005
        params := { part.params with stepEnable := step } }
    let in_ (e : Int) (lock : LockState) (w : Slew) : State :=
      { s e 0 true with house := { lockedHouse e with lock := lock, slew := w } }
    (s 10001 1 true).power ≠ .off ∧ (s 10001 1 true).house.slew.isLong = false ∧ 10000 < (s 10001 1 true).pulseError.natAbs
      ∧ (∀ i : Fin 16, ((s 10001 1 true).slot i).state = .free) ∧ (∀ i : Fin 16, (s 10001 1 true).due[i] = false)
      ∧ (s 10001 1 true).launcher = none ∧ (s 10001 1 true).house.bigErrors < 2
      ∧ (s 10001 2 true).house.bigErrors = 2 ∧ (s (-10001) 2 true).pulseError = -10001
      ∧ (s (-10001) 2 false).params.stepEnable = false
      ∧ (in_ 10001 .freeRun .none).house.lock ≠ .locked ∧ (in_ 10001 .freeRun .none).house.labelWritten = true
      ∧ (in_ (-10001) .holdover .none).house.lock ≠ .locked ∧ (in_ (-10001) .holdover .none).pulseError = -10001
      ∧ (in_ 10001 .locked (.long false 600000000 3)).house.slew.isLong = true
      ∧ (in_ 10001 .locked (.long false 600000000 3)).house.lock = .locked := by decide +kernel

/-- ThirdBigErrorIsBelieved, the step over closes of a stream: the stream of the Example in 1.3 with two closes at or before
the pulse second, the second of them exactly there. -/
theorem witness_step_over_closes :
    let c : Slot := { running with queue := [], head := none, fc := 50098, idle := 7 }
    let s : State :=
      { slot2 { c with o := 0 } part with
        house := { lockedHouse 20000000 with bigErrors := 2 }, elapsed := 500000005
        params := { part.params with stepEnable := true } }
    let target := s.house.pulseSecond * 1000000000
    s.power ≠ .off ∧ s.house.labelWritten = true ∧ s.house.lock = .locked ∧ s.house.slew.isLong = false
      ∧ s.house.bigErrors = 2 ∧ s.params.stepEnable = true ∧ s.house.lastPulse = some ⟨1001000000000, 5, 0⟩
      ∧ 500000000 ≤ s.elapsed - 5
      ∧ (∀ j : Fin 16, j ≠ 2 → (s.slot j).state = .free) ∧ (∀ j : Fin 16, s.due[j] = false) ∧ s.launcher = none
      ∧ (s.slot 2).state = .running ∧ (s.slot 2).queue = [] ∧ 0 < (s.slot 2).n ∧ (s.slot 2).n ≤ (s.slot 2).d * 1000000000
      ∧ s.house.time + 10000 < target
      ∧ (∀ j < 2, closeInstant (s.slot 2) ((s.slot 2).fc + j) ≤ target)
      ∧ closeInstant (s.slot 2) ((s.slot 2).fc + 1) = target
      ∧ target < closeInstant (s.slot 2) ((s.slot 2).fc + 2) := by decide +kernel

/-- MissedPulsesLeadToHoldover: the expiry exactly now, at one and at two misses. -/
theorem witness_miss :
    let s (n : Nat) : State :=
      { part with house := { lockedHouse 0 with misses := n, missExpiry := some 1500000005 }, elapsed := 1500000005 }
    (s 1).power ≠ .off ∧ (s 1).house.missExpiry = some 1500000005 ∧ 1500000005 ≤ (s 1).elapsed
      ∧ (s 1).house.misses < 2 ∧ (s 2).house.misses < 255 ∧ (s 2).house.lock = .locked ∧ 2 ≤ (s 2).house.misses
      ∧ (s 1).house.pulseSecond < 18446744072 := by decide +kernel

/-- AdjustmentsMoveHouseTimeByOne: a trim of either sign and a slew of either sign exactly at their instants; an
ordinary slew in the middle and at its end. -/
theorem witness_adjustments :
    let s (trim e : Int) : State :=
      { part with
        house := { House.blank with trim := trim, trimNext := some 333333333, slew := ordinarySlew 0 e }
        elapsed := 333333333 }
    (s 3 3).power ≠ .off ∧ (s 3 3).house.time + 1 < 2 ^ 64 ∧ (s 3 3).house.trimNext = some 333333333
      ∧ 333333333 ≤ (s 3 3).elapsed ∧ 0 < (s 3 3).house.trim ∧ (s (-3) 3).house.trim < 0
      ∧ (s 3 3).house.slew.nextAt = some 333333333 ∧ (s 3 3).house.slew.isBack = false
      ∧ (s 3 (-3)).house.slew.nextAt = some 333333333 ∧ (s 3 (-3)).house.slew.isBack = true
      ∧ (-3 : Int) ≠ 0 ∧ 2 < (-3 : Int).natAbs ∧ 3 = (-3 : Int).natAbs := by decide +kernel

/-- SecondMarkerSwapsTheBanks. -/
theorem witness_marker :
    let s : State := { part with house := { House.blank with markers := [7, 8] } }
    s.power ≠ .off ∧ s.house.markers = 7 :: [8] := by decide +kernel

/-! ## Witnesses: Pattern Source -/

/-- Slot 2 holds a pattern stream with a region of 3,000 bytes at 65,000. -/
def patternSlotContext : Slot :=
  { running with owner := .pattern, patternRegion := some (65000, 3000) }

/-- A pattern stream open in slot 2, its next packet (f, index). -/
def generating (f index outstanding : Nat) : State :=
  { slot2 patternSlotContext part with
    entries := [{ entry 0 .queued with owner := .pattern }]
    pattern := ⟨some 2, f, index, false, false, outstanding⟩ }

/-- PatternMemoryGivesTheStampedPayload: the first page of the pattern memory and the last, at their last offset. -/
theorem witness_pattern_memory :
    let s (page : Nat) : State := { part with port := { part.port with page := page, offset := 255 } }
    (s 32).power = .on ∧ (s 32).port.busy = none ∧ 32 ≤ (s 32).port.page ∧ (s 32).port.page ≤ 287
      ∧ (s 287).port.page ≤ 287 ∧ (s 287).memoriesCanonical ∧ 6 ≤ 1200 ∧ 1199 < 1200 := by decide +kernel

/-- PatternGenerationAcceptsTheNextPacket: the last packet of the next frame, with exactly the credit it needs; a stream
paused for want of one cell's credit, and the same stream with it. -/
theorem witness_generation :
    let s := generating 252 4319 5
    let c := s.slot 2
    let t := generating 251 0 5
    let paused := generating 251 0 4
    s.power ≠ .off ∧ s.pattern.slot = some 2 ∧ c.state.takesPackets = true ∧ c.patternRegion = some (65000, 3000)
      ∧ 6 ≤ c.s ∧ s.pattern.nextIndex < c.k ∧ c.fc ≤ s.pattern.nextFrame ∧ s.pattern.nextFrame ≤ c.fc + 1
      ∧ cellsFor c.s ≤ s.pattern.outstanding ∧ c.queue ≠ [] ∧ c.queue.length < 512 ∧ s.pattern.waitEntry = false
      ∧ s.freeEntry = some 1 ∧ cellsFor c.s ≤ s.freeCells
      ∧ afterLast c.intake.lastAccepted s.pattern.nextFrame s.pattern.nextIndex = true ∧ s.memoriesCanonical
      ∧ s.canGenerate = true ∧ s.generationStuck 2 = false ∧ paused.isPaused 2 = true ∧ t.pattern.slot = some 2
      ∧ t.canGenerate = true ∧ (∀ i : Fin 16, t.isPaused i = false) ∧ paused.canGenerate = false := by decide +kernel

/-- A full list of entries leaves no number free, from any number on. -/
theorem freeNumber_range (k n : Nat) (h : k + n = Config.entryCount) :
    freeNumber ((List.range' k n).map fun j => entry j .queued) k = none := by
  induction n generalizing k with
  | zero => simp only [List.range'_zero, List.map_nil, freeNumber]; rw [if_neg]; omega
  | succ n ih =>
    simp only [List.range'_succ, List.map_cons, freeNumber]
    rw [if_pos (by simp [entry])]
    exact ih (k + 1) (by omega)

/-- PacketRecordDropsAreChargedAndRefunded, the entry pool full. -/
theorem witness_packet_no_entry :
    let s : State := { runningAt 5 with entries := (List.range' 0 8192).map fun j => entry j .queued }
    s.power = .on ∧ s.inOrder 2 (recordSeq (packet 251 1)) ∧ (s.slot 2).state.takesPackets = true
      ∧ cellsFor (parsePacket (packet 251 1)).payload.length ≤ (s.lane 2).account.outstanding ∧ s.freeEntry = none :=
  ⟨by decide, .inl rfl, by decide, by decide +kernel, freeNumber_range 0 8192 rfl⟩

/-- PatternGenerationAcceptsTheNextPacket, the entry pool full. -/
theorem witness_pattern_waits :
    let s : State := { generating 251 0 2048 with
      entries := (List.range' 0 8192).map fun j => entry j .queued }
    s.power ≠ .off ∧ s.pattern.slot = some 2 ∧ s.canGenerate = true ∧ (s.slot 2).fc ≤ s.pattern.nextFrame
      ∧ s.freeEntry = none :=
  ⟨by decide, rfl, by decide +kernel, by decide +kernel, freeNumber_range 0 8192 rfl⟩

/-- ExecLeavesTheQueueAndStopsOnlyWithoutCells, the stops: every cell held by one entry, a state no run reaches. -/
theorem witness_exec_fault :
    let hog : Entry := { entry 0 .queued with cells := List.replicate 16384 0 }
    let s : State := { runningAt 5 with entries := [hog] }
    let t : State := { generating 251 0 5 with entries := [hog] }
    faults (.packetRecord 2 (packet 251 1)) s = true ∧ faults .patternGeneration t = true := by decide +kernel

/-- The argument rows of PATTERN OPEN. -/
def patternRows (o : OpenParams) (offset length : Nat) : Vector Byte 39 :=
  Vector.ofFn fun i => (openBody o ++ leBytes 2 offset ++ leBytes 3 length).getD i 0

/-- PatternOpenIsJudgedInOrder: a pattern stream open; no FREE slot; a length one byte short of S; a path over its
budget; an OPEN that passes with the greatest length. -/
theorem witness_pattern_open :
    let rows (length : Nat) (s : State) : State :=
      { s with port := { s.port with args := patternRows stream 65000 length } }
    let s := rows 65536 (at_ 5000000123 part)
    let o := parseOpen s.port.args.toList
    let short := rows 1199 part
    let tight := rows 65536 { part with sumA := 811 }
    s.hostReady ∧ (generating 251 0 5).patternSlot ≠ none ∧ (generating 251 0 5).hostReady
      ∧ (rows 5 { part with slots := Vector.replicate 16 armed }).lowestFree = none
      ∧ (rows 5 { part with slots := Vector.replicate 16 armed }).patternSlot = none
      ∧ short.patternSlot = none ∧ short.lowestFree ≠ none
      ∧ field short.port.args.toList 36 3 < (parseOpen short.port.args.toList).s
      ∧ badOpen o = false ∧ field s.port.args.toList 36 3 = 65536 ∧ o.s ≤ 65536
      ∧ tight.admits (parseOpen tight.port.args.toList).pathSet (openLoad 25 (parseOpen tight.port.args.toList)) = false
      ∧ s.patternSlot = none ∧ s.lowestFree = some 0 ∧ s.admits o.pathSet (openLoad s.params.rate o) = true := by
  decide +kernel

/-! ## Witnesses: the host -/

/-- HostClosesStreams: an open slot of a lane with room and with 32 notices; a pattern stream; a FREE slot; slot 16; no
pattern stream. -/
theorem witness_host_close :
    let s := arg 2 (slot2 running part)
    let full : State := { s with lanes := part.lanes.set 2 { Lane.blank with queue := List.replicate 32 (.laneReady 1) } }
    let p := arg 2 (generating 251 0 5)
    s.hostReady ∧ s.argIs (2 : Fin 16).val ∧ (s.slot 2).state ≠ .free ∧ (s.slot 2).owner = .lane 2
      ∧ (s.lane 2).queue.length < 32 ∧ full.hostReady ∧ (full.lane 2).queue.length = 32
      ∧ p.hostReady ∧ (p.slot 2).state ≠ .free ∧ (p.slot 2).owner = .pattern ∧ p.patternSlot = some 2
      ∧ (part.slot 2).state = .free ∧ (arg 2 part).argIs (2 : Fin 16).val ∧ 15 < (arg 16 part).argByte
      ∧ part.hostReady ∧ part.patternSlot = none := by decide +kernel

/-- HostHoldsAndReleasesStreams: an open slot; a FREE one; a held slot with an eligible head and without a head; a slot
not held; slot 16. -/
theorem witness_hold :
    let busy (c : Slot) (held : Bool) : State :=
      { at_ 5020728888 (arg 2 (slot2 c part)) with
        launcher := some busyLauncher, held := part.held.set 2 held }
    let s := busy running true
    s.hostReady ∧ s.launcher ≠ none ∧ s.argIs (2 : Fin 16).val ∧ (s.slot 2).state ≠ .free ∧ s.held[2] = true
      ∧ (s.slot 2).state = .running ∧ (s.slot 2).head = some ⟨251, 0, 5020728888, 5020728888⟩ ∧ (s.slot 2).fc = 251
      ∧ 5020728888 ≤ s.now ∧ ((busy armed true).slot 2).head = none ∧ (busy running false).held[2] = false
      ∧ ((busy Slot.blank false).slot 2).state = .free ∧ 15 < (arg 16 s).argByte := by decide +kernel

/-- RingCommandsSetTheRing: the last slot and the first number that is none; both ring modes and neither. -/
theorem witness_ring :
    (arg 15 part).hostReady ∧ (arg 15 part).argIs (15 : Fin 16).val ∧ 15 < (arg 16 part).argByte
      ∧ (arg 0 part).argByte = 0 ∧ (arg 1 part).argByte = 1 ∧ 1 < (arg 2 part).argByte := by decide +kernel

/-- PathEnableAndRestartStartProbing, PathDisableReleasesThePath: path A DISABLED, SENDING and PROBING. -/
theorem witness_path_commands :
    let sending := arg 0 (withPath sender 5)
    let probing := arg 0 (withPath { sender with state := .probing } 5)
    let down := arg 0 part
    sending.hostReady ∧ sending.argIs (pathCode .a) ∧ (sending.path .a).state ≠ .disabled
      ∧ (sending.path .a).state ≠ .probing ∧ probing.hostReady ∧ (probing.path .a).state = .probing
      ∧ (probing.path .a).line ≠ .fill ∧ down.hostReady ∧ down.argIs (pathCode .a) ∧ (down.path .a).state = .disabled
      ∧ (arg 1 part).argIs (pathCode .b) ∧ 1 < (arg 2 part).argByte := by decide +kernel

/-- ClearEmptiesThePart: a stream open, an entry live, a path SENDING and one DISABLED. -/
theorem witness_clear :
    let s : State := { runningAt 5 with pathA := sender }
    s.hostReady ∧ (s.slot 2).state ≠ .free ∧ (s.slot 3).state = .free ∧ (s.path .b).state = .disabled := by decide +kernel

/-- StoreAndRecallMoveTheParameters: both commands begun, both ends, with a valid image and an invalid one, with an entry
live and without. -/
theorem witness_store_recall :
    let storing : State := { part with port := { part.port with busy := some (.store part.params 5) } }
    let recalling (valid : Bool) : State :=
      { part with store := .holding part.params valid, port := { part.port with busy := some (.recall 5) } }
    part.hostReady ∧ storing.power = .on ∧ storing.port.busy = some (.store part.params 5)
      ∧ (recalling false).power = .on ∧ (recalling false).port.busy = some (.recall 5)
      ∧ (recalling false).store.valid = false ∧ (recalling true).store.valid = true ∧ (recalling true).allFree = true
      ∧ (recalling true).entries = [] ∧ (∀ l : Fin 4, ((recalling true).lane l).queue.length < 32)
      ∧ ({ recalling true with entries := [entry 0 .queued] } : State).entries ≠ [] := by decide +kernel

/-- StoreAndRecallMoveTheParameters: the default parameters lie in their ranges. -/
theorem witness_params_in_range : part.params.inRange := by
  unfold Params.inRange PathParams.inRange
  decide +kernel

/-- ParameterWritesAreClampedOrRefused: every slot FREE; one open. -/
theorem witness_parameter_write :
    part.hostReady ∧ part.allFree = true ∧ (slot2 running part).hostReady ∧ (slot2 running part).allFree = false
      ∧ (100 : Byte) = 100 ∧ (11 : Byte) ≠ 10 ∧ (11 : Byte) ≠ 25 ∧ (11 : Byte) ≠ 100 := by decide +kernel

/-- PathParameterAndQuotaWritesAreTaken: an entry live; a sum of 16,385; a lane with 32 notices and no CREDIT; one with
32 and a CREDIT; the greatest sum. -/
theorem witness_quota :
    let lane (q : List Notice) : State := { part with lanes := part.lanes.set 1 { Lane.blank with queue := q } }
    let full := lane (List.replicate 32 (.laneReady 1))
    let credit := lane (List.replicate 31 (.laneReady 1) ++ [.credit 1])
    (runningAt 5).hostReady ∧ (runningAt 5).entries ≠ [] ∧ part.hostReady ∧ part.entries = []
      ∧ 16384 < (part.params.setQuota (.lane 1) 3585).quotaTotal
      ∧ (part.params.setQuota (.lane 1) 3584).quotaTotal ≤ 16384 ∧ full.hostReady ∧ full.entries = []
      ∧ 32 ≤ (full.lane 1).queue.length ∧ (full.lane 1).queue.any Notice.isCredit = false
      ∧ credit.hostReady ∧ (credit.lane 1).queue.any Notice.isCredit = true
      ∧ (part.params.setQuota .pattern 2048).quotaTotal ≤ 16384 := by decide +kernel

/-- PortItemsFollowTheirWrites: a cause latched and unmasked; the selectors at their edges; an unknown code; the port's
address and another; the extension flag set; the port silent. -/
theorem witness_port :
    let s : State := { part with port := { part.port with causes := 0x80, mask := 0x7F } }
    let ext : State := { part with port := { part.port with extension := true } }
    let silent : State := { part with port := { part.port with busy := some (.recall 5) } }
    s.interruptLine = true ∧ s.hostReady ∧ (15 : Byte).toNat ≤ 15 ∧ 15 < (16 : Byte).toNat ∧ (6 : Byte).toNat ≤ 6
      ∧ 6 < (7 : Byte).toNat ∧ unknownCode 0x13 = true ∧ part.isTarget 0x5C = true ∧ part.isTarget 0x5D = false
      ∧ part.silent = false ∧ ext.silent = false ∧ ext.isTarget 0x5C = true ∧ silent.silent = true
      ∧ part.port.extension = false ∧ (slot2 running part).allFree = false ∧ part.allFree = true := by decide +kernel

/-- A read in progress at an offset of a page. -/
def readingAt (page offset : Nat) (r : Option ReadProgress) : State :=
  { part with port := { part.port with page := page, offset := offset, reading := r } }

/-- ReadsChangeOnlyThePortPointer: reads that begin with and without a capture, at the last offset and at the first; one
that goes on from a capture; one that goes on in its row, and one past its row; another address, and the
port silent. Named bytes: the launcher free and in service, the first and the last ring place, a latest status, a
sequence expectation, the selectors of slot 3 and of the part group, the first and the last pattern page. -/
theorem witness_read :
    let whole : ReadProgress := ⟨some (List.replicate 256 9), none⟩
    let row : ReadProgress := ⟨none, some (2, List.replicate 16 9)⟩
    let silent : State := { part with port := { part.port with busy := some (.recall 5) } }
    let named : State :=
      { part with
        launcher := some busyLauncher
        pathA := { sender with latest := some ⟨7, true, 9⟩ }
        lanes := part.lanes.set 3 { Lane.blank with expectation := some 0xABCD }
        port := { part.port with slotSelector := 3, groupSelector := 6 } }
    (∀ s ∈ [readingAt 14 255 none, readingAt 5 0 none, readingAt 5 1 none, readingAt 4 0 (some whole),
          readingAt 9 37 (some row), readingAt 9 48 (some row)],
        s.silent = false ∧ s.isTarget 0x5C = true ∧ s.isTarget 0x5D = false ∧ s.port.offset < 256)
      ∧ (readingAt 4 0 (some whole)).port.reading = some whole ∧ whole.capture = some (List.replicate 256 9)
      ∧ (readingAt 9 37 (some row)).port.reading = some row ∧ row.capture = none
      ∧ row.row = some (2, List.replicate 16 9) ∧ 37 / 16 = 2 ∧ 48 / 16 ≠ 2 ∧ silent.silent = true
      ∧ part.launcher = none ∧ named.launcher = some busyLauncher ∧ named.ring[0]? = some 0 ∧ named.ring[15]? = some 15
      ∧ (named.path .a).latest = some ⟨7, true, 9⟩ ∧ (named.lane 3).expectation = some 0xABCD
      ∧ named.port.slotSelector = (3 : Fin 16).val ∧ named.port.groupSelector = 6 := by decide +kernel

/-! ## Worked results of the port -/

/-- R172 and R186: page 0 reads the identity from its first offset on. -/
theorem test_identity :
    (after (.snapshotRead 0x5C true 4 true) part).port.readOut = [0x4E, 0x60, 0x41, 1] := by decide +kernel

/-- R172: the offset wraps within its row in a write. -/
theorem test_row_wrap :
    let t := after (.registerWrite 0x5C [33, 15, 0xAA, 0xBB]) part
    (t.patternMem, t.port.offset) = ([(256, 0xBB), (271, 0xAA)], 1) := by decide +kernel

end Sys2Proof.Tests
end

/-!
PROOF. The schedule of the Pacer and its lateness grades (chapter 2): O26, O27.
-/

namespace Sys2Proof.Machine

open Sys2Proof

/-! ## The stepped schedule (R22, R23) -/

/-- The exact step state of packet `k`: its index, floor(k × Nn / Dd) and (k × Nn) mod Dd (R22). -/
def exactStep (nn dd k : Nat) : Nat × Nat × Nat := (k, k * nn / dd, k * nn % dd)

/-- One step of the Pacer goes from the exact state of a packet to that of the next: the remainder carries where it
reaches Dd (R23). -/
theorem stepOnce_exactStep {nn dd : Nat} (hd : 0 < dd) (k : Nat) :
    stepOnce (nn / dd) (nn % dd) dd (exactStep nn dd k) = exactStep nn dd (k + 1) := by
  have hdiv : (k + 1) * nn / dd = k * nn / dd + nn / dd + if dd ≤ k * nn % dd + nn % dd then 1 else 0 := by
    rw [Nat.add_mul, Nat.one_mul, Nat.add_div hd]
  have hmod : ((k + 1) * nn % dd) + (if dd ≤ k * nn % dd + nn % dd then dd else 0) = k * nn % dd + nn % dd := by
    rw [Nat.add_mul, Nat.one_mul, Nat.add_mod_add_ite]
  unfold stepOnce exactStep
  by_cases hc : dd ≤ k * nn % dd + nn % dd
  · simp only [hc, if_true] at hdiv hmod ⊢
    rw [hdiv, ← hmod, Nat.add_sub_cancel]
  · simp only [hc, if_false, Nat.add_zero] at hdiv hmod ⊢
    rw [hdiv, hmod]

/-- `n` steps from the exact state of packet `k` reach the exact state of packet `k + n`. -/
theorem stepTimes_exactStep {nn dd : Nat} (hd : 0 < dd) (n k : Nat) :
    stepTimes (nn / dd) (nn % dd) dd n (exactStep nn dd k) = exactStep nn dd (k + n) := by
  induction n generalizing k with
  | zero => rfl
  | succ n ih => rw [stepTimes, stepOnce_exactStep hd, ih, Nat.add_right_comm, Nat.add_assoc]

/-- A head is never eligible before its scheduled instant (R26). -/
theorem le_eligibility (t : Slot) (x : Nat) : x ≤ eligibility t x := by
  unfold eligibility
  split
  · exact Nat.le_max_left _ _
  · exact Nat.le_refl _

/-- A context whose step state is exact, with its derived terms (R5, R22). -/
structure Slot.StepExact (t : Slot) : Prop where
  dd_pos : 0 < t.dd
  q_eq : t.q = t.nn / t.dd
  r_eq : t.r = t.nn % t.dd
  step_eq : (t.stepIndex, t.stepOffset, t.stepRemainder) = exactStep t.nn t.dd t.stepIndex

/-- The steps the Pacer takes from an exact step state to a packet at or after it end in that packet's exact state. -/
theorem Slot.StepExact.stepTimes_eq {t : Slot} (h : t.StepExact) {index : Nat} (hi : t.stepIndex ≤ index) :
    stepTimes t.q t.r t.dd (index - t.stepIndex) (t.stepIndex, t.stepOffset, t.stepRemainder) =
      exactStep t.nn t.dd index := by
  rw [h.step_eq, h.q_eq, h.r_eq, stepTimes_exactStep h.dd_pos, Nat.add_sub_cancel' hi]

/-- The context with its head formed from an exact step state: the step state is the packet's exact one, and the head
stands at the closed form of its instant (R22, R25, R26). -/
theorem Slot.StepExact.withHead_eq {t : Slot} (h : t.StepExact) {index : Nat} (hi : t.stepIndex ≤ index) :
    t.withHead index =
      { t with
        stepIndex := index
        stepOffset := index * t.nn / t.dd
        stepRemainder := index * t.nn % t.dd
        head := some ⟨t.fc, index, scheduledInstant t t.fc index, eligibility t (scheduledInstant t t.fc index)⟩ } := by
  simp only [Slot.withHead, h.stepTimes_eq hi, exactStep, scheduledInstant]

/-- Settles O26: the exact step state is kept by every step, and a head formed from it stands at the closed form. -/
theorem scheduleStepsEqualTheClosedForm : Obligations.ScheduleStepsEqualTheClosedForm := by
  refine ⟨fun nn dd n hd => ?_, fun t index hd hq hr ho hm hi => ?_⟩
  · have h := stepTimes_exactStep (nn := nn) hd n 0
    simpa [exactStep] using h
  · have hx : t.StepExact := ⟨hd, hq, hr, by rw [exactStep, ho, hm]⟩
    rw [hx.withHead_eq hi]
    exact ⟨_, rfl, rfl, rfl, rfl, le_eligibility t _, rfl, rfl, rfl⟩

/-! ## The lateness index (R28) -/

/-- Below 1,000 ns a grade spans 125 ns. -/
theorem latenessIndex_fine {x : Nat} (h : x < 1000) : latenessIndex x = x / 125 := if_pos h

/-- From 1,000 ns to 9,000 ns a grade spans 1,000 ns. -/
theorem latenessIndex_micro {x : Nat} (h₁ : 1000 ≤ x) (h₂ : x < 9000) : latenessIndex x = 8 + (x - 1000) / 1000 := by
  rw [latenessIndex, if_neg (by omega), if_pos h₂]

/-- From 9,000 ns to 73,000 ns a grade spans 8,000 ns. -/
theorem latenessIndex_middle {x : Nat} (h₁ : 9000 ≤ x) (h₂ : x < 73000) :
    latenessIndex x = 16 + (x - 9000) / 8000 := by
  rw [latenessIndex, if_neg (by omega), if_neg (by omega), if_pos h₂]

/-- From 73,000 ns to 585,000 ns a grade spans 64,000 ns. -/
theorem latenessIndex_coarse {x : Nat} (h₁ : 73000 ≤ x) (h₂ : x < 585000) :
    latenessIndex x = 24 + (x - 73000) / 64000 := by
  rw [latenessIndex, if_neg (by omega), if_neg (by omega), if_neg (by omega), if_pos h₂]

/-- From 585,000 ns on the index is 31. -/
theorem latenessIndex_top {x : Nat} (h : 585000 ≤ x) : latenessIndex x = 31 := by
  rw [latenessIndex, if_neg (by omega), if_neg (by omega), if_neg (by omega), if_neg (by omega)]

/-- The index never falls from one nanosecond to the next: within a band it is a quotient, and each band ends at most
where the next begins. -/
theorem latenessIndex_le_succ (x : Nat) : latenessIndex x ≤ latenessIndex (x + 1) := by
  rcases Nat.lt_or_ge x 1000 with h₁ | h₁
  · rw [latenessIndex_fine h₁]
    rcases Nat.lt_or_ge (x + 1) 1000 with h | h
    · rw [latenessIndex_fine h]; omega
    · rw [latenessIndex_micro h (by omega)]; omega
  rcases Nat.lt_or_ge x 9000 with h₂ | h₂
  · rw [latenessIndex_micro h₁ h₂]
    rcases Nat.lt_or_ge (x + 1) 9000 with h | h
    · rw [latenessIndex_micro (by omega) h]; omega
    · rw [latenessIndex_middle h (by omega)]; omega
  rcases Nat.lt_or_ge x 73000 with h₃ | h₃
  · rw [latenessIndex_middle h₂ h₃]
    rcases Nat.lt_or_ge (x + 1) 73000 with h | h
    · rw [latenessIndex_middle (by omega) h]; omega
    · rw [latenessIndex_coarse h (by omega)]; omega
  rcases Nat.lt_or_ge x 585000 with h₄ | h₄
  · rw [latenessIndex_coarse h₃ h₄]
    rcases Nat.lt_or_ge (x + 1) 585000 with h | h
    · rw [latenessIndex_coarse (by omega) h]; omega
    · rw [latenessIndex_top h]; omega
  · rw [latenessIndex_top h₄, latenessIndex_top (by omega)]

/-- Settles O27: each band of the table, and monotony from one nanosecond to the next. -/
theorem latenessIndexFollowsItsTable : Obligations.LatenessIndexFollowsItsTable := by
  intro x
  refine ⟨fun h => ?_, fun h₁ h₂ => ?_, fun h₁ h₂ => ?_, fun h₁ h₂ => ?_, latenessIndex_top, fun y h => ?_⟩
  · rw [latenessIndex_fine h]; omega
  · rw [latenessIndex_micro h₁ h₂]; omega
  · rw [latenessIndex_middle h₁ h₂]; omega
  · rw [latenessIndex_coarse h₁ h₂]; omega
  · exact monotone_nat_of_le_succ latenessIndex_le_succ h

end Sys2Proof.Machine

/-!
PROOF. Big errors of the reference pulse, and the frame closes that a forward step passes over (chapters 2 and 9): O43.
-/

namespace Sys2Proof.Machine

open Sys2Proof

/-! ## The action of a pulse with a big error (R152 to R157) -/

/-- A pulse in a part with power is taken as `State.pulse` says, and a pattern stream may go on after it. -/
theorem exec_referencePulse {s : State} (h : s.power ≠ .off) :
    exec .referencePulse s = .next (s.resumed s.pulse) := by
  change whenDue true (fun s => s.resumed s.pulse) s = _
  exact whenDue_taken _ h

/-- A pulse after a label, and no pulse taken within the early guard before it, is taken (R152). -/
theorem State.pulse_eq_takePulse {s : State} (hl : s.house.labelWritten = true)
    (hg : ∀ x, s.house.lastPulse = some x → 500000000 ≤ s.elapsed - x.elapsed) : s.pulse = s.takePulse := by
  have he : s.pulseEarly = false := by
    unfold State.pulseEarly
    split
    · rfl
    · rename_i x hx
      have := hg x hx
      exact decide_eq_false (Nat.not_lt.mpr this)
  simp [State.pulse, hl, he]

/-- In FREE_RUN and in HOLDOVER a big error is believed at once (R153, R159). -/
theorem pulseAction_unlocked {h : House} {e : Int} (b : Bool) (he : 10000 < e.natAbs) (hl : h.lock ≠ .locked) :
    pulseAction h b e = bigAction b := by
  rw [pulseAction, if_neg (Nat.not_le.mpr he)]
  split
  · rfl
  · rfl
  · contradiction

/-- In LOCKED, during a long slew, a big error steps, or replaces what is left of the slew (R157). -/
theorem pulseAction_longSlew {h : House} {e : Int} (b : Bool) (he : 10000 < e.natAbs) (hl : h.lock = .locked)
    (hs : h.slew.isLong = true) : pulseAction h b e = if b then .step else .retarget := by
  rw [pulseAction, if_neg (Nat.not_le.mpr he), hl]
  exact if_pos hs

/-- In LOCKED with no long slew, the first and the second big error in a row are counted (R155). -/
theorem pulseAction_counted {h : House} {e : Int} (b : Bool) (he : 10000 < e.natAbs) (hl : h.lock = .locked)
    (hs : h.slew.isLong = false) (hb : h.bigErrors < 2) : pulseAction h b e = .countBig := by
  rw [pulseAction, if_neg (Nat.not_le.mpr he), hl]
  simp only [hs, Bool.false_eq_true, if_false]
  exact if_pos (by omega)

/-- In LOCKED with no long slew, the third big error in a row is believed (R155). -/
theorem pulseAction_third {h : House} {e : Int} (b : Bool) (he : 10000 < e.natAbs) (hl : h.lock = .locked)
    (hs : h.slew.isLong = false) (hb : h.bigErrors = 2) : pulseAction h b e = bigAction b := by
  rw [pulseAction, if_neg (Nat.not_le.mpr he), hl]
  simp only [hs, Bool.false_eq_true, if_false]
  exact if_neg (by omega)

/-! ## A taken pulse, before what a step moves (R152) -/

/-- The state after a taken pulse with this action: its bookkeeping, its effect on House Time, the count of a big error
(R155), the lock and the pulse second; what a step then moves in the Pacer is not yet done. -/
def State.pulsed (s : State) (a : PulseAction) : State :=
  let t := s.notePulse.applyPulse s.pulseError a
  let t := if countsBig s.house s.pulseError then t.countPart .bigErrors 1 else t
  t.lockOnPulse.updHouse fun h => { h with pulseSecond := nextPulseSecond h.pulseSecond }

/-- A pulse that is no step is over with its effect on House Time. -/
theorem State.takePulse_of_ne_step {s : State} {a : PulseAction}
    (ha : pulseAction s.house s.params.stepEnable s.pulseError = a) (hn : a ≠ .step) : s.takePulse = s.pulsed a := by
  subst ha
  exact if_neg hn

/-- A step then moves the Pacer forward or backward (R38 to R40). -/
theorem State.takePulse_of_step {s : State}
    (ha : pulseAction s.house s.params.stepEnable s.pulseError = .step) :
    s.takePulse = if 0 < s.pulseError then (s.pulsed .step).afterForward else (s.pulsed .step).afterBackward := by
  simp only [State.takePulse, ha, if_true]
  rfl

/-- A taken pulse leaves House Time LOCKED, whatever it was (R153, R159). -/
theorem State.lockOnPulse_house (s : State) : s.lockOnPulse.house = { s.house with lock := .locked } := by
  unfold State.lockOnPulse
  split
  · rename_i h; rw [← h]
  · rfl

/-- A change of lock state latches REFERENCE_CHANGE; a pulse in LOCKED changes none (R159). -/
theorem State.lockOnPulse_port (s : State) :
    s.lockOnPulse.port =
      if s.house.lock = .locked then s.port else { s.port with causes := s.port.causes ||| 0x04 } := by
  unfold State.lockOnPulse
  split <;> rfl

/-- House Time after a taken pulse is what the action makes of it, LOCKED, with the next pulse second. -/
theorem State.pulsed_house (s : State) (a : PulseAction) :
    (s.pulsed a).house =
      { (s.notePulse.applyPulse s.pulseError a).house with
        lock := .locked
        pulseSecond := nextPulseSecond (s.notePulse.applyPulse s.pulseError a).house.pulseSecond } := by
  unfold State.pulsed
  dsimp only
  split <;> simp only [State.updHouse_house, State.lockOnPulse_house, State.countPart_house]

/-- No action changes the lock state; the pulse itself does (R153). -/
@[simp] theorem State.applyPulse_lock (s : State) (e : Int) (a : PulseAction) :
    (s.applyPulse e a).house.lock = s.house.lock := by
  cases a with
  | ordinary trimToo =>
    cases trimToo
    · rfl
    · simp only [State.applyPulse, State.updHouse_house, House.setTrim, if_true]
      split <;> rfl
  | _ => rfl

/-- The causes after a taken pulse are those of its action, and REFERENCE_CHANGE where House Time was not LOCKED. -/
theorem State.pulsed_port (s : State) (a : PulseAction) :
    (s.pulsed a).port =
      if s.house.lock = .locked then (s.notePulse.applyPulse s.pulseError a).port
      else
        { (s.notePulse.applyPulse s.pulseError a).port with
          causes := (s.notePulse.applyPulse s.pulseError a).port.causes ||| 0x04 } := by
  have hl : (s.notePulse.applyPulse s.pulseError a).house.lock = s.house.lock := State.applyPulse_lock _ _ _
  unfold State.pulsed
  dsimp only
  split <;> simp only [State.updHouse_port, State.lockOnPulse_port, State.countPart_house, State.countPart_port, hl]

/-- The streams, the launcher, the lanes and the slots' counters are the same: a pulse reaches no further than House
Time, the causes and the part's counters before its step moves the Pacer. -/
structure State.SameStreams (s t : State) : Prop where
  slots : t.slots = s.slots
  launcher : t.launcher = s.launcher
  pattern : t.pattern = s.pattern
  sumA : t.sumA = s.sumA
  sumB : t.sumB = s.sumB
  lanes : t.lanes = s.lanes
  counters : t.active.slots = s.active.slots

namespace State.SameStreams

variable {s t u : State}

theorem refl (s : State) : s.SameStreams s := ⟨rfl, rfl, rfl, rfl, rfl, rfl, rfl⟩

theorem trans (h : s.SameStreams t) (k : t.SameStreams u) : s.SameStreams u :=
  ⟨k.slots.trans h.slots, k.launcher.trans h.launcher, k.pattern.trans h.pattern, k.sumA.trans h.sumA,
    k.sumB.trans h.sumB, k.lanes.trans h.lanes, k.counters.trans h.counters⟩

theorem updHouse (s : State) (f : House → House) : s.SameStreams (s.updHouse f) := ⟨rfl, rfl, rfl, rfl, rfl, rfl, rfl⟩

theorem countPart (s : State) (c : PartCounter) (n : Nat) : s.SameStreams (s.countPart c n) :=
  ⟨rfl, rfl, rfl, rfl, rfl, rfl, rfl⟩

theorem latch (s : State) (c : Cause) : s.SameStreams (s.latch c) := ⟨rfl, rfl, rfl, rfl, rfl, rfl, rfl⟩

theorem slot_eq (h : s.SameStreams t) (i : Fin 16) : t.slot i = s.slot i := by rw [State.slot, h.slots, State.slot]

theorem slotCount_eq (h : s.SameStreams t) (i : Fin 16) (c : SlotCounter) : t.slotCount i c = s.slotCount i c := by
  rw [State.slotCount, h.counters, State.slotCount]

end State.SameStreams

theorem State.sameStreams_applyPulse (s : State) (e : Int) (a : PulseAction) : s.SameStreams (s.applyPulse e a) := by
  unfold State.applyPulse
  cases a with
  | ordinary trimToo => exact .updHouse s _
  | countBig => exact .updHouse s _
  | retarget => exact .updHouse s _
  | step => exact ((SameStreams.updHouse s _).trans (.countPart _ _ _)).trans (.latch _ _)
  | withhold => exact ((SameStreams.updHouse s _).trans (.countPart _ _ _)).trans (.latch _ _)

theorem State.sameStreams_lockOnPulse (s : State) : s.SameStreams s.lockOnPulse := by
  unfold State.lockOnPulse
  split
  · exact .refl s
  · exact (SameStreams.updHouse s _).trans (.latch _ _)

/-- A taken pulse moves nothing of the streams but by a step's passage. -/
theorem State.sameStreams_pulsed (s : State) (a : PulseAction) : s.SameStreams (s.pulsed a) := by
  have hn : s.SameStreams s.notePulse := (SameStreams.updHouse s _).trans (.countPart _ _ _)
  have ha := hn.trans (State.sameStreams_applyPulse s.notePulse s.pulseError a)
  unfold State.pulsed
  dsimp only
  split
  · exact ((ha.trans (.countPart _ _ _)).trans (State.sameStreams_lockOnPulse _)).trans (.updHouse _ _)
  · exact (ha.trans (State.sameStreams_lockOnPulse _)).trans (.updHouse _ _)

/-- House Time after a counted big error: one more is counted, its time and its slew stand (R155). -/
theorem State.pulsed_countBig_house (s : State) :
    (s.pulsed .countBig).house =
      { s.notePulse.house with
        lock := .locked
        bigErrors := s.house.bigErrors + 1
        pulseSecond := nextPulseSecond s.house.pulseSecond } := by
  rw [State.pulsed_house]
  rfl

/-- In LOCKED with no long slew a big error is counted as a pulse and as a big error (R152, R155). -/
theorem State.pulsed_countBig_active {s : State} (he : 10000 < s.pulseError.natAbs) (hl : s.house.lock = .locked)
    (hs : s.house.slew.isLong = false) :
    (s.pulsed .countBig).active = ((s.countPart .pulses 1).countPart .bigErrors 1).active := by
  have hc : countsBig s.house s.pulseError = true := by simp [countsBig, hl, hs, he]
  simp only [State.pulsed, hc, if_true, State.updHouse_active, State.lockOnPulse_active]
  rfl

/-- House Time after a big error in a long slew: the slew takes the new error, and no belief moves (R157). -/
theorem State.pulsed_retarget_house (s : State) :
    (s.pulsed .retarget).house =
      { s.notePulse.house with
        lock := .locked
        slew := s.house.slew.retarget s.pulseError
        pulseSecond := nextPulseSecond s.house.pulseSecond } := by
  rw [State.pulsed_house]
  rfl

/-- A big error that is counted or redirects a slew in LOCKED latches no cause. -/
theorem State.pulsed_quiet_port {s : State} {a : PulseAction} (hl : s.house.lock = .locked)
    (ha : a = .countBig ∨ a = .retarget) : (s.pulsed a).port = s.port := by
  rw [State.pulsed_port, if_pos hl]
  rcases ha with rfl | rfl <;> rfl

/-- House Time after a step: at the pulse second, LOCKED, the slew dropped, the step recorded (R156). -/
theorem State.pulsed_step_house (s : State) :
    (s.pulsed .step).house =
      { s.notePulse.house with
        time := s.house.pulseSecond * 1000000000
        lock := .locked
        slew := .none
        bigErrors := 0
        lastStep := some s.pulseError
        pulseSecond := nextPulseSecond s.house.pulseSecond
        markers := if 0 < s.pulseError ∧ s.house.time / 1000000000 < s.house.pulseSecond * 1000000000 / 1000000000 then
            s.house.markers ++ [s.house.pulseSecond * 1000000000 / 1000000000]
          else s.house.markers } := by
  rw [State.pulsed_house]
  rfl

/-- House Time after a withheld step: the time stands, LOCKED, a long slew of the error begins (R157). -/
theorem State.pulsed_withhold_house (s : State) :
    (s.pulsed .withhold).house =
      { s.notePulse.house with
        lock := .locked
        slew := longSlew s.elapsed s.pulseError
        bigErrors := 0
        lastStep := some s.pulseError
        pulseSecond := nextPulseSecond s.house.pulseSecond } := by
  rw [State.pulsed_house]
  rfl

/-- The causes after a step, done or withheld: STEP, and REFERENCE_CHANGE where House Time was not LOCKED (R156, R159). -/
theorem State.pulsed_believed_port (s : State) {a : PulseAction} (ha : a = .step ∨ a = .withhold) :
    (s.pulsed a).port =
      { s.port with causes := s.port.causes ||| if s.house.lock = .locked then 0x08 else 0x0C } := by
  have hs : (s.notePulse.applyPulse s.pulseError a).port = { s.port with causes := s.port.causes ||| 0x08 } := by
    rcases ha with rfl | rfl <;> rfl
  rw [State.pulsed_port, hs]
  split
  · rfl
  · simp only [BitVec.or_assoc]
    rfl

/-- A long slew has the whole error to make up, its first adjustment 100,000 ns away (R150). -/
theorem longSlew_remaining (x : Nat) (e : Int) : (longSlew x e).remaining = e := by
  unfold longSlew Slew.remaining
  by_cases h : e < 0
  · simp only [h, decide_true, if_true]; omega
  · simp only [h, decide_false, Bool.false_eq_true, if_false]; omega

/-- A big error becomes what is left of a long slew, which stays long and keeps its next instant (R157). -/
theorem Slew.retarget_long {v : Slew} (h : v.isLong = true) (e : Int) :
    (v.retarget e).isLong = true ∧ (v.retarget e).remaining = e ∧ (v.retarget e).nextAt = v.nextAt := by
  cases v with
  | none => contradiction
  | ordinary back start total made => contradiction
  | long back next left =>
    refine ⟨rfl, ?_, rfl⟩
    unfold Slew.retarget Slew.remaining
    by_cases h : e < 0
    · simp only [h, decide_true, if_true]; omega
    · simp only [h, decide_false, Bool.false_eq_true, if_false]; omega

/-! ## The STEP event and the due set (R39, R40, R45) -/

/-- The STEP event sets the idle count of each slot to 0 (R39). -/
@[simp] theorem State.slot_stepEvent (s : State) (i : Fin 16) : s.stepEvent.slot i = { s.slot i with idle := 0 } := by
  simp [State.slot, State.stepEvent]

@[simp] theorem State.slot_refreshAll (s : State) (i : Fin 16) : s.refreshAll.slot i = s.slot i := by simp [State.slot]

/-- Whether a stream is due does not hang on its idle count. -/
@[simp] theorem State.isDue_stepEvent (s : State) (i : Fin 16) : s.stepEvent.isDue i = s.isDue i := by
  simp only [State.isDue, State.slot_stepEvent, State.stepEvent_held, State.now_stepEvent]

/-- Whether a stream is due does not hang on the due set. -/
@[simp] theorem State.isDue_refreshDue (s : State) (i j : Fin 16) : (s.refreshDue j).isDue i = s.isDue i := by
  simp only [State.isDue, State.slot_refreshDue, State.refreshDue_held, State.now_refreshDue]

/-- Once a list of slots is refreshed, a slot of it is in the due set as R45 says. -/
theorem State.refresh_foldl_due (s : State) (i : Fin 16) (is : List (Fin 16)) (h : i ∈ is ∨ s.due[i] = s.isDue i) :
    (is.foldl State.refreshDue s).due[i] = s.isDue i := by
  induction is generalizing s with
  | nil => exact h.resolve_left (List.not_mem_nil)
  | cons j is ih =>
    rw [List.foldl_cons, ih, State.isDue_refreshDue]
    by_cases hj : i = j
    · subst hj
      exact .inr (by rw [State.isDue_refreshDue, State.refreshDue_due_get])
    · rw [State.isDue_refreshDue, State.refreshDue_due_get_ne s j i hj]
      exact h.imp_left fun hm => (List.mem_cons.mp hm).resolve_left hj

/-- After a refresh of every slot the due set is as R45 says. -/
theorem State.refreshAll_due_get (s : State) (i : Fin 16) : s.refreshAll.due[i] = s.isDue i :=
  s.refresh_foldl_due i allSlots (.inl (List.mem_finRange i))

/-- With no slot in the due set no choice is taken (R51). -/
theorem State.choice_of_none_due {s : State} (h : ∀ i : Fin 16, s.due[i] = false) : s.choice = s := by
  rcases s.choice_cases with e | ⟨i, _, _, hd, _⟩ | ⟨i, _, _, hd, _⟩
  · exact e
  · rw [h i] at hd; contradiction
  · rw [h i] at hd; contradiction

/-- A FREE or an ARMED slot is never due (R45). -/
theorem State.isDue_of_not_paced {s : State} {i : Fin 16} (h : (s.slot i).state.isPaced = false) : s.isDue i = false := by
  simp [State.isDue, h]

/-- A slot without a formed head is never due (R45). -/
theorem State.isDue_of_no_head {s : State} {i : Fin 16} (h : (s.slot i).head = none) : s.isDue i = false := by
  simp [State.isDue, h]

/-- A forward step with the launcher free that leaves no stream due launches nothing. -/
theorem State.afterForward_of_none_due {s u : State} (hu : s.passRun s.passFuel = u) (hl : u.launcher = none)
    (hd : ∀ i, u.isDue i = false) : s.afterForward = u.stepEvent.refreshAll := by
  have ho : u.stepEvent.refreshAll.serviceOver = false := by simp [State.serviceOver, hl]
  have hc : u.stepEvent.refreshAll.choice = u.stepEvent.refreshAll :=
    State.choice_of_none_due fun i => by rw [State.refreshAll_due_get, State.isDue_stepEvent, hd i]
  unfold State.afterForward
  rw [hu]
  simp only [ho, Bool.false_eq_true, if_false, hc]

/-! ## The instants a forward step passes (R38) -/

/-- One slot of the search for the earliest passed instant. -/
def State.joinPassed (s : State) (acc : Option (Nat × Fin 16)) (j : Fin 16) : Option (Nat × Fin 16) :=
  earlierOf acc ((s.nextPassed j).map fun x => (x, j))

theorem State.earliestPassed_eq (s : State) :
    s.earliestPassed = (allSlots.foldl s.joinPassed none).map Prod.snd := rfl

/-- A slot with no passed instant leaves the search as it is. -/
theorem State.joinPassed_of_none {s : State} {j : Fin 16} (h : s.nextPassed j = none) (acc : Option (Nat × Fin 16)) :
    s.joinPassed acc j = acc := by
  rw [State.joinPassed, h]
  cases acc <;> rfl

/-- Slots with no passed instant leave the search as it is. -/
theorem State.joinPassed_foldl_of_none {s : State} (js : List (Fin 16)) (h : ∀ j ∈ js, s.nextPassed j = none)
    (acc : Option (Nat × Fin 16)) : js.foldl s.joinPassed acc = acc := by
  induction js with
  | nil => rfl
  | cons j js ih =>
    rw [List.foldl_cons, State.joinPassed_of_none (h j List.mem_cons_self),
      ih fun k hk => h k (List.mem_cons_of_mem _ hk)]

/-- With no passed instant the search finds no slot. -/
theorem State.earliestPassed_of_none {s : State} (h : ∀ j, s.nextPassed j = none) : s.earliestPassed = none := by
  rw [State.earliestPassed_eq, State.joinPassed_foldl_of_none allSlots fun j _ => h j]
  rfl

/-- With passed instants of one slot alone the search finds that slot. -/
theorem State.earliestPassed_of_only {s : State} {i : Fin 16} {x : Nat} (hi : s.nextPassed i = some x)
    (h : ∀ j, j ≠ i → s.nextPassed j = none) : s.earliestPassed = some i := by
  obtain ⟨pre, post, hs⟩ := List.append_of_mem (List.mem_finRange i)
  have hn : (pre ++ i :: post).Nodup := hs ▸ List.nodup_finRange 16
  have hpre : ∀ j ∈ pre, j ≠ i := fun j hj e =>
    List.disjoint_left.mp (List.disjoint_of_nodup_append hn) hj (e ▸ List.mem_cons_self)
  have hpost : ∀ j ∈ post, j ≠ i := fun j hj e =>
    (List.nodup_cons.mp (List.Nodup.of_append_right hn)).1 (e ▸ hj)
  rw [State.earliestPassed_eq, allSlots, hs, List.foldl_append, List.foldl_cons,
    State.joinPassed_foldl_of_none pre fun j hj => h j (hpre j hj),
    State.joinPassed_foldl_of_none post fun j hj => h j (hpost j hj), State.joinPassed, hi]
  rfl

/-- A FREE slot has no instant to pass. -/
theorem State.nextPassed_of_free {s : State} {j : Fin 16} (h : (s.slot j).state = .free) : s.nextPassed j = none := by
  simp [State.nextPassed, State.armingPassed, State.discardPassed, discardInstant, State.closePassed, h,
    SlotState.isPaced]

/-- A forward step over a part with every slot FREE passes nothing. -/
theorem State.passRun_of_free {s : State} (h : ∀ j, (s.slot j).state = .free) (n : Nat) : s.passRun n = s := by
  cases n with
  | zero => rw [State.passRun]
  | succ n => rw [State.passRun, State.earliestPassed_of_none fun j => State.nextPassed_of_free (h j)]; rfl

/-! ## The closes of a RUNNING stream with an empty queue (R34, R37, R38) -/

/-- The slot is RUNNING with nothing queued. -/
structure State.RunsEmpty (s : State) (i : Fin 16) : Prop where
  running : (s.slot i).state = .running
  empty : (s.slot i).queue = []

namespace State.RunsEmpty

variable {s : State} {i : Fin 16}

theorem armingPassed (h : s.RunsEmpty i) : s.armingPassed i = false := by simp [State.armingPassed, h.running]

theorem discardPassed (h : s.RunsEmpty i) : s.discardPassed i = false := by
  simp [State.discardPassed, discardInstant, h.empty]

/-- Its next instant is the close of fc, once reached. -/
theorem nextPassed (h : s.RunsEmpty i) :
    s.nextPassed i =
      if closeInstant (s.slot i) (s.slot i).fc ≤ s.now then some (closeInstant (s.slot i) (s.slot i).fc) else none := by
  simp only [State.nextPassed, h.armingPassed, h.discardPassed, State.closePassed, h.running, SlotState.isPaced,
    Bool.true_and, Bool.false_eq_true, if_false, decide_eq_true_eq]

/-- Its close drops no entry and forms no head. -/
theorem slot_closeFrame (h : s.RunsEmpty i) :
    (s.closeFrame i).slot i = { (s.slot i).afterClose 0 false [] 0 with head := none } := by
  simp [State.closeFrame, State.slot_formHead, State.headEntry, Slot.afterClose, h.empty, State.dropAll]

theorem closeFrame (h : s.RunsEmpty i) : (s.closeFrame i).RunsEmpty i := by
  constructor <;> rw [h.slot_closeFrame]
  · exact h.running
  · rfl

/-- Within a forward step its close is taken without the test for ABANDONED (R38). -/
theorem takePassed (h : s.RunsEmpty i) : s.takePassed i = s.closeFrame i := by
  have ht : (s.closeFrame i).closeTests i false = s.closeFrame i := by
    simp [State.closeTests, h.closeFrame.running]
  simp only [State.takePassed, h.armingPassed, h.discardPassed, Bool.false_eq_true, if_false, ht]

/-- Its close counts FRAMES_CLOSED once. -/
theorem framesClosed_closeFrame (h : s.RunsEmpty i) :
    (s.closeFrame i).slotCount i .framesClosed = capAdd (s.slotCount i .framesClosed) 1 := by
  simp [State.closeFrame, State.slotCount, State.countSlot, State.updActive, SlotCounter.pos, h.empty, State.dropAll]

/-- Its close frees nothing, so no lane's pending credit moves. -/
theorem lanes_closeFrame (h : s.RunsEmpty i) : (s.closeFrame i).lanes = s.lanes := by
  simp [State.closeFrame, h.empty, State.dropAll]

end State.RunsEmpty

/-- `m` frame closes of slot `i` in turn. -/
def State.closeFrames (s : State) (i : Fin 16) (m : Nat) : State := (fun u => u.closeFrame i)^[m] s

/-- The closes begin with the one of fc. -/
theorem State.closeFrames_succ (s : State) (i : Fin 16) (m : Nat) :
    s.closeFrames i (m + 1) = (s.closeFrame i).closeFrames i m := rfl

/-- The closes end with one more close. -/
theorem State.closeFrames_succ' (s : State) (i : Fin 16) (m : Nat) :
    s.closeFrames i (m + 1) = (s.closeFrames i m).closeFrame i := Function.iterate_succ_apply' _ _ _

/-- What `m` closes of slot `i`, RUNNING with nothing queued, leave and move from `s` to `t`. -/
structure State.PassedCloses (s t : State) (i : Fin 16) (m : Nat) : Prop where
  runsEmpty : t.RunsEmpty i
  fc : (t.slot i).fc = (s.slot i).fc + m
  closeInstant : ∀ f, closeInstant (t.slot i) f = closeInstant (s.slot i) f
  lastReason : (t.slot i).lastReason = (s.slot i).lastReason
  others : s.otherSlotsSame t i
  lanes : t.lanes = s.lanes
  sumA : t.sumA = s.sumA
  sumB : t.sumB = s.sumB
  launcher : t.launcher = s.launcher
  house : t.house = s.house
  port : t.port = s.port

namespace State.PassedCloses

variable {s t : State} {i : Fin 16} {m : Nat}

theorem refl (h : s.RunsEmpty i) : s.PassedCloses s i 0 :=
  ⟨h, rfl, fun _ => rfl, rfl, fun _ _ => rfl, rfl, rfl, rfl, rfl, rfl, rfl⟩

/-- One close more. -/
theorem closeFrame (h : s.PassedCloses t i m) : s.PassedCloses (t.closeFrame i) i (m + 1) where
  runsEmpty := h.runsEmpty.closeFrame
  fc := by rw [h.runsEmpty.slot_closeFrame]; exact congrArg (· + 1) h.fc
  closeInstant f := by rw [h.runsEmpty.slot_closeFrame]; exact h.closeInstant f
  lastReason := by rw [h.runsEmpty.slot_closeFrame]; exact h.lastReason
  others j hj := by rw [State.slot_closeFrame_ne t i j hj, h.others j hj]
  lanes := by rw [h.runsEmpty.lanes_closeFrame, h.lanes]
  sumA := by rw [State.closeFrame_sumA, h.sumA]
  sumB := by rw [State.closeFrame_sumB, h.sumB]
  launcher := by rw [State.closeFrame_launcher, h.launcher]
  house := by rw [State.closeFrame_house, h.house]
  port := by rw [State.closeFrame_port, h.port]

/-- `m` closes in turn. -/
theorem closeFrames (h : s.RunsEmpty i) (m : Nat) : s.PassedCloses (s.closeFrames i m) i m := by
  induction m with
  | zero => exact .refl h
  | succ m ih => rw [State.closeFrames_succ']; exact ih.closeFrame

end State.PassedCloses

/-- A counter that stops at its greatest value counts `m` and then one more as `m + 1`. -/
theorem capAdd_capAdd_one (a m : Nat) : capAdd (capAdd a m) 1 = capAdd a (m + 1) := by
  unfold capAdd
  omega

/-- The closes are counted one by one (R182). -/
theorem State.RunsEmpty.framesClosed_closeFrames {s : State} {i : Fin 16} (h : s.RunsEmpty i) (m : Nat) :
    (s.closeFrames i (m + 1)).slotCount i .framesClosed = capAdd (s.slotCount i .framesClosed) (m + 1) := by
  induction m with
  | zero => exact h.framesClosed_closeFrame
  | succ m ih =>
    rw [State.closeFrames_succ', (State.PassedCloses.closeFrames h (m + 1)).runsEmpty.framesClosed_closeFrame, ih,
      capAdd_capAdd_one]

/-- A forward step passes the closes of the one open stream, RUNNING with nothing queued, whose instants house time has
reached, in turn (R37, R38). -/
theorem State.RunsEmpty.passRun_eq {s : State} {i : Fin 16} (h : s.RunsEmpty i) {m n : Nat}
    (hfree : ∀ j, j ≠ i → (s.slot j).state = .free)
    (hreached : ∀ j, j < m → closeInstant (s.slot i) ((s.slot i).fc + j) ≤ s.now)
    (hahead : s.now < closeInstant (s.slot i) ((s.slot i).fc + m)) (hn : m ≤ n) : s.passRun n = s.closeFrames i m := by
  induction m generalizing s n with
  | zero =>
    have hi : s.nextPassed i = none := by rw [h.nextPassed]; exact if_neg (Nat.not_le.mpr hahead)
    have hnone : s.earliestPassed = none := State.earliestPassed_of_none fun j => by
      by_cases hj : j = i
      · rw [hj, hi]
      · exact State.nextPassed_of_free (hfree j hj)
    cases n with
    | zero => rw [State.passRun]; rfl
    | succ n => rw [State.passRun, hnone]; rfl
  | succ m ih =>
    obtain ⟨n, rfl⟩ : ∃ k, n = k + 1 := ⟨n - 1, by omega⟩
    have hi : s.nextPassed i = some (closeInstant (s.slot i) (s.slot i).fc) := by
      rw [h.nextPassed]; exact if_pos (hreached 0 (Nat.succ_pos m))
    have hpass := (State.PassedCloses.refl h).closeFrame
    rw [State.passRun, State.earliestPassed_of_only hi fun j hj => State.nextPassed_of_free (hfree j hj),
      Option.elim_some, h.takePassed, State.closeFrames_succ]
    refine ih hpass.runsEmpty (fun j hj => ?_) (fun j hj => ?_) ?_ (Nat.le_of_succ_le_succ hn)
    · rw [hpass.others j hj]; exact hfree j hj
    · rw [hpass.closeInstant, hpass.fc, State.now_closeFrame, Nat.add_assoc, Nat.zero_add, Nat.add_comm 1]
      exact hreached (j + 1) (Nat.succ_lt_succ hj)
    · rw [hpass.closeInstant, hpass.fc, State.now_closeFrame, Nat.add_assoc, Nat.zero_add, Nat.add_comm 1]
      exact hahead

/-- Frames of at least a nanosecond begin no earlier than their number in nanoseconds (R20). -/
theorem le_boundary {n d : Nat} (hn : 0 < n) (hle : n ≤ d * 1000000000) (f : Nat) : f ≤ boundary n d f := by
  rw [boundary, Nat.le_div_iff_mul_le hn, Nat.mul_assoc]
  exact Nat.mul_le_mul_left f hle

/-- The bound of a forward step's run covers `m` closes that house time has reached. -/
theorem State.le_passFuel {s : State} {i : Fin 16} {m : Nat} (hn : 0 < (s.slot i).n)
    (hle : (s.slot i).n ≤ (s.slot i).d * 1000000000)
    (hreached : ∀ j, j < m → closeInstant (s.slot i) ((s.slot i).fc + j) ≤ s.now) : m ≤ s.passFuel := by
  cases m with
  | zero => exact Nat.zero_le _
  | succ m =>
    have hb := le_boundary hn hle ((s.slot i).fc + m + 1)
    have hc := hreached m (Nat.lt_succ_self m)
    unfold closeInstant at hc
    unfold State.passFuel
    omega

/-! ## The pulse that is taken, whole -/

/-- A pulse is taken: the part has power, a label is written, and no early guard holds (R152). -/
structure State.TakesPulse (s : State) : Prop where
  power : s.power ≠ .off
  labelled : s.house.labelWritten = true
  notEarly : ∀ x, s.house.lastPulse = some x → 500000000 ≤ s.elapsed - x.elapsed

/-- The pattern stream's pauses hang on the Pattern Source, and of its slot on the queue, fc and S (R167). -/
theorem State.pauses_congr {s t : State} (hp : t.pattern = s.pattern) (hq : ∀ i, (t.slot i).queue = (s.slot i).queue)
    (hf : ∀ i, (t.slot i).fc = (s.slot i).fc) (hs : ∀ i, (t.slot i).s = (s.slot i).s) : t.pauses = s.pauses := by
  simp only [State.pauses, hp, hq, hf, hs]

namespace State.TakesPulse

variable {s : State}

theorem exec_eq (h : s.TakesPulse) : exec .referencePulse s = .next (s.resumed s.takePulse) := by
  rw [exec_referencePulse h.power, State.pulse_eq_takePulse h.labelled h.notEarly]

/-- A taken pulse that is no step. -/
theorem exec_of_ne_step (h : s.TakesPulse) {a : PulseAction}
    (ha : pulseAction s.house s.params.stepEnable s.pulseError = a) (hn : a ≠ .step) :
    exec .referencePulse s = .next (s.pulsed a) := by
  have k := State.sameStreams_pulsed s a
  rw [h.exec_eq, State.takePulse_of_ne_step ha hn, State.resumed_same _ _ k.slots k.pattern]

/-- A taken pulse that steps a part with every slot FREE and the launcher free, forward or backward. -/
theorem exec_of_step_free (h : s.TakesPulse) (ha : pulseAction s.house s.params.stepEnable s.pulseError = .step)
    (hfree : ∀ i, (s.slot i).state = .free) (hl : s.launcher = none) :
    exec .referencePulse s = .next (s.pulsed .step).stepEvent.refreshAll := by
  have k := State.sameStreams_pulsed s .step
  have hf : ∀ i, ((s.pulsed .step).slot i).state = .free := fun i => by rw [k.slot_eq, hfree]
  have hforward : (s.pulsed .step).afterForward = (s.pulsed .step).stepEvent.refreshAll :=
    State.afterForward_of_none_due (State.passRun_of_free hf _) (k.launcher.trans hl) fun i =>
      State.isDue_of_not_paced (by rw [hf]; rfl)
  have ht : s.takePulse = (s.pulsed .step).stepEvent.refreshAll := by
    rw [State.takePulse_of_step ha, hforward]
    exact ite_self _
  have hslot : ∀ i, (s.pulsed .step).stepEvent.refreshAll.slot i = { s.slot i with idle := 0 } := fun i => by
    rw [State.slot_refreshAll, State.slot_stepEvent, k.slot_eq]
  rw [h.exec_eq, ht, State.resumed_same_pauses]
  refine State.pauses_congr ?_ (fun i => by rw [hslot]) (fun i => by rw [hslot]) (fun i => by rw [hslot])
  rw [State.refreshAll_pattern, State.stepEvent_pattern, k.pattern]

end State.TakesPulse

/-- What a step makes of a part with every slot FREE and the launcher free (R39, R156, R159). -/
structure State.Stepped (s t : State) : Prop where
  time : t.house.time = s.house.pulseSecond * 1000000000
  slew : t.house.slew = .none
  lock : t.house.lock = .locked
  trim : t.house.trim = s.house.trim
  bigErrors : t.house.bigErrors = 0
  lastStep : t.house.lastStep = some s.pulseError
  markers : s.pulseError < 0 → t.house.markers = s.house.markers
  slot : ∀ i : Fin 16, t.slot i = { s.slot i with idle := 0 }
  port : t.port = { s.port with causes := s.port.causes ||| if s.house.lock = .locked then 0x08 else 0x0C }

/-- What a withheld step makes of the part: a long slew of the error, no STEP event (R157, R159). -/
structure State.Withheld (s t : State) : Prop where
  time : t.house.time = s.house.time
  isLong : t.house.slew.isLong = true
  remaining : t.house.slew.remaining = s.pulseError
  nextAt : t.house.slew.nextAt = some (s.elapsed + 100000)
  lock : t.house.lock = .locked
  trim : t.house.trim = s.house.trim
  bigErrors : t.house.bigErrors = 0
  lastStep : t.house.lastStep = some s.pulseError
  slots : t.slots = s.slots
  port : t.port = { s.port with causes := s.port.causes ||| if s.house.lock = .locked then 0x08 else 0x0C }

/-- A taken pulse that steps a part with every slot FREE and the launcher free. -/
theorem State.TakesPulse.stepped {s : State} (h : s.TakesPulse)
    (ha : pulseAction s.house s.params.stepEnable s.pulseError = .step)
    (hfree : ∀ i, (s.slot i).state = .free) (hl : s.launcher = none) :
    ∃ t, exec .referencePulse s = .next t ∧ s.Stepped t := by
  have hhouse : (s.pulsed .step).stepEvent.refreshAll.house = (s.pulsed .step).house := by
    rw [State.refreshAll_house, State.stepEvent_house]
  rw [State.pulsed_step_house] at hhouse
  refine ⟨_, h.exec_of_step_free ha hfree hl, ?_⟩
  constructor
  case slot =>
    intro i
    rw [State.slot_refreshAll, State.slot_stepEvent, (State.sameStreams_pulsed s .step).slot_eq]
  case port => rw [State.refreshAll_port, State.stepEvent_port, State.pulsed_believed_port s (.inl rfl)]
  case markers =>
    intro hback
    rw [hhouse]
    exact if_neg fun hc => Int.lt_asymm hback hc.1
  case trim => rw [hhouse]; rfl
  all_goals rw [hhouse]

/-- A taken pulse whose step is withheld. -/
theorem State.TakesPulse.withheld {s : State} (h : s.TakesPulse)
    (ha : pulseAction s.house s.params.stepEnable s.pulseError = .withhold) :
    ∃ t, exec .referencePulse s = .next t ∧ s.Withheld t := by
  refine ⟨_, h.exec_of_ne_step ha nofun, ?_⟩
  constructor
  case slots => exact (State.sameStreams_pulsed s .withhold).slots
  case port => exact State.pulsed_believed_port s (.inr rfl)
  case remaining => rw [State.pulsed_withhold_house]; exact longSlew_remaining _ _
  case isLong | nextAt | time | trim => rw [State.pulsed_withhold_house]; rfl
  all_goals rw [State.pulsed_withhold_house]

/-- What a forward step over the closes of one RUNNING stream with nothing queued makes of a part with no other stream
open and the launcher free (R37 to R39). -/
theorem State.takePulse_over_closes {s : State} {i : Fin 16} {m : Nat}
    (ha : pulseAction s.house s.params.stepEnable s.pulseError = .step) (hpos : 0 < s.pulseError)
    (hfree : ∀ j, j ≠ i → (s.slot j).state = .free) (hl : s.launcher = none) (hrun : s.RunsEmpty i)
    (hn : 0 < (s.slot i).n) (hle : (s.slot i).n ≤ (s.slot i).d * 1000000000)
    (hreached : ∀ j, j < m + 1 → closeInstant (s.slot i) ((s.slot i).fc + j) ≤ s.house.pulseSecond * 1000000000)
    (hahead : s.house.pulseSecond * 1000000000 < closeInstant (s.slot i) ((s.slot i).fc + (m + 1))) :
    s.takePulse = ((s.pulsed .step).closeFrames i (m + 1)).stepEvent.refreshAll
      ∧ (s.pulsed .step).PassedCloses ((s.pulsed .step).closeFrames i (m + 1)) i (m + 1) := by
  have k := State.sameStreams_pulsed s .step
  have hnow : (s.pulsed .step).now = s.house.pulseSecond * 1000000000 := by
    rw [State.now, State.pulsed_step_house]
  have hempty : (s.pulsed .step).RunsEmpty i :=
    ⟨by rw [k.slot_eq]; exact hrun.running, by rw [k.slot_eq]; exact hrun.empty⟩
  have hothers : ∀ j, j ≠ i → ((s.pulsed .step).slot j).state = .free := fun j hj => by rw [k.slot_eq, hfree j hj]
  rw [← hnow] at hreached hahead
  rw [← k.slot_eq i] at hreached hahead hn hle
  have hpass := hempty.passRun_eq hothers hreached hahead (State.le_passFuel hn hle hreached)
  have hclosed := State.PassedCloses.closeFrames hempty (m + 1)
  have hdue : ∀ j, ((s.pulsed .step).closeFrames i (m + 1)).isDue j = false := fun j => by
    by_cases hj : j = i
    · subst hj
      refine State.isDue_of_no_head ?_
      rw [State.closeFrames_succ', (State.PassedCloses.closeFrames hempty m).runsEmpty.slot_closeFrame]
    · refine State.isDue_of_not_paced ?_
      rw [hclosed.others j hj, hothers j hj]
      rfl
  refine ⟨?_, hclosed⟩
  rw [State.takePulse_of_step ha, if_pos hpos]
  exact State.afterForward_of_none_due hpass (hclosed.launcher.trans (k.launcher.trans hl)) hdue

/-- After closes of an empty queue the last-frame record is of the frame before fc, and nothing of fc is released or
discarded (R34). -/
theorem State.RunsEmpty.slot_closeFrames {s : State} {i : Fin 16} (h : s.RunsEmpty i) (m : Nat) :
    ((s.closeFrames i (m + 1)).slot i).lastFrame.frame = (s.slot i).fc + m
      ∧ ((s.closeFrames i (m + 1)).slot i).released = 0 ∧ ((s.closeFrames i (m + 1)).slot i).discarded = 0 := by
  have k := State.PassedCloses.closeFrames h m
  rw [State.closeFrames_succ', k.runsEmpty.slot_closeFrame]
  exact ⟨k.fc, rfl, rfl⟩

/-- Settles O43: the action of the pulse is read off its lock state, slew and count; a step of a part with nothing open
passes nothing, and one over the closes of an empty stream takes them one by one. -/
theorem thirdBigErrorIsBelieved : Obligations.ThirdBigErrorIsBelieved := by
  refine ⟨?locked, ?believed, ?closes⟩
  case locked =>
    intro s hp hw hk hs hg hf _ hl e he
    change 10000 < s.pulseError.natAbs at he
    have h : s.TakesPulse := ⟨hp, hw, hg⟩
    refine ⟨fun hb => ?_, fun hb hse => ?_, fun hb hse => ?_⟩
    · have ha := pulseAction_counted s.params.stepEnable he hk hs hb
      refine ⟨_, h.exec_of_ne_step ha nofun, ?_⟩
      rw [State.pulsed_countBig_house, State.pulsed_quiet_port hk (.inl rfl)]
      exact ⟨rfl, rfl, rfl, rfl, State.pulsed_countBig_active he hk hs, (State.sameStreams_pulsed s _).slots, rfl⟩
    · have ha := pulseAction_third s.params.stepEnable he hk hs hb
      obtain ⟨t, hx, ht⟩ := h.stepped (by rw [ha, hse]; rfl) hf hl
      exact ⟨t, hx, ht.time, ht.slew, ht.bigErrors, ht.lastStep, ht.trim, ht.lock, ht.slot, ht.markers,
        by rw [ht.port, if_pos hk]⟩
    · have ha := pulseAction_third s.params.stepEnable he hk hs hb
      obtain ⟨t, hx, ht⟩ := h.withheld (by rw [ha, hse]; rfl)
      exact ⟨t, hx, ht.time, ht.isLong, ht.remaining, ht.nextAt, ht.bigErrors, ht.lastStep, ht.slots,
        by rw [ht.port, if_pos hk]⟩
  case believed =>
    intro s hp hw hg hf _ hl e he slewed stepped
    change 10000 < s.pulseError.natAbs at he
    have h : s.TakesPulse := ⟨hp, hw, hg⟩
    refine ⟨fun hk => ?_, fun hk hs => ?_⟩
    · have ha := pulseAction_unlocked s.params.stepEnable he hk
      cases hse : s.params.stepEnable with
      | true =>
        obtain ⟨t, hx, ht⟩ := h.stepped (by rw [ha, hse]; rfl) hf hl
        exact ⟨t, hx, ht.lock, ht.trim, ht.bigErrors, ht.lastStep, by rw [ht.port, if_neg hk],
          fun _ => ⟨ht.time, ht.slew, ht.lastStep, ht.slot⟩, nofun⟩
      | false =>
        obtain ⟨t, hx, ht⟩ := h.withheld (by rw [ha, hse]; rfl)
        exact ⟨t, hx, ht.lock, ht.trim, ht.bigErrors, ht.lastStep, by rw [ht.port, if_neg hk], nofun,
          fun _ => ⟨⟨ht.time, ht.isLong, ht.remaining, ht.slots⟩, ht.nextAt⟩⟩
    · have ha := pulseAction_longSlew s.params.stepEnable he hk hs
      cases hse : s.params.stepEnable with
      | true =>
        obtain ⟨t, hx, ht⟩ := h.stepped (by rw [ha, hse]; rfl) hf hl
        exact ⟨t, hx, ht.lock, ht.trim,
          fun _ => ⟨⟨ht.time, ht.slew, ht.lastStep, ht.slot⟩, ht.bigErrors, by rw [ht.port, if_pos hk]⟩, nofun⟩
      | false =>
        obtain ⟨hlong, hleft, hnext⟩ := Slew.retarget_long hs s.pulseError
        have ha' : pulseAction s.house s.params.stepEnable s.pulseError = .retarget := by rw [ha, hse]; rfl
        refine ⟨_, h.exec_of_ne_step ha' nofun, ?_⟩
        dsimp only [slewed]
        rw [State.pulsed_retarget_house, State.pulsed_quiet_port hk (.inr rfl)]
        exact ⟨rfl, rfl, nofun,
          fun _ => ⟨⟨rfl, hlong, hleft, (State.sameStreams_pulsed s _).slots⟩, hnext, rfl, rfl, rfl⟩⟩
  case closes =>
    intro s i m hp hw hk hs hb hse hg hf _ hl hrun hq hn hle target c htarget hm hreached hahead
    obtain ⟨m, rfl⟩ : ∃ k, m = k + 1 := ⟨m - 1, by omega⟩
    have h : s.TakesPulse := ⟨hp, hw, hg⟩
    have hpos : 10000 < s.pulseError := by
      change (10000 : Int) < (target : Int) - s.house.time
      omega
    have ha : pulseAction s.house s.params.stepEnable s.pulseError = .step := by
      rw [pulseAction_third _ (by omega) hk hs hb, hse]; rfl
    obtain ⟨htake, hclosed⟩ :=
      State.takePulse_over_closes ha (by omega) hf hl ⟨hrun, hq⟩ hn hle hreached hahead
    have k := State.sameStreams_pulsed s .step
    have hempty : (s.pulsed .step).RunsEmpty i := ⟨by rw [k.slot_eq, hrun], by rw [k.slot_eq, hq]⟩
    obtain ⟨hframe, hreleased, hdiscarded⟩ := hempty.slot_closeFrames m
    refine ⟨_, h.exec_eq, ?_⟩
    rw [htake, State.refreshAll_house, State.stepEvent_house, hclosed.house, State.pulsed_step_house,
      State.slot_refreshAll, State.slot_stepEvent]
    refine ⟨rfl, hclosed.runsEmpty.running, hclosed.fc.trans (by rw [k.slot_eq]), rfl, hframe.trans ?_, hreleased,
      hdiscarded, hclosed.lastReason.trans (by rw [k.slot_eq]), ?_, ?_, ?_, ?_, ?_, fun j hj => ?_⟩
    · rw [k.slot_eq]; rfl
    · rw [State.refreshAll_sumA, State.stepEvent_sumA, hclosed.sumA, k.sumA]
    · rw [State.refreshAll_sumB, State.stepEvent_sumB, hclosed.sumB, k.sumB]
    · rw [State.refreshAll_lanes, State.stepEvent_lanes, hclosed.lanes, k.lanes]
    · rw [State.slotCount, State.refreshAll_active, State.stepEvent_active, ← State.slotCount,
        hempty.framesClosed_closeFrames, k.slotCount_eq]
    · rw [State.refreshAll_port, State.stepEvent_port, hclosed.port, State.pulsed_believed_port s (.inl rfl), if_pos hk]
    · rw [State.slot_refreshAll, State.slot_stepEvent, hclosed.others j hj, k.slot_eq]

end Sys2Proof.Machine

/-!
PROOF. What any command can do to the priority ring, the due set and the hold set, and the two invariants of every step
that rest on it (chapter 3): O5, O7.
-/

namespace Sys2Proof.Machine

open Sys2Proof

/-! ## The arbiter's part of the state -/

/-- The priority ring, the due set and the hold set (3.1). -/
structure Arbiter where
  ring : List (Fin 16)
  due : Vector Bool 16
  held : Vector Bool 16

/-- The arbiter's part of a state. -/
def State.arbiter (s : State) : Arbiter := ⟨s.ring, s.due, s.held⟩

/-- A fact about the ring, the due set and the hold set that each way in which the part moves them keeps: a slot goes to
the lowest position of the ring (R49, R50), a slot that is not held enters the due set or any slot leaves it (R45), a slot
enters or leaves the hold set (R46, R47), CLEAR and power-on set them (R179, R183). -/
structure ArbiterLaw (P : Arbiter → Prop) : Prop where
  lowest : ∀ (x : Arbiter) (i : Fin 16), P x → P { x with ring := lowestOnRing x.ring i }
  setDue : ∀ (x : Arbiter) (i : Fin 16) (b : Bool), (x.held[i] = true → b = false) → P x →
    P { x with due := x.due.set i b }
  hold : ∀ (x : Arbiter) (i : Fin 16), P x → P { x with held := x.held.set i true, due := x.due.set i false }
  release : ∀ (x : Arbiter) (i : Fin 16), P x → P { x with held := x.held.set i false }
  empty : ∀ x : Arbiter, P x → P { x with due := Vector.replicate 16 false, held := Vector.replicate 16 false }
  reset : P State.reset.arbiter

/-! ## Operations that leave the arbiter's part alone -/

theorem arbiter_foldl {α : Type} (f : State → α → State) (h : ∀ s x, (f s x).arbiter = s.arbiter) (xs : List α)
    (s : State) : (xs.foldl f s).arbiter = s.arbiter :=
  foldl_keeps (fun t => t.arbiter = s.arbiter) f (fun t x ht => (h t x).trans ht) xs s rfl

@[simp] theorem State.arbiter_updPort (s : State) (f : Port → Port) : (s.updPort f).arbiter = s.arbiter := rfl
@[simp] theorem State.arbiter_updHouse (s : State) (f : House → House) : (s.updHouse f).arbiter = s.arbiter := rfl
@[simp] theorem State.arbiter_updParams (s : State) (f : Params → Params) : (s.updParams f).arbiter = s.arbiter := rfl
@[simp] theorem State.arbiter_updLane (s : State) (l : Fin 4) (f : Lane → Lane) :
    (s.updLane l f).arbiter = s.arbiter := rfl
@[simp] theorem State.arbiter_updAccount (s : State) (l : Fin 4) (f : Account → Account) :
    (s.updAccount l f).arbiter = s.arbiter := rfl
@[simp] theorem State.arbiter_updSlot (s : State) (i : Fin 16) (f : Slot → Slot) :
    (s.updSlot i f).arbiter = s.arbiter := rfl
@[simp] theorem State.arbiter_updPath (s : State) (p : PathId) (f : Path → Path) :
    (s.updPath p f).arbiter = s.arbiter := by
  cases p <;> rfl
@[simp] theorem State.arbiter_updPattern (s : State) (f : PatternSource → PatternSource) :
    (s.updPattern f).arbiter = s.arbiter := rfl
@[simp] theorem State.arbiter_countSlot (s : State) (i : Fin 16) (c : SlotCounter) (n : Nat) :
    (s.countSlot i c n).arbiter = s.arbiter := rfl
@[simp] theorem State.arbiter_countLane (s : State) (l : Fin 4) (c : LaneCounter) (n : Nat) :
    (s.countLane l c n).arbiter = s.arbiter := rfl
@[simp] theorem State.arbiter_countPath (s : State) (p : PathId) (c : PathCounter) (n : Nat) :
    (s.countPath p c n).arbiter = s.arbiter := rfl
@[simp] theorem State.arbiter_countPart (s : State) (c : PartCounter) (n : Nat) :
    (s.countPart c n).arbiter = s.arbiter := rfl
@[simp] theorem State.arbiter_latch (s : State) (c : Cause) : (s.latch c).arbiter = s.arbiter := rfl
@[simp] theorem State.arbiter_latchPath (s : State) (p : PathId) : (s.latchPath p).arbiter = s.arbiter := rfl

@[simp] theorem State.arbiter_adjustHouse (b : Bool) (s : State) : (adjustHouse b s).arbiter = s.arbiter := by
  cases b <;> rfl
@[simp] theorem State.arbiter_passNanosecond (s : State) : (passNanosecond s).arbiter = s.arbiter := by
  unfold passNanosecond
  dsimp only
  split <;> rfl

@[simp] theorem State.arbiter_refund (s : State) (l : Fin 4) (c : Nat) : (s.refund l c).arbiter = s.arbiter := by
  simp [State.arbiter]
@[simp] theorem State.arbiter_dropPacket (s : State) (l : Fin 4) (c : Nat) (k : LaneCounter) :
    (s.dropPacket l c k).arbiter = s.arbiter := by simp [State.arbiter]
@[simp] theorem State.arbiter_markTailFull (s : State) (i : Fin 16) : (s.markTailFull i).arbiter = s.arbiter := by
  simp [State.arbiter]
@[simp] theorem State.arbiter_queueLaneReady (s : State) (l : Fin 4) (n : Nat) :
    (s.queueLaneReady l n).arbiter = s.arbiter := rfl
@[simp] theorem State.arbiter_beginSend (s : State) (l : Fin 4) : (s.beginSend l).arbiter = s.arbiter := by
  simp [State.arbiter]
@[simp] theorem State.arbiter_takeBatch (s : State) (l : Fin 4) : (s.takeBatch l).arbiter = s.arbiter := by
  simp [State.arbiter]
@[simp] theorem State.arbiter_driveReady (s : State) (l : Fin 4) (v : Option Bool) :
    (s.driveReady l v).arbiter = s.arbiter := by cases v <;> rfl

/-- A record's sequence check moves its lane and the counters. -/
theorem State.arbiter_sequenced {s t : State} {l : Fin 4} {q : LaneSeq} (h : s.sequenced l q = some t) :
    t.arbiter = s.arbiter := by
  rw [State.sequenced_frame h]
  simp [State.arbiter]

theorem State.arbiter_takeOpen (s : State) (own : Owner) (o : OpenParams) (req : Option Nat) (reg : Option (Nat × Nat))
    (bad : Bool) : (s.takeOpen own o req reg bad).1.arbiter = s.arbiter := by
  rcases s.takeOpen_cases own o req reg bad with ⟨_, h⟩ | ⟨_, _, _, h⟩ | ⟨_, _, _, _, h⟩ | ⟨_, _, _, _, _, _, h⟩
  · rw [h]
  · rw [h]
  · rw [h]
  · rw [h]; rfl

@[simp] theorem State.arbiter_dispatchOpen (s : State) (l : Fin 4) (o : OpenParams) :
    (s.dispatchOpen l o).arbiter = s.arbiter := by
  unfold State.dispatchOpen
  split
  · exact s.arbiter_takeOpen ..
  · rfl

@[simp] theorem State.arbiter_formHead (s : State) (i : Fin 16) : (s.formHead i).arbiter = s.arbiter := by
  simp [State.arbiter]
@[simp] theorem State.arbiter_discardHead (s : State) (i : Fin 16) : (s.discardHead i).arbiter = s.arbiter := by
  simp [State.arbiter]
@[simp] theorem State.arbiter_closeFrame (s : State) (i : Fin 16) : (s.closeFrame i).arbiter = s.arbiter := by
  simp [State.arbiter]
@[simp] theorem State.arbiter_arm (s : State) (i : Fin 16) : (s.arm i).arbiter = s.arbiter := by simp [State.arbiter]
@[simp] theorem State.arbiter_fanOut (s : State) (v : Service) :
    (s.fanOut v).arbiter = s.arbiter := by simp [State.arbiter]

@[simp] theorem State.arbiter_takeStatus (s : State) (p : PathId) (bytes : List Byte) :
    (s.takeStatus p bytes).arbiter = s.arbiter := by simp [State.arbiter]
@[simp] theorem State.arbiter_serveLine (s : State) (p : PathId) : (s.serveLine p).arbiter = s.arbiter := by
  simp [State.arbiter]
@[simp] theorem State.arbiter_startProbing (s : State) (p : PathId) : (s.startProbing p).arbiter = s.arbiter := by
  simp [State.arbiter]
@[simp] theorem State.arbiter_enterProbing (s : State) (p : PathId) : (s.enterProbing p).arbiter = s.arbiter := by
  simp [State.arbiter]
@[simp] theorem State.arbiter_failPath (s : State) (p : PathId) (r : FailReason) :
    (s.failPath p r).arbiter = s.arbiter := by
  simp [State.arbiter]
@[simp] theorem State.arbiter_disablePath (s : State) (p : PathId) : (s.disablePath p).arbiter = s.arbiter := by
  simp [State.arbiter]
@[simp] theorem State.arbiter_restartPath (s : State) (p : PathId) : (s.restartPath p).arbiter = s.arbiter := by
  simp [State.arbiter]

@[simp] theorem State.arbiter_expireRepeat (s : State) (p : PathId) : (s.expireRepeat p).arbiter = s.arbiter := by
  unfold State.expireRepeat
  split
  · split <;> simp
  · simp

@[simp] theorem State.arbiter_startOwed (s : State) (p : PathId) : (s.startOwed p).arbiter = s.arbiter :=
  s.arbiter_updPath p _

@[simp] theorem State.arbiter_moduleAnswered (s : State) (p : PathId) (b : Bool) :
    (s.moduleAnswered p b).arbiter = s.arbiter := by
  cases b <;> simp [State.moduleAnswered]

@[simp] theorem State.arbiter_moduleRestarted (s : State) (p : PathId) : (s.moduleRestarted p).arbiter = s.arbiter := by
  unfold State.moduleRestarted
  dsimp only
  split
  · simp
  · split <;> simp

@[simp] theorem State.arbiter_missModule (s : State) (p : PathId) : (s.missModule p).arbiter = s.arbiter := by
  unfold State.missModule
  split
  · rfl
  · dsimp only; split <;> simp
  · simp

@[simp] theorem State.arbiter_unansweredPoll (s : State) (p : PathId) : (s.unansweredPoll p).arbiter = s.arbiter := by
  unfold State.unansweredPoll
  dsimp only
  split <;> simp

@[simp] theorem State.arbiter_takeMiss (s : State) : s.takeMiss.arbiter = s.arbiter := by simp [State.arbiter]
@[simp] theorem State.arbiter_takeMarker (s : State) : s.takeMarker.arbiter = s.arbiter := by simp [State.arbiter]
@[simp] theorem State.arbiter_takeTrim (s : State) : s.takeTrim.arbiter = s.arbiter := by simp [State.takeTrim]
@[simp] theorem State.arbiter_takeSlew (s : State) : s.takeSlew.arbiter = s.arbiter := by simp [State.takeSlew]

@[simp] theorem State.arbiter_applyPulse (s : State) (e : Int) (a : PulseAction) :
    (s.applyPulse e a).arbiter = s.arbiter := by
  cases a <;> rfl

@[simp] theorem State.arbiter_pulsed (s : State) (a : PulseAction) : (s.pulsed a).arbiter = s.arbiter := by
  have lock (t : State) : t.lockOnPulse.arbiter = t.arbiter := by simp [State.arbiter]
  have note (t : State) : t.notePulse.arbiter = t.arbiter := rfl
  unfold State.pulsed
  dsimp only
  split <;> simp [lock, note]

/-! ## Commands and writes that leave it alone -/

@[simp] theorem State.arbiter_finishCommand (code : Byte) (a : CommandAnswer) :
    (State.finishCommand code a).arbiter = a.1.arbiter := by
  rcases a with ⟨s, _ | _⟩ <;> rfl

@[simp] theorem State.arbiter_takeQuota (s : State) (o : Owner) (v : Nat) : (s.takeQuota o v).arbiter = s.arbiter := by
  cases o <;> rfl

@[simp] theorem State.arbiter_reloadQuota (s : State) (image : Params) (o : Owner) :
    (s.reloadQuota image o).arbiter = s.arbiter := by
  unfold State.reloadQuota
  split
  · rfl
  · simp

@[simp] theorem State.arbiter_reloadQuotas (s : State) (image : Params) :
    (s.reloadQuotas image).arbiter = s.arbiter := by
  unfold State.reloadQuotas
  split
  · rfl
  · simp only [State.arbiter_reloadQuota]
    exact arbiter_foldl _ (fun t l => t.arbiter_reloadQuota image (.lane l)) _ s

@[simp] theorem State.arbiter_followEnable (s : State) (p : PathId) : (s.followEnable p).arbiter = s.arbiter := by
  unfold State.followEnable
  split <;> simp

@[simp] theorem State.arbiter_followDisable (s : State) (p : PathId) : (s.followDisable p).arbiter = s.arbiter := by
  unfold State.followDisable
  split <;> simp

@[simp] theorem State.arbiter_followFlag (s : State) (p : PathId) : (s.followFlag p).arbiter = s.arbiter := by
  unfold State.followFlag
  split <;> simp

@[simp] theorem State.arbiter_reload (s : State) (image : Params) : (s.reload image).arbiter = s.arbiter := by
  simp [State.reload]

@[simp] theorem State.arbiter_endLong (s : State) (code : Byte) (r : Option RefusalCode) :
    (s.endLong code r).arbiter = s.arbiter := rfl

@[simp] theorem State.arbiter_finishRecall (s : State) : s.finishRecall.arbiter = s.arbiter := by
  unfold State.finishRecall
  dsimp only
  split <;> simp

@[simp] theorem State.arbiter_startPath (s : State) (p : PathId) : (s.startPath p).arbiter = s.arbiter := by
  unfold State.startPath
  split <;> simp

@[simp] theorem State.arbiter_clearQueues (s : State) : s.clearQueues.arbiter = s.arbiter := rfl

@[simp] theorem State.arbiter_finishLoad (s : State) : s.finishLoad.arbiter = s.arbiter := by
  have powered (t : State) : ({ t with power := .on } : State).arbiter = t.arbiter := rfl
  unfold State.finishLoad
  simp only [powered, State.arbiter_startPath, State.arbiter_takeQuota]
  refine (arbiter_foldl _ (fun t l => t.arbiter_takeQuota _ _) _ _).trans ?_
  rw [State.arbiter_clearQueues, apply_ite State.arbiter, State.arbiter_latch, ite_self]
  rfl

/-! ## Parameter rows (R173) -/

/-- What an item of a row does with a written value leaves the arbiter's part alone. -/
def ArbiterSafe (take : State → Nat → ItemAnswer) : Prop := ∀ s v, (take s v).1.arbiter = s.arbiter

theorem arbiterSafe_always (f : Params → Nat → Params) : ArbiterSafe (always f) := fun _ _ => rfl

theorem arbiterSafe_takeRate : ArbiterSafe takeRate := fun s v => by
  unfold takeRate
  split
  · rfl
  · split <;> rfl

theorem arbiterSafe_takeReserve : ArbiterSafe takeReserve := fun s v => by
  unfold takeReserve
  split <;> rfl

theorem arbiterSafe_takePulseSecond : ArbiterSafe takePulseSecond := fun _ _ => rfl

theorem arbiterSafe_takeQuotaItem (o : Owner) : ArbiterSafe (takeQuotaItem o) := fun s v => by
  unfold takeQuotaItem
  split
  · rfl
  · split
    · rfl
    · cases o
      · dsimp only; split <;> simp
      · simp

theorem arbiterSafe_takeSlotSelector : ArbiterSafe takeSlotSelector := fun s v => by
  unfold takeSlotSelector
  split <;> rfl

theorem arbiterSafe_takeGroupSelector : ArbiterSafe takeGroupSelector := fun s v => by
  unfold takeGroupSelector
  split <;> rfl

/-- Each of these items leaves the arbiter's part alone. -/
def RowSafe (items : List (State → ItemAnswer)) : Prop := ∀ f ∈ items, ∀ s, (f s).1.arbiter = s.arbiter

theorem RowSafe.cons {take : State → Nat → ItemAnswer} (h : ArbiterSafe take) {w : List (Nat × Byte)}
    {page off len : Nat} {items : List (State → ItemAnswer)} (hs : RowSafe items) :
    RowSafe ((fun s => s.takeItem w page off len take) :: items) := by
  refine List.forall_mem_cons.mpr ⟨fun s => ?_, hs⟩
  change (s.takeItem w page off len take).1.arbiter = s.arbiter
  unfold State.takeItem
  split
  · rfl
  · exact h ..

theorem RowSafe.one {take : State → Nat → ItemAnswer} (h : ArbiterSafe take) {w : List (Nat × Byte)}
    {page off len : Nat} : RowSafe [fun s => s.takeItem w page off len take] :=
  .cons h (List.forall_mem_nil _)

theorem RowSafe.byteRow {take : Nat → State → Nat → ItemAnswer} (h : ∀ k, ArbiterSafe (take k))
    {w : List (Nat × Byte)} {page off : Nat} : RowSafe (byteRow w page off take) := by
  intro f hf
  obtain ⟨k, _, rfl⟩ := List.mem_map.mp hf
  exact RowSafe.one (h k) _ (List.mem_singleton_self _)

theorem RowSafe.takeItems {items : List (State → ItemAnswer)} (h : RowSafe items) (s : State) :
    (takeItems s items).1.arbiter = s.arbiter := by
  induction items generalizing s with
  | nil => rfl
  | cons f fs ih =>
    obtain ⟨hf, hfs⟩ := List.forall_mem_cons.mp h
    exact (ih hfs _).trans (hf s)

/-- The items of the row a condition names, else those of the further rows. -/
theorem RowSafe.ite {c : Prop} [Decidable c] {row : List (State → ItemAnswer)}
    {others : Option (List (State → ItemAnswer))} (h : RowSafe row) (ho : ∀ items ∈ others, RowSafe items) :
    ∀ items ∈ (if c then some row else others), RowSafe items := by
  split
  · rintro _ ⟨⟩; exact h
  · exact ho

/-- Every item of every parameter row leaves the arbiter's part alone. -/
theorem rowItems_safe (w : List (Nat × Byte)) (page row : Nat) : ∀ items ∈ rowItems w page row, RowSafe items :=
  have param {f : Params → Nat → Params} : ArbiterSafe (always f) := arbiterSafe_always f
  .ite (.cons arbiterSafe_takeRate <| .cons arbiterSafe_takeReserve <| .cons param <| .cons param <| .one param)
    <| .ite (.byteRow fun _ => param) <| .ite (.byteRow fun _ => param) <| .ite (.one param) <| .ite (.one param)
    <| .ite (.one param) <| .ite (.one arbiterSafe_takePulseSecond) <| .ite (.cons param <| .cons param <| .one param)
    <| .ite (.byteRow fun _ => param) <| .ite (.byteRow fun _ => param) <| .ite (.one (arbiterSafe_takeQuotaItem _))
    <| .ite (.one (arbiterSafe_takeQuotaItem _)) <| .ite (.one arbiterSafe_takeSlotSelector)
    <| .ite (.one arbiterSafe_takeGroupSelector) fun _ h => nomatch h

@[simp] theorem State.arbiter_endRead (s : State) : s.endRead.arbiter = s.arbiter := rfl
@[simp] theorem State.arbiter_readOne (s : State) : s.readOne.arbiter = s.arbiter := by
  unfold State.readOne
  split <;> rfl

@[simp] theorem State.arbiter_readMany (s : State) (n : Nat) : (s.readMany n).arbiter = s.arbiter := by
  induction n generalizing s with
  | zero => rfl
  | succ n ih => exact (ih _).trans s.arbiter_readOne

@[simp] theorem State.arbiter_hostRead (s : State) (starts : Bool) (count : Nat) (ends : Bool) :
    (s.hostRead starts count ends).arbiter = s.arbiter := by
  unfold State.hostRead
  split
  · rfl
  · cases starts <;> cases ends <;> simp [State.beginRead]

/-! ## Every operation keeps an arbiter law -/

namespace ArbiterLaw

section

variable {P : Arbiter → Prop} (hP : ArbiterLaw P) {s : State} (h : P s.arbiter)
include hP h

theorem closeStream (i : Fin 16) (r : ClosureReason) (b : Bool) : P (s.closeStream i r b).arbiter := by
  have hc := hP.release _ i (hP.setDue _ i false (fun _ => rfl) h)
  simpa [State.arbiter] using hc

theorem closeIfDrained (i : Fin 16) : P (s.closeIfDrained i).arbiter := by
  rcases s.closeIfDrained_cases i with e | ⟨_, _, e⟩ <;> rw [e]
  · exact h
  · exact hP.closeStream h ..

theorem closeTests (i : Fin 16) (testIdle : Bool) : P (s.closeTests i testIdle).arbiter := by
  rcases s.closeTests_cases i testIdle with e | ⟨_, _, e⟩ | ⟨_, _, _, e⟩ <;> rw [e]
  · exact h
  · exact hP.closeStream h ..
  · exact hP.closeStream h ..

/-- The Pacer puts no held slot in the due set (R45). -/
theorem refreshDue (i : Fin 16) : P (s.refreshDue i).arbiter := hP.setDue _ i _ (s.isDue_of_held i) h

theorem refreshAll : P s.refreshAll.arbiter :=
  State.refresh_foldl_keeps (fun t => P t.arbiter) (fun _ i ht => hP.refreshDue ht i) allSlots s h

/-- A grant takes the slot out of the due set, and in AUTO mode to the lowest position of the ring (R49, R52). -/
theorem grantCore (i : Fin 16) (n : Nat) (rest : List Nat) (e : Entry) (hd : Head) :
    P (s.grantCore i n rest e hd).arbiter := by
  have hdue := hP.setDue _ i false (fun _ => rfl) h
  cases hm : s.ringMode with
  | auto => simpa [State.arbiter, State.grantCore_ring, hm] using hP.lowest _ i hdue
  | fixed => simpa [State.arbiter, State.grantCore_ring, hm] using hdue

theorem grant (i : Fin 16) (urgent : Bool) : P (s.grant i urgent).arbiter := by
  rcases s.grant_cases i urgent with e | ⟨n, rest, e, hd, _, _, _, hg⟩
  · rw [e]; exact h
  · rw [hg]
    refine hP.closeIfDrained (hP.refreshDue ?_ i) i
    have counted (t : State) (x y w : Bool) : (t.grantCounts i x y w).arbiter = t.arbiter := by simp [State.arbiter]
    rw [State.arbiter_formHead, counted]
    exact hP.grantCore h ..

theorem choice : P s.choice.arbiter := by
  rcases s.choice_cases with e | ⟨i, _, _, _, _, e⟩ | ⟨i, _, _, _, _, e⟩ <;> rw [e]
  · exact h
  · exact hP.grant h ..
  · exact hP.grant h ..

theorem settleSlot (i : Fin 16) : P (s.settleSlot i).arbiter := hP.choice (hP.refreshDue h i)

theorem endService : P s.endService.arbiter := by
  unfold State.endService
  split
  · exact h
  · exact hP.choice (by rwa [State.arbiter_fanOut])

omit hP in
theorem discardRun (i : Fin 16) (n : Nat) : P (s.discardRun i n).arbiter :=
  State.discardRun_keeps (fun t => P t.arbiter) i (fun t ht => by rwa [State.arbiter_discardHead]) n s h

theorem closeRun (i : Fin 16) (n : Nat) : P (s.closeRun i n).arbiter :=
  State.closeRun_keeps (fun t => P t.arbiter) i
    (fun t ht => hP.closeIfDrained (by rwa [State.arbiter_discardHead]) i)
    (fun t ht => hP.closeTests (by rwa [State.arbiter_closeFrame]) i true) n s h

theorem takePassed (i : Fin 16) : P (s.takePassed i).arbiter := by
  unfold State.takePassed
  split
  · rwa [State.arbiter_arm]
  · split
    · exact hP.closeIfDrained (by rwa [State.arbiter_discardHead]) i
    · exact hP.closeTests (by rwa [State.arbiter_closeFrame]) i false

theorem passRun (n : Nat) : P (s.passRun n).arbiter :=
  State.passRun_keeps (fun t => P t.arbiter) (fun _ i ht => hP.takePassed ht i) n s h

theorem afterForward : P s.afterForward.arbiter := by
  have hr : P ((s.passRun s.passFuel).stepEvent).refreshAll.arbiter := hP.refreshAll (hP.passRun h _)
  unfold State.afterForward
  dsimp only
  split
  · exact hP.endService hr
  · exact hP.choice hr

theorem afterBackward : P s.afterBackward.arbiter := hP.refreshAll (s := s.stepEvent) h

theorem takePulse : P s.takePulse.arbiter := by
  by_cases ha : pulseAction s.house s.params.stepEnable s.pulseError = .step
  · have hp : P (s.pulsed .step).arbiter := by rwa [State.arbiter_pulsed]
    rw [State.takePulse_of_step ha]
    split
    · exact hP.afterForward hp
    · exact hP.afterBackward hp
  · rw [State.takePulse_of_ne_step rfl ha, State.arbiter_pulsed]
    exact h

theorem pulse : P s.pulse.arbiter := by
  unfold State.pulse
  split
  · exact h
  · split
    · exact h
    · exact hP.takePulse h

/-! ## Lanes -/

theorem accept (n : Nat) (i : Fin 16) (o : Owner) (f k : Nat) (b : List Byte) (x y w : Bool) :
    P (s.accept n i o f k b x y w).arbiter := by
  have filled (g : ConditionFlags) : (s.fill n i o f k b g).arbiter = s.arbiter := by simp [State.arbiter]
  have flagged (t : State) (g : ConditionFlags) : (t.countFlags i g).arbiter = t.arbiter := by simp [State.arbiter]
  unfold State.accept
  dsimp only
  split
  · refine hP.settleSlot ?_ i
    rwa [State.arbiter_formHead, flagged, State.arbiter_updSlot, filled]
  · rwa [flagged, State.arbiter_updSlot, filled]

theorem applyVerdict (l : Fin 4) (i : Fin 16) (p : PacketRecord) (v : PacketVerdict) :
    P (s.applyVerdict l i p v).arbiter := by
  cases v with
  | accept n f => exact hP.accept (s := s.countLane l .accepted 1) h ..
  | _ => simpa [State.applyVerdict] using h

theorem dispatchPacket {l : Fin 4} {p : PacketRecord} {t : State} (ht : s.dispatchPacket l p = .next t) :
    P t.arbiter := by
  unfold State.dispatchPacket at ht
  dsimp only at ht
  split at ht
  · split at ht <;> cases ht
    exact hP.applyVerdict h ..
  · cases ht; exact h

theorem takeClose (i : Fin 16) (now : Bool) : P (s.takeClose i now).arbiter := by
  unfold State.takeClose
  split
  · exact h
  · exact hP.closeStream h ..
  · split
    · exact hP.closeStream h ..
    · exact hP.closeIfDrained (s := s.updSlot i _) h i
  · split
    · exact hP.closeStream h ..
    · exact h

theorem dispatchClose (l : Fin 4) (c : CloseRecord) : P (s.dispatchClose l c).arbiter := by
  unfold State.dispatchClose
  split
  · split
    · dsimp only
      split
      · exact hP.takeClose h ..
      · exact h
    · exact h
  · exact h

theorem closeLaneStreams (l : Fin 4) (b : Bool) : P (s.closeLaneStreams l b).arbiter :=
  foldl_keeps (fun t => P t.arbiter) _ (fun t i ht => by
    split
    · exact hP.closeStream ht ..
    · exact ht) allSlots s h

theorem resetLane (l : Fin 4) (b : Bool) : P (s.resetLane l b).arbiter := by
  unfold State.resetLane
  rw [State.arbiter_queueLaneReady, State.arbiter_updLane]
  exact hP.closeLaneStreams h l b

/-! ## The Pattern Source -/

theorem generateNext (i : Fin 16) : P (s.generateNext i).arbiter := by
  unfold State.generateNext
  dsimp only
  split
  · rw [State.arbiter_countPart, State.arbiter_updPattern, State.arbiter_countPart, State.arbiter_updPattern]
    exact h
  · split
    · rw [State.arbiter_countSlot, State.arbiter_updPattern, State.arbiter_countPart, State.arbiter_updPattern]
      exact h
    · refine hP.accept ?_ ..
      rw [State.arbiter_countPart, State.arbiter_updPattern, State.arbiter_countPart, State.arbiter_updPattern]
      exact h

theorem generate {i : Fin 16} {t : State} (ht : s.generate i = .next t) : P t.arbiter := by
  unfold State.generate at ht
  split at ht <;> cases ht
  exact hP.generateNext h i

omit h in
theorem resumed {t : State} (ht : P t.arbiter) : P (s.resumed t).arbiter :=
  State.resumed_keeps (fun u => P u.arbiter) (fun i _ hu _ _ => hP.generateNext hu i) s t ht

/-! ## Commands of the host -/

theorem clearStreams : P s.clearStreams.arbiter :=
  foldl_keeps (fun t => P t.arbiter) _ (fun t i ht => by
    split
    · exact hP.closeStream ht ..
    · exact ht) allSlots s h

/-- CLEAR empties the due set and the hold set (R102). -/
theorem clearCells : P s.clearCells.arbiter := by
  unfold State.clearCells
  dsimp only
  rw [arbiter_foldl _ fun t l => by rw [State.arbiter_queueLaneReady, State.arbiter_updLane]]
  exact hP.empty _ h

theorem clearAll : P s.clearAll.arbiter := by
  have path (t : State) (p : PathId) : (t.clearPath p).arbiter = t.arbiter := by
    unfold State.clearPath
    dsimp only
    split <;> simp
  have banks (t : State) : t.clearBanks.arbiter = t.arbiter := rfl
  rw [State.clearAll, banks, path, path]
  exact hP.clearCells (hP.clearStreams (s := s.clearQueues) h)

omit hP in
theorem withArgSlot {f : Fin 16 → CommandAnswer} (hf : ∀ i, P (f i).1.arbiter) : P (s.withArgSlot f).1.arbiter := by
  unfold State.withArgSlot
  split
  · exact hf _
  · exact h

omit hP in
theorem withArgPath {f : PathId → CommandAnswer} (hf : ∀ p, P (f p).1.arbiter) : P (s.withArgPath f).1.arbiter := by
  unfold State.withArgPath
  split
  · exact hf _
  · split
    · exact hf _
    · exact h

omit hP in
theorem beginLong (code : Byte) (c : LongCommand) : P (s.beginLong code c).arbiter := h

theorem cmdStreamHold : P (cmdStreamHold s).1.arbiter :=
  withArgSlot h fun i => by
    split
    · exact hP.hold _ i h
    · exact h

theorem cmdStreamUnhold : P (cmdStreamUnhold s).1.arbiter :=
  withArgSlot h fun i => by
    split
    · exact hP.settleSlot (s := { s with held := s.held.set i false }) (hP.release _ i h) i
    · exact h

theorem cmdStreamClose : P (cmdStreamClose s).1.arbiter :=
  withArgSlot h fun i => by
    split
    · exact hP.closeStream h ..
    · exact h

theorem cmdSetLowest : P (cmdSetLowest s).1.arbiter := withArgSlot h fun i => hP.lowest _ i h

omit hP in
theorem cmdRotationMode : P (cmdRotationMode s).1.arbiter := by
  unfold Machine.cmdRotationMode
  split
  · exact h
  · split <;> exact h

theorem cmdLaneReset : P (cmdLaneReset s).1.arbiter := by
  unfold Machine.cmdLaneReset
  split
  · exact hP.resetLane h ..
  · exact h

omit hP in
theorem cmdPathEnable : P (cmdPathEnable s).1.arbiter :=
  withArgPath h fun p => by rw [answerDone, State.arbiter_followEnable]; exact h

omit hP in
theorem cmdPathDisable : P (cmdPathDisable s).1.arbiter :=
  withArgPath h fun p => by rw [answerDone, State.arbiter_followDisable]; exact h

omit hP in
theorem cmdPathRestart : P (cmdPathRestart s).1.arbiter :=
  withArgPath h fun p => by
    split
    · exact h
    · rw [answerDone, State.arbiter_restartPath]; exact h

omit hP in
theorem cmdPatternOpen : P (cmdPatternOpen s).1.arbiter := by
  unfold Machine.cmdPatternOpen
  split
  · exact h
  · dsimp only
    generalize ht : s.takeOpen _ _ _ _ _ = a
    have ha : a.1.arbiter = s.arbiter := by rw [← ht]; exact s.arbiter_takeOpen ..
    rcases a with ⟨u, e | r⟩
    · exact ha ▸ h
    · exact ha ▸ h

theorem cmdPatternClose : P (cmdPatternClose s).1.arbiter := by
  unfold Machine.cmdPatternClose
  split
  · exact h
  · exact hP.closeStream h ..

theorem takeCommand (code : Byte) : P (s.takeCommand code).arbiter := by
  have ite {c : Prop} [Decidable c] {t u : State} (ht : P t.arbiter) (hu : P u.arbiter) :
      P (if c then t else u).arbiter := by split <;> assumption
  have done {a : CommandAnswer} (ha : P a.1.arbiter) : P (State.finishCommand code a).arbiter := by
    rwa [State.arbiter_finishCommand]
  exact ite h <| ite h <| ite (done (hP.clearAll h)) <| ite (beginLong h ..) <| ite (beginLong h ..)
    <| ite (done (cmdPathEnable h)) <| ite (done (cmdPathDisable h)) <| ite (done (cmdPathRestart h))
    <| ite (done (hP.cmdStreamHold h)) <| ite (done (hP.cmdStreamUnhold h)) <| ite (done (hP.cmdStreamClose h))
    <| ite (done (hP.cmdSetLowest h)) <| ite (done (cmdRotationMode h)) <| ite (done (hP.cmdLaneReset h))
    <| ite (done (cmdPatternOpen h)) <| ite (done (hP.cmdPatternClose h)) (done h)

/-! ## Transactions of the port -/

theorem putByte (b : Byte) : P (s.putByte b).arbiter := by
  refine hP.resumed ?_
  rw [State.arbiter_updPort]
  unfold State.byteEffect
  split
  · exact h
  · split
    · exact hP.takeCommand h b
    · split <;> exact h

theorem rowEvent (w : List (Nat × Byte)) (page row : Nat) : P (s.rowEvent w page row).arbiter := by
  unfold State.rowEvent
  split
  · rename_i items hi
    refine hP.resumed ?_
    rw [ItemAnswer.report, State.arbiter_updPort, (rowItems_safe w page row items hi).takeItems]
    exact h
  · split
    · split <;> exact h
    · split
      · exact h
      · split
        · split <;> exact h
        · exact h

theorem acceptWrite (bytes : List Byte) : P (s.acceptWrite bytes).arbiter := by
  unfold State.acceptWrite
  split
  · exact h
  · exact h
  · rename_i p o data
    have pointed : P ((s.takePage p).takeOffset o).arbiter := h
    cases data with
    | nil => exact pointed
    | cons b bs =>
      exact hP.rowEvent (foldl_keeps (fun t => P t.arbiter) _ (fun _ b ht => hP.putByte ht b) _ _ pointed) ..

theorem hostWrite (bytes : List Byte) : P (s.hostWrite bytes).arbiter := by
  unfold State.hostWrite
  split
  · exact h
  · exact hP.acceptWrite (s := s.endRead) h bytes

theorem writeAt (page off : Nat) (data : List Byte) : P (s.writeAt page off data).arbiter := by
  unfold State.writeAt
  split
  · exact h
  · exact hP.hostWrite h _

/-! ## Commands and steps -/

omit h in
/-- After power-on and after a loss of power the arbiter's part is that of `State.reset` (R179). -/
theorem powerUp : P s.powerUp.arbiter := hP.reset

omit hP in
/-- An event of the part keeps the law where it is due. -/
theorem whenDue {due : Bool} {f : State → State} {t : State} (ht : whenDue due f s = .next t) (hf : P (f s).arbiter) :
    P t.arbiter :=
  whenDue_keeps (fun u => P u.arbiter) h (fun _ _ => hf) ht

theorem whenDueResuming {due : Bool} {f : State → State} {t : State} (ht : whenDueResuming due f s = .next t)
    (hf : P (f s).arbiter) : P t.arbiter :=
  whenDue h ht (hP.resumed hf)

omit hP in
/-- An event that leaves the arbiter's part alone keeps the law. -/
theorem quietEvent {due : Bool} {f : State → State} {t : State} (ht : Machine.whenDue due f s = .next t)
    (hf : (f s).arbiter = s.arbiter) : P t.arbiter :=
  whenDue h ht (hf ▸ h)

theorem quietResuming {due : Bool} {f : State → State} {t : State} (ht : Machine.whenDueResuming due f s = .next t)
    (hf : (f s).arbiter = s.arbiter) : P t.arbiter :=
  hP.whenDueResuming h ht (hf ▸ h)

omit hP in
/-- A record of a lane, by its form, its sequence and what its dispatch does. -/
theorem record {l : Fin 4} {q : LaneSeq} {form : Bool} {f : State → Result} {t : State}
    (ht : (if !s.up then .next s else if !form then .next (s.badRecord l)
      else match s.sequenced l q with
        | none => .next (s.countLane l .stale 1)
        | some s => f s) = Host.Outcome.next t)
    (hf : ∀ u, P u.arbiter → f u = .next t → P t.arbiter) : P t.arbiter := by
  split at ht
  · cases ht; exact h
  · split at ht
    · cases ht; exact h
    · split at ht
      · cases ht; exact h
      · rename_i u hu
        exact hf u (by rwa [State.arbiter_sequenced hu]) ht

/-- Every command keeps an arbiter law. -/
theorem exec {c : Instr} {t : State} (ht : exec c s = .next t) : P t.arbiter := by
  have now {u : State} (e : Host.Outcome.next u = (.next t : Result)) (hu : P u.arbiter) : P t.arbiter := by
    cases e; exact hu
  unfold Machine.exec at ht
  cases c with
  | powerOn => exact now ht (by split; exacts [h, hP.powerUp])
  | powerOnLoad => exact now ht (by split; exacts [by rwa [State.arbiter_finishLoad], h])
  | powerFail => exact now ht (by split; exacts [hP.powerUp (s := s), h])
  | openRecord l bytes =>
    exact record h ht fun u hu e => now e (by rwa [State.arbiter_dispatchOpen])
  | packetRecord l bytes => exact record h ht fun u hu e => hP.dispatchPacket hu e
  | closeRecord l bytes => exact record h ht fun u hu e => now e (hP.resumed (hP.dispatchClose hu ..))
  | laneResetRecord l bytes =>
    change (if !s.up then _ else if !laneResetForm bytes then _ else _) = _ at ht
    split at ht
    · exact now ht h
    · split at ht
      · exact now ht h
      · exact now ht (hP.resumed (hP.resetLane (s := s.countLane l .records 1) h ..))
  | noticeSendBegin l ready =>
    refine quietEvent h ht ?_
    dsimp only
    split <;> simp
  | noticeSendComplete l => exact quietEvent h ht (by simp)
  | creditTimerExpiry l => exact quietEvent h ht (by simp)
  | creditBatch l => exact quietEvent h ht (by simp)
  | armingExpiry i => exact hP.whenDueResuming h ht (hP.settleSlot (by rwa [State.arbiter_arm]) i)
  | eligibilityInstant i => exact hP.whenDueResuming h ht (hP.settleSlot h i)
  | discardExpiry i =>
    exact hP.whenDueResuming h ht (hP.settleSlot (hP.closeIfDrained (discardRun h i _) i) i)
  | frameClose i => exact hP.whenDueResuming h ht (hP.settleSlot (hP.closeRun h i _) i)
  | endOfService => exact hP.whenDueResuming h ht (hP.endService h)
  | statusFrame p bytes => exact hP.quietResuming h ht (by simp)
  | silenceExpiry p => exact hP.quietResuming h ht (by simp)
  | holdoffExpiry p => exact quietEvent h ht (by simp)
  | repeatTimerExpiry p => exact hP.quietResuming h ht (by simp)
  | lineFrameEnd p => exact quietEvent h ht (by simp)
  | modulePoll p => exact quietEvent h ht (by simp)
  | moduleReadAnswer p indicator =>
    refine hP.quietResuming h ht ?_
    split <;> simp
  | moduleSettingsAnswer p => exact quietEvent h ht (by simp)
  | moduleClearAnswer p => exact quietEvent h ht (by simp)
  | pollUnanswered p => exact hP.quietResuming h ht (by simp)
  | referencePulse => exact hP.whenDueResuming h ht (hP.pulse h)
  | pulseMissExpiry => exact quietEvent h ht (by simp)
  | trimAdjustment => exact quietEvent h ht (by simp)
  | slewAdjustment => exact quietEvent h ht (by simp)
  | secondMarker => exact quietEvent h ht (by simp)
  | patternGeneration =>
    change execPatternGeneration s = _ at ht
    unfold execPatternGeneration at ht
    split at ht
    · exact now ht h
    · split at ht
      · exact hP.generate h ht
      · exact now ht h
  | storeEnd readsBack =>
    change execStoreEnd readsBack s = _ at ht
    unfold execStoreEnd at ht
    split at ht <;> exact now ht h
  | recallEnd =>
    change execRecallEnd s = _ at ht
    unfold execRecallEnd at ht
    split at ht
    · exact now ht (hP.resumed (by rwa [State.arbiter_finishRecall]))
    · exact now ht h
  | badCommand code => exact now ht (by split; exacts [hP.writeAt h .., h])
  | pathParameterWrite p x => cases x <;> exact now ht (hP.writeAt h ..)
  | repeatParameterWrite x => cases x <;> exact now ht (hP.writeAt h ..)
  | counterSelectorWrite page v => cases page <;> exact now ht (hP.writeAt h ..)
  | patternMemoryWrite v => exact now ht (by split; exacts [hP.putByte h v, h])
  | snapshotRead target starts count ends =>
    change execSnapshotRead target starts count ends s = _ at ht
    unfold execSnapshotRead at ht
    split at ht
    · exact now ht h
    · split at ht
      · exact now ht h
      · exact now ht (by rwa [State.arbiter_hostRead])
  | registerWrite target bytes =>
    change execRegisterWrite target bytes s = _ at ht
    unfold execRegisterWrite at ht
    split at ht
    · exact now ht h
    · split at ht
      · exact now ht (hP.hostWrite h bytes)
      · exact now ht h
  | _ => exact now ht (hP.writeAt h ..)

/-- Every step keeps an arbiter law. -/
theorem step {t : State} (ht : step s = .next t) : P t.arbiter := by
  unfold Machine.step at ht
  split at ht
  · cases ht
    rcases s.tick_cases with ⟨_, e⟩ | ⟨_, _, e⟩ | ⟨_, _, _, e⟩ <;> rw [e]
    · exact h
    · rwa [State.arbiter_passNanosecond]
    · exact h
  · rename_i c rest _
    exact hP.exec (s := { s with pending := rest }) h ht

end

end ArbiterLaw

/-! ## The invariants -/

/-- A ring of 16 places without repeats holds every slot (3.1). -/
theorem mem_of_ringWhole {ring : List (Fin 16)} (hl : ring.length = 16) (hn : ring.Nodup) (i : Fin 16) : i ∈ ring := by
  have hc : ring.toFinset.card = Fintype.card (Fin 16) := by simp [List.toFinset_card_of_nodup hn, hl]
  have hu := Finset.card_eq_iff_eq_univ _ |>.mp hc
  exact List.mem_toFinset.mp (hu ▸ Finset.mem_univ i)

theorem lowestOnRing_perm {ring : List (Fin 16)} (hn : ring.Nodup) {i : Fin 16} (hi : i ∈ ring) :
    (lowestOnRing ring i).Perm ring := by
  have he : (ring.filter fun x => decide (x ≠ i)) = ring.erase i := by
    rw [hn.erase_eq_filter]
    exact List.filter_congr fun x _ => by rw [Bool.eq_iff_iff]; simp
  rw [lowestOnRing, he]
  exact (List.perm_append_singleton i _).trans (List.perm_cons_erase hi).symm

theorem arbiterLaw_ringWhole : ArbiterLaw fun x => x.ring.length = 16 ∧ x.ring.Nodup where
  lowest x i h := by
    obtain ⟨hl, hn⟩ := h
    have hp := lowestOnRing_perm hn (mem_of_ringWhole hl hn i)
    exact ⟨hp.length_eq.trans hl, hp.nodup_iff.mpr hn⟩
  setDue _ _ _ _ h := h
  hold _ _ h := h
  release _ _ h := h
  empty _ h := h
  reset := by decide

/-- Reading a flag of a slot after the flag of a slot was set. -/
theorem getElem_set_slot (v : Vector Bool 16) (i j : Fin 16) (b : Bool) :
    (v.set i b)[j] = if j = i then b else v[j] := by
  by_cases h : j = i
  · subst h; simp
  · have : (i : Nat) ≠ j := fun e => h (Fin.ext e.symm)
    simp [h, this]

theorem arbiterLaw_heldNotDue : ArbiterLaw fun x => ∀ i : Fin 16, x.held[i] = true → x.due[i] = false where
  lowest _ _ h := h
  setDue x i b hb h j hj := by
    rw [getElem_set_slot]
    split
    · rename_i e; exact hb (e ▸ hj)
    · exact h j hj
  hold x i h j hj := by
    rw [getElem_set_slot] at hj ⊢
    split
    · rfl
    · rename_i e; exact h j (by simpa only [e, if_false] using hj)
  release x i h j hj := by
    rw [getElem_set_slot] at hj
    split at hj
    · contradiction
    · exact h j hj
  empty _ _ j hj := by simp
  reset := by decide

/-- Settles O5: a whole ring stays whole as a slot moves to its lowest position, and nothing else moves the ring. -/
theorem stepKeepsRingWhole : Obligations.StepKeepsRingWhole := fun _ _ hs ht => arbiterLaw_ringWhole.step hs ht

/-- Settles O7: a slot enters the due set only while it is not held, and it leaves the due set as it enters the
hold set. -/
theorem stepKeepsHeldSlotsOutOfDueSet : Obligations.StepKeepsHeldSlotsOutOfDueSet :=
  fun _ _ hs ht => arbiterLaw_heldNotDue.step hs ht

end Sys2Proof.Machine

/-!
PROOF. The choice of the launcher and the host's commands of the arbiter (chapter 3): O30, O51, O52.
-/

namespace Sys2Proof.Machine

open Sys2Proof

/-! ## Choices (R51) -/

/-- Settles O30: on the ring, the winner of a class is its first candidate. -/
theorem choiceTakesTheHighestOfItsClass : Obligations.ChoiceTakesTheHighestOfItsClass := by
  intro s i hl hdue pre post hring
  refine ⟨fun hu hpre => ?_, fun hnone hpre => ?_⟩
  · have hw : s.urgentWinner = some i :=
      List.find?_eq_some_iff_append.mpr ⟨by simp [hdue, hu], pre, post, hring, fun j hj => by
        cases hd : s.due[j] with
        | false => rfl
        | true => simp [hpre j hj hd]⟩
    simp [State.choice, hl, hw]
  · have hw : s.urgentWinner = none :=
      List.find?_eq_none.mpr fun j _ => by
        cases hd : s.due[j] with
        | false => simp
        | true => simp [hnone j hd]
    have hn : s.normalWinner = some i :=
      List.find?_eq_some_iff_append.mpr ⟨hdue, pre, post, hring, fun j hj => by simpa using hpre j hj⟩
    simp [State.choice, hl, hw, hn]

/-- While an entry is in service no choice is taken (R51). -/
theorem State.choice_of_busy {s : State} (h : s.launcher ≠ none) : s.choice = s := by
  unfold State.choice
  split
  · rfl
  · contradiction

/-! ## A code byte (R175) -/

/-- The port points at the code byte, as a write transaction to it has begun. -/
def State.atCode (s : State) : State := s.updPort fun q => q.wrote 1 0

@[simp] theorem State.atCode_page (s : State) : s.atCode.port.page = 1 := rfl
@[simp] theorem State.atCode_offset (s : State) : s.atCode.port.offset = 0 := rfl

/-- The end of a transaction that wrote the code byte alone takes no row item. -/
theorem State.rowEvent_command (s : State) (w : List (Nat × Byte)) : s.rowEvent w 1 0 = s := by
  simp [State.rowEvent, rowItems]

/-- A ready port takes the code byte: the command runs, and the pointer moves to offset 1. -/
theorem State.writeCode_ready {s : State} (h : s.hostReady) (code : Byte) :
    s.writeCode code =
      s.atCode.resumed ((s.atCode.takeCommand code).updPort fun q => { q with offset := 1 }) := by
  have hpoint :
      (s.updPort fun q => { q with page := 1, offset := 0, extension := false, reading := none }) = s.atCode := by
    rw [← h.2.2]
    rfl
  have hput : s.atCode.putByte code =
      s.atCode.resumed ((s.atCode.takeCommand code).updPort fun q => { q with offset := 1 }) := by
    have hbyte : s.atCode.byteEffect 1 0 code = s.atCode.takeCommand code := by
      simp [State.byteEffect, isPatternPage]
    rw [State.putByte, State.atCode_page, State.atCode_offset, hbyte]
    rfl
  rw [State.writeCode, State.writeAt_ready h 1 0 (by decide) (by decide), hpoint, ← hput]
  simp only [State.putData, List.foldl_cons, List.foldl_nil, State.atCode_page, State.atCode_offset, Nat.zero_div,
    State.rowEvent_command]

/-- The code byte names this command of the host. -/
def IsCommand (code : Byte) (cmd : State → CommandAnswer) : Prop :=
  ∀ s : State, s.port.busy = none → s.takeCommand code = State.finishCommand code (cmd s)

theorem isCommand_streamHold : IsCommand 0x20 cmdStreamHold := fun s hb => by simp [State.takeCommand, hb]
theorem isCommand_streamUnhold : IsCommand 0x21 cmdStreamUnhold := fun s hb => by simp [State.takeCommand, hb]
theorem isCommand_setLowest : IsCommand 0x23 cmdSetLowest := fun s hb => by simp [State.takeCommand, hb]
theorem isCommand_rotationMode : IsCommand 0x24 cmdRotationMode := fun s hb => by simp [State.takeCommand, hb]

/-- A command that is DONE and moves neither a slot nor the Pattern Source: the port answers, and no pattern stream goes
on. -/
theorem IsCommand.done {code : Byte} {cmd : State → CommandAnswer} (hcmd : IsCommand code cmd) {s t : State}
    (h : s.hostReady) (hc : cmd s.atCode = answerDone t.atCode) (hs : t.slots = s.slots) (hp : t.pattern = s.pattern)
    (hq : t.port = s.port) : s.writeCode code = { t with port := s.port.answered code } := by
  rw [State.writeCode_ready h, hcmd s.atCode h.2.1, hc, ← hq]
  exact State.resumed_same _ _ hs hp

/-- A command that is REFUSED changes nothing but what the port answers. -/
theorem IsCommand.refused {code : Byte} {cmd : State → CommandAnswer} (hcmd : IsCommand code cmd) {s : State}
    {e : RefusalCode} (h : s.hostReady) (hc : cmd s.atCode = answerRefused s.atCode e) :
    s.writeCode code = { s with port := s.port.refusedCommand code e } := by
  rw [State.writeCode_ready h, hcmd s.atCode h.2.1, hc]
  exact State.resumed_same _ _ rfl rfl

/-- The argument names a slot. -/
theorem State.withArgSlot_named {s : State} {i : Fin 16} (h : s.argIs i.val) (f : Fin 16 → CommandAnswer) :
    s.withArgSlot f = f i := by
  have hi : s.argByte < 16 := h ▸ i.isLt
  rw [State.withArgSlot, dif_pos hi]
  congr 1
  exact Fin.ext h

/-- The argument names no slot. -/
theorem State.withArgSlot_none {s : State} (h : 15 < s.argByte) (f : Fin 16 → CommandAnswer) :
    s.withArgSlot f = answerRefused s .badParam := dif_neg (by omega)

/-! ## Holding and releasing (R46, R47) -/

theorem SlotState.isOpen_of_ne_free {x : SlotState} (h : x ≠ .free) : x.isOpen = true := by
  cases x with
  | free => contradiction
  | _ => rfl

section

variable {s : State} {i : Fin 16} (ha : s.argIs i.val)
include ha

theorem cmdStreamHold_open (ho : (s.slot i).state ≠ .free) :
    cmdStreamHold s = answerDone { s with held := s.held.set i true, due := s.due.set i false } := by
  rw [cmdStreamHold, State.withArgSlot_named ha, if_pos (SlotState.isOpen_of_ne_free ho)]

theorem cmdStreamHold_free (hf : (s.slot i).state = .free) : cmdStreamHold s = answerRefused s .notOpen := by
  rw [cmdStreamHold, State.withArgSlot_named ha, hf]
  rfl

/-- A held slot leaves the hold set; while an entry is in service nothing is chosen, and its due flag follows R45. -/
theorem cmdStreamUnhold_held {b : Bool} (hl : s.launcher ≠ none) (hh : s.held[i] = true)
    (hb : ({ s with held := s.held.set i false } : State).isDue i = b) :
    cmdStreamUnhold s = answerDone { s with held := s.held.set i false, due := s.due.set i b } := by
  rw [cmdStreamUnhold, State.withArgSlot_named ha, if_pos hh, State.settleSlot, State.choice_of_busy (by exact hl),
    State.refreshDue, hb]

theorem cmdStreamUnhold_notHeld (hh : s.held[i] = false) : cmdStreamUnhold s = answerDone s := by
  rw [cmdStreamUnhold, State.withArgSlot_named ha, if_neg (by simp [hh])]

end

/-- An eligible head of a stream that is not held is due (R27, R45). -/
theorem State.isDue_of_eligible {s : State} {i : Fin 16} {hd : Head}
    (hr : (s.slot i).state = .running ∨ (s.slot i).state = .draining) (hh : s.held[i] = false)
    (hhd : (s.slot i).head = some hd) (hf : hd.frame = (s.slot i).fc) (he : hd.eligible ≤ s.now) :
    s.isDue i = true := by
  have hp : (s.slot i).state.isPaced = true := by rcases hr with h | h <;> rw [h] <;> rfl
  unfold State.isDue
  rw [hp, hh, hhd]
  simp [hf, he]

/-- Settles O51: what each command answers at the code byte, by its argument and the slot it names. -/
theorem hostHoldsAndReleasesStreams : Obligations.HostHoldsAndReleasesStreams := by
  refine ⟨fun s h => ⟨fun i ha ho => ?hold, fun i ha hf => ?free, fun ha => ?holdBad⟩,
    fun s h hl => ⟨fun i ha hh => ⟨fun hd hr hhd hf he => ?due, fun hn => ?quiet⟩, fun i ha hh => ?notHeld,
      fun ha => ?unholdBad⟩⟩
  case hold =>
    exact congrArg _ (isCommand_streamHold.done h (cmdStreamHold_open (s := s.atCode) ha ho)
      (t := { s with held := s.held.set i true, due := s.due.set i false }) rfl rfl rfl)
  case free =>
    exact congrArg _ (isCommand_streamHold.refused h (cmdStreamHold_free (s := s.atCode) ha hf))
  case holdBad =>
    exact congrArg _ (isCommand_streamHold.refused h (State.withArgSlot_none (s := s.atCode) ha _))
  case due =>
    have hdue : ({ s.atCode with held := s.atCode.held.set i false } : State).isDue i = true :=
      State.isDue_of_eligible hr (Vector.getElem_set_self _) hhd hf he
    exact congrArg _ (isCommand_streamUnhold.done h (cmdStreamUnhold_held (s := s.atCode) ha hl hh hdue)
      (t := { s with held := s.held.set i false, due := s.due.set i true }) rfl rfl rfl)
  case quiet =>
    have hdue : ({ s.atCode with held := s.atCode.held.set i false } : State).isDue i = false :=
      State.isDue_of_no_head hn
    exact congrArg _ (isCommand_streamUnhold.done h (cmdStreamUnhold_held (s := s.atCode) ha hl hh hdue)
      (t := { s with held := s.held.set i false, due := s.due.set i false }) rfl rfl rfl)
  case notHeld =>
    exact congrArg _
      (isCommand_streamUnhold.done (t := s) h (cmdStreamUnhold_notHeld (s := s.atCode) ha hh) rfl rfl rfl)
  case unholdBad =>
    exact congrArg _ (isCommand_streamUnhold.refused h (State.withArgSlot_none (s := s.atCode) ha _))

/-! ## The ring (R50) -/

theorem cmdSetLowest_named {s : State} {i : Fin 16} (ha : s.argIs i.val) :
    cmdSetLowest s = answerDone { s with ring := lowestOnRing s.ring i } := State.withArgSlot_named ha _

theorem cmdRotationMode_auto {s : State} (ha : s.argByte = 0) :
    cmdRotationMode s = answerDone { s with ringMode := .auto } := if_pos ha

theorem cmdRotationMode_fixed {s : State} (ha : s.argByte = 1) :
    cmdRotationMode s = answerDone { s with ringMode := .fixed } := by
  rw [cmdRotationMode, if_neg (by omega), if_pos ha]

theorem cmdRotationMode_bad {s : State} (ha : 1 < s.argByte) : cmdRotationMode s = answerRefused s .badParam := by
  rw [cmdRotationMode, if_neg (by omega), if_neg (by omega)]

/-- Settles O52: what each command answers at the code byte, by its argument. -/
theorem ringCommandsSetTheRing : Obligations.RingCommandsSetTheRing := by
  refine fun s h => ⟨fun i ha => ?lowest, fun ha => ?noSlot, fun ha => ?auto, fun ha => ?fixed, fun ha => ?noMode⟩
  case lowest =>
    exact congrArg _ (isCommand_setLowest.done h (cmdSetLowest_named (s := s.atCode) ha)
      (t := { s with ring := lowestOnRing s.ring i }) rfl rfl rfl)
  case noSlot => exact congrArg _ (isCommand_setLowest.refused h (State.withArgSlot_none (s := s.atCode) ha _))
  case auto =>
    exact congrArg _ (isCommand_rotationMode.done h (cmdRotationMode_auto (s := s.atCode) ha)
      (t := { s with ringMode := .auto }) rfl rfl rfl)
  case fixed =>
    exact congrArg _ (isCommand_rotationMode.done h (cmdRotationMode_fixed (s := s.atCode) ha)
      (t := { s with ringMode := .fixed }) rfl rfl rfl)
  case noMode => exact congrArg _ (isCommand_rotationMode.refused h (cmdRotationMode_bad (s := s.atCode) ha))

end Sys2Proof.Machine

/-!
PROOF. The end of service: what each path of the fan-out set does with the entry, and what becomes of the entry
(chapter 3): O33.
-/

namespace Sys2Proof.Machine

open Sys2Proof

/-! ## What a path does with the entry (R112) -/

/-- The path takes the entry into its window: SENDING, with an empty backlog and room (R112). -/
structure Path.Sends (x : Path) : Prop where
  sending : x.state = .sending
  backlog : x.backlog = []
  window : x.window.length < 1024

/-- The path does not take the entry into its window, though it is in use: not SENDING, or with no room (R112). -/
structure Path.Holds (x : Path) : Prop where
  inUse : x.state.isSending = true
  full : x.state = .sending → 1024 ≤ x.window.length

/-- The path with the entry at the tail of its window (R112). -/
def Path.joined (x : Path) (v : Service) : Path :=
  { x with window := x.window ++ [⟨v.entry, x.nextSeq, v.tag, 0⟩], nextSeq := x.nextSeq + 1 }

/-- The path with the entry at the tail of its backlog (R112). -/
def Path.queued (x : Path) (v : Service) : Path := { x with backlog := x.backlog ++ [⟨v.entry, v.tag⟩] }

theorem State.takeEntry_sends {s : State} {p : PathId} (h : (s.path p).Sends) (v : Service) :
    s.takeEntry p v.entry v.tag = (s.updPath p fun x => x.joined v, some (.window p)) := by
  unfold State.takeEntry
  simp only [h.sending, h.backlog, h.window, and_self, if_true]
  rfl

theorem State.takeEntry_waits {s : State} {p : PathId} (h : (s.path p).Holds) (hb : (s.path p).backlog.length < 256)
    (v : Service) : s.takeEntry p v.entry v.tag = (s.updPath p fun x => x.queued v, some (.backlog p)) := by
  rcases s.takeEntry_cases p v.entry v.tag with ⟨hs, _, hw, _⟩ | ⟨_, _, e⟩ | ⟨_, hf, _⟩ | ⟨hd, _⟩
  · exact absurd (h.full hs) (Nat.not_le.mpr hw)
  · exact e
  · exact absurd hb (Nat.not_lt.mpr hf)
  · exact absurd h.inUse (by simp [hd])

theorem State.takeEntry_shedFull {s : State} {p : PathId} (h : (s.path p).Holds)
    (hb : 256 ≤ (s.path p).backlog.length) (v : Service) :
    s.takeEntry p v.entry v.tag = (s.countPath p .shedFull 1, none) := by
  rcases s.takeEntry_cases p v.entry v.tag with ⟨hs, _, hw, _⟩ | ⟨_, hl, _⟩ | ⟨_, _, e⟩ | ⟨hd, _⟩
  · exact absurd (h.full hs) (Nat.not_le.mpr hw)
  · exact absurd hb (Nat.not_le.mpr hl)
  · exact e
  · exact absurd h.inUse (by simp [hd])

theorem State.takeEntry_shedDown {s : State} {p : PathId} (h : (s.path p).state.isSending = false) (v : Service) :
    s.takeEntry p v.entry v.tag = (s.countPath p .shedDown 1, none) := by
  rcases s.takeEntry_cases p v.entry v.tag with ⟨hs, _, _, _⟩ | ⟨hu, _, _⟩ | ⟨hu, _, _⟩ | ⟨_, e⟩
  · rw [hs] at h; contradiction
  · exact absurd hu (by simp [h])
  · exact absurd hu (by simp [h])
  · exact e

/-! ## What a path does after the hand-over (R109, R113) -/

/-- A path that goes on with nothing: its line is not free for a frame, and its backlog has nowhere to drain. -/
structure Path.Rests (x : Path) : Prop where
  line : x.line ≠ .fill ∨ x.state = .disabled ∨ x.state = .failed
  backlog : x.state = .sending → x.backlog = [] ∨ 1024 ≤ x.window.length

/-- A backlog with nothing in it, or with no room before it, does not drain (R113). -/
theorem State.drain_of_rests {s : State} {p : PathId}
    (h : (s.path p).state = .sending → (s.path p).backlog = [] ∨ 1024 ≤ (s.path p).window.length) :
    s.drain p = s := by
  unfold State.drain
  split
  · rename_i hs
    cases hb : (s.path p).backlog with
    | nil => rfl
    | cons b bs =>
      have hw : ¬ (s.path p).window.length < Config.windowLimit := by
        rcases h hs with hn | hw
        · rw [hb] at hn; contradiction
        · exact Nat.not_lt.mpr hw
      simp [State.drainMoves, hw]
  · rfl

theorem State.goOn_of_rests {s : State} {p : PathId} (h : (s.path p).Rests) (fan : PathSet) : s.goOn p fan = s := by
  unfold State.goOn
  split
  · rw [State.drain_of_rests h.backlog]
    rcases h.line with hl | hd
    · exact s.serveLine_busy p hl
    · exact s.serveLine_down p hd
  · rfl

/-! ## The hand-over (R54, R97) -/

/-- The launcher is free, and the entry of the service has these holders. -/
def State.handed (s : State) (v : Service) (h : Holders) : State :=
  { s with
    launcher := none
    entries := s.entries.map fun x => if x.number = v.entry then { x with holders := h } else x }

/-- One path: it takes the entry or sheds it, the holders change, the launcher becomes free, the path goes on. -/
theorem State.fanOut_only {s t : State} {v : Service} {p : PathId} {h : Option Holder} (hv : v.fanOut = PathSet.only p)
    (ht : s.takeEntry p v.entry v.tag = (t, h)) :
    s.fanOut v = ({ t.replaceService v.entry h none with launcher := none } : State).goOn p v.fanOut := by
  cases p with
  | a => simp [State.fanOut, State.handTo, hv, PathSet.only, PathSet.has, ht, State.goOn]
  | b =>
    simp [State.fanOut, State.handTo, hv, PathSet.only, PathSet.has, ht, State.goOn]
    rfl

/-- An entry that has a holder left keeps its place, without SERVICE (R97). -/
theorem State.replaceService_kept {s : State} {v : Service} {e : Entry} {ha hb : Option Holder} {h : Holders}
    (he : s.entry? v.entry = some e) (hh : ((e.holders.put .service false).add ha).add hb = h)
    (hk : h.isEmpty = false) :
    ({ s.replaceService v.entry ha hb with launcher := none } : State) = s.handed v h := by
  unfold State.replaceService
  simp only [he, hh, hk]
  rfl

@[simp] theorem State.path_handed (s : State) (v : Service) (h : Holders) (p : PathId) :
    (s.handed v h).path p = s.path p := by cases p <;> rfl

/-- The entry of the service with its new holders. -/
theorem State.entry_handed {s : State} {v : Service} {e : Entry} (he : s.entry? v.entry = some e) (h : Holders) :
    (s.handed v h).entry? v.entry = some { e with holders := h } := by
  have hn : e.number = v.entry := by simpa using List.find?_some he
  have hf : ((fun x : Entry => decide (x.number = v.entry)) ∘ fun x =>
      if x.number = v.entry then { x with holders := h } else x) = fun x => decide (x.number = v.entry) := by
    funext x
    dsimp only [Function.comp]
    split <;> rfl
  rw [State.entry?, State.handed, List.find?_map, hf, ← State.entry?, he, Option.map_some, if_pos hn]

/-- One path that takes the entry, or leaves it another holder, and then rests. -/
theorem State.fanOut_only_rests {s t : State} {v : Service} {p : PathId} {e : Entry} {x : Option Holder} {h : Holders}
    (hv : v.fanOut = PathSet.only p) (ht : s.takeEntry p v.entry v.tag = (t, x)) (he : t.entry? v.entry = some e)
    (hh : (e.holders.put .service false).add x = h) (hk : h.isEmpty = false) (hr : (t.path p).Rests) :
    s.fanOut v = t.handed v h := by
  rw [State.fanOut_only hv ht, State.replaceService_kept (ha := x) (hb := none) he hh hk]
  exact State.goOn_of_rests (by rwa [State.path_handed]) _

/-- Both paths take or shed the entry, A first, and then rest. -/
theorem State.fanOut_both_rest {s t u : State} {v : Service} {e : Entry} {x y : Option Holder} {h : Holders}
    (hv : v.fanOut = ⟨true, true⟩) (ht : s.takeEntry .a v.entry v.tag = (t, x))
    (hu : t.takeEntry .b v.entry v.tag = (u, y)) (he : u.entry? v.entry = some e)
    (hh : ((e.holders.put .service false).add x).add y = h) (hk : h.isEmpty = false)
    (ha : (u.path .a).Rests) (hb : (u.path .b).Rests) : s.fanOut v = u.handed v h := by
  have hs : s.fanOut v =
      (({ u.replaceService v.entry x y with launcher := none } : State).goOn .a v.fanOut).goOn .b v.fanOut := by
    simp [State.fanOut, State.handTo, hv, PathSet.has, ht, hu]
  have ra : ((u.handed v h).path .a).Rests := by rwa [State.path_handed]
  have rb : ((u.handed v h).path .b).Rests := by rwa [State.path_handed]
  rw [hs, State.replaceService_kept he hh hk, State.goOn_of_rests ra, State.goOn_of_rests rb]

/-- The end of service, with no slot due for the choice after it (R54). -/
theorem exec_endOfService {s : State} {v : Service} (hp : s.power ≠ .off) (hl : s.launcher = some v)
    (hb : v.busyUntil ≤ s.now) (hd : ∀ j : Fin 16, s.due[j] = false) :
    exec .endOfService s = .next (s.resumed (s.fanOut v)) := by
  have hover : s.serviceOver = true := by simp [State.serviceOver, hl, hb]
  have hend : s.endService = s.fanOut v := by
    simp only [State.endService, hl]
    exact State.choice_of_none_due fun j => by rw [State.fanOut_due]; exact hd j
  change whenDueResuming s.serviceOver State.endService s = _
  rw [hover, whenDueResuming_taken _ hp, hend]

/-- A path that has sent what its window held, with a free line, sends the entry that has just joined (R110). -/
theorem State.goOn_sends {s : State} {p : PathId} {fan : PathSet} {w : WindowPlace} (hf : fan.has p = true)
    (hs : (s.path p).state = .sending) (hb : (s.path p).backlog = []) (hl : (s.path p).line = .fill)
    (hw : ((s.path p).window.find? fun w => decide (w.seq = (s.path p).sentThrough + 1)) = some w) :
    s.goOn p fan =
      ((s.updPath p fun x => { x with sentThrough := x.sentThrough + 1 }).countPath p .dataSent 1).beginData p w := by
  have hi : (s.path p).idleLine = true := decide_eq_true hl
  rw [State.goOn, if_pos hf, State.drain_of_rests fun _ => .inl hb, State.serveLine, if_pos hi]
  simp only [hs, State.serveSending, hw]

theorem Path.Sends.rests {x : Path} (h : x.Sends) (hl : x.line ≠ .fill) (v : Service) : (x.joined v).Rests :=
  ⟨.inl hl, fun _ => .inl h.backlog⟩

theorem Path.Holds.rests {x : Path} (h : x.Holds) (hl : x.line ≠ .fill) (v : Service) : (x.queued v).Rests :=
  ⟨.inl hl, fun hs => .inr (h.full hs)⟩

theorem Path.Holds.rests_shed {x : Path} (h : x.Holds)
    (hl : x.line ≠ .fill ∨ x.state = .disabled ∨ x.state = .failed) : x.Rests := ⟨hl, fun hs => .inr (h.full hs)⟩

theorem Path.rests_down {x : Path} (h : x.state.isSending = false)
    (hl : x.line ≠ .fill ∨ x.state = .disabled ∨ x.state = .failed) : x.Rests :=
  ⟨hl, fun hs => by rw [hs] at h; contradiction⟩

theorem State.handed_updPath (s : State) (v : Service) (p : PathId) (f : Path → Path) (h : Holders) :
    (s.updPath p f).handed v h = (s.handed v h).updPath p f := by cases p <;> rfl

@[simp] theorem Holders.put_isEmpty (h : Holders) (x : Holder) : (h.put x true).isEmpty = false := by
  rcases x with _ | _ | p | p
  case window => cases p <;> simp [Holders.put, Holders.isEmpty]
  case backlog => cases p <;> simp [Holders.put, Holders.isEmpty]
  all_goals simp [Holders.put, Holders.isEmpty]

/-- The entry that every path has shed is freed (R100, R106). -/
theorem State.fanOut_only_freed {s t : State} {v : Service} {p : PathId} {e : Entry} (hv : v.fanOut = PathSet.only p)
    (ht : s.takeEntry p v.entry v.tag = (t, none)) (he : t.entry? v.entry = some e)
    (hk : (e.holders.put .service false).isEmpty = true) (hr : (t.path p).Rests) :
    s.fanOut v = { t.freeOne e .freedShed with launcher := none } := by
  have hfree : t.replaceService v.entry none none = t.freeOne e .freedShed := by
    unfold State.replaceService
    simp [he, Holders.add, hk]
  have hpath : ({ t.freeOne e .freedShed with launcher := none } : State).path p = t.path p := by
    cases p <;> simp [State.path]
  rw [State.fanOut_only hv ht, hfree]
  exact State.goOn_of_rests (by rwa [hpath]) _

/-- A free moves the entries, the lanes' accounts, the Pattern Source and the count of its cause. -/
theorem State.freeOne_eq (s : State) (e : Entry) (c : PartCounter) :
    s.freeOne e c =
      { s with
        entries := s.entries.filter fun x => decide (x.number ≠ e.number)
        lanes := (s.freeOne e c).lanes
        pattern := (s.freeOne e c).pattern
        active := (s.countPart c 1).active } := by
  rcases e with ⟨_, _, _ | _⟩ <;> rfl

/-- The freed cells become pending credit of an owner lane (R68, R100). -/
theorem State.freeOne_lane (s : State) (e : Entry) (c : PartCounter) (l : Fin 4) :
    (s.freeOne e c).lane l =
      if e.owner = .lane l then { s.lane l with account := (s.lane l).account.addPending e.cells.length s.now }
      else s.lane l := by
  cases ho : e.owner with
  | pattern => simp [State.freeOne, State.returnCells, ho, State.lane]
  | lane m =>
    simp only [State.freeOne, State.returnCells, ho, State.lane_countPart, State.lane_updPattern, State.updAccount,
      Owner.lane.injEq]
    split
    · rename_i h
      subst h
      rw [State.lane_updLane]
      rfl
    · rename_i h
      rw [State.lane_updLane_ne _ _ _ _ fun hl => h hl.symm]
      rfl

/-- The freed cells of a pattern packet are outstanding credit at once, and an entry pause ends (R167, R170). -/
theorem State.freeOne_pattern (s : State) (e : Entry) (c : PartCounter) :
    (s.freeOne e c).pattern =
      { s.pattern with
        waitEntry := false
        outstanding := s.pattern.outstanding + (if e.owner = .pattern then e.cells.length else 0) } := by
  cases ho : e.owner <;> simp [State.freeOne, State.returnCells, ho]

/-- A path with a free line and nothing unsent takes the entry and sends it at once (R110): the frame lasts the wire time
of its payload (R109). -/
theorem State.fanOut_only_first {s : State} {v : Service} {p : PathId} {e : Entry} (hv : v.fanOut = PathSet.only p)
    (hs : (s.path p).Sends) (hl : (s.path p).line = .fill) (hseq : (s.path p).nextSeq = (s.path p).sentThrough + 1)
    (hnew : ∀ w ∈ (s.path p).window, w.seq ≠ (s.path p).nextSeq) (he : s.entry? v.entry = some e) :
    s.fanOut v =
      ((s.handed v ((e.holders.put .service false).put (.window p) true)).countPath p .dataSent 1).updPath p fun x =>
        { x.joined v with
          sentThrough := x.sentThrough + 1
          line := .data ⟨v.entry, x.nextSeq, v.tag, 0⟩ (s.elapsed + wireTime s.params.rate e.payload) } := by
  generalize hh : (e.holders.put .service false).put (.window p) true = h
  have hk : h.isEmpty = false := hh ▸ Holders.put_isEmpty ..
  have hfan : s.fanOut v = ((s.handed v h).updPath p fun x => x.joined v).goOn p v.fanOut := by
    rw [State.fanOut_only hv (State.takeEntry_sends hs v),
      State.replaceService_kept (ha := some (.window p)) (hb := none) (e := e) (by simpa using he) hh hk,
      State.handed_updPath]
  have hpath : ((s.handed v h).updPath p fun x => x.joined v).path p = (s.path p).joined v := by simp
  have hfirst : (((s.path p).joined v).window.find? fun w => decide (w.seq = ((s.path p).joined v).sentThrough + 1)) =
      some ⟨v.entry, (s.path p).nextSeq, v.tag, 0⟩ := by
    have hold : ((s.path p).window.find? fun w => decide (w.seq = (s.path p).nextSeq)) = none :=
      List.find?_eq_none.mpr fun w hw => by simpa using hnew w hw
    change ((s.path p).window ++ [_]).find? (fun w : WindowPlace => decide (w.seq = (s.path p).sentThrough + 1)) = _
    rw [← hseq, List.find?_append, hold]
    simp
  have hsends : v.fanOut.has p = true := by rw [hv]; cases p <;> rfl
  rw [hfan, State.goOn_sends hsends (by rw [hpath]; exact hs.sending) (by rw [hpath]; exact hs.backlog)
    (by rw [hpath]; exact hl) (by rw [hpath]; exact hfirst), State.beginData]
  simp only [State.entry_countPath, State.entry_updPath, State.entry_handed he, Option.map_some, Option.getD_some]
  cases p <;> rfl

/-- Settles O33: what the paths of the fan-out set take or shed fixes the holders left, and with none left the entry is
freed. -/
theorem endOfServiceEntersTheWindow : Obligations.EndOfServiceEntersTheWindow := by
  intro s v e hp hl hb hd he sends waits sheds joined queued handed rest
  have hexec := exec_endOfService hp hl hb hd
  have quiet {t : State} (ht : s.fanOut v = t) (hpat : t.pattern = s.pattern) : exec .endOfService s = .next t := by
    rw [hexec, State.resumed_same _ _ (State.fanOut_slots s v) (by rw [ht, hpat]), ht]
  have toSends {x : Path} : sends x → x.Sends := fun ⟨hstate, hbacklog, hroom⟩ => ⟨hstate, hbacklog, hroom⟩
  have toHolds {x : Path} : waits x → x.Holds ∧ x.backlog.length < 256 :=
    fun ⟨hin, hfull, hroom⟩ => ⟨⟨hin, hfull⟩, hroom⟩
  refine ⟨fun p hv => ⟨fun hs hline => ?sends, fun hs hline hseq hnew => ?first, fun hw hline => ?waits,
    fun counter hc hline => ?sheds⟩, fun hv hs hline => ?both⟩
  case sends =>
    have hfan := State.fanOut_only_rests hv (State.takeEntry_sends (toSends hs) v) (by simpa using he) rfl
      (Holders.put_isEmpty ..) (by rw [State.path_updPath]; exact (toSends hs).rests hline v)
    exact quiet (hfan.trans (State.handed_updPath ..)) (by cases p <;> rfl)
  case first =>
    exact quiet (State.fanOut_only_first hv (toSends hs) hline hseq hnew he) (by cases p <;> rfl)
  case waits =>
    obtain ⟨hh, hroom⟩ := toHolds hw
    have hfan := State.fanOut_only_rests hv (State.takeEntry_waits hh hroom v) (by simpa using he) rfl
      (Holders.put_isEmpty ..) (by rw [State.path_updPath]; exact hh.rests hline v)
    exact quiet (hfan.trans (State.handed_updPath ..)) (by cases p <;> rfl)
  case sheds =>
    have hshed : s.takeEntry p v.entry v.tag = (s.countPath p counter 1, none) ∧ (s.path p).Rests := by
      rcases hc with ⟨rfl, hin, hfull, hlen⟩ | ⟨rfl, hdown⟩
      · have hh : (s.path p).Holds := ⟨hin, hfull⟩
        exact ⟨State.takeEntry_shedFull hh hlen v, hh.rests_shed hline⟩
      · exact ⟨State.takeEntry_shedDown hdown v, Path.rests_down hdown hline⟩
    obtain ⟨htake, hrests⟩ := hshed
    have hr : ((s.countPath p counter 1).path p).Rests := by rwa [State.path_countPath]
    refine ⟨fun hk => ?_, fun hk => ?_⟩
    · exact quiet (State.fanOut_only_rests hv htake he rfl hk hr) rfl
    · have hn : e.number = v.entry := by simpa using List.find?_some he
      rw [State.fanOut_only_freed hv htake he hk hr] at hexec
      refine ⟨_, hexec, ?_, (s.countPath p counter 1).freeOne_lane e .freedShed,
        (s.countPath p counter 1).freeOne_pattern e .freedShed⟩
      rw [State.freeOne_eq, hn]
      rfl
  case both =>
    have htakeA := State.takeEntry_sends (p := .a) (toSends hs) v
    have hrestsA := (toSends hs).rests hline v
    refine ⟨fun hsb hlb => ?_, fun hwb hlb => ?_, fun hdb => ?_⟩
    · have htakeB := State.takeEntry_sends (s := s.updPath .a fun x => x.joined v) (p := .b) (toSends hsb) v
      exact quiet (State.fanOut_both_rest hv htakeA htakeB he rfl (Holders.put_isEmpty ..) hrestsA
        ((toSends hsb).rests hlb v)) rfl
    · obtain ⟨hh, hroom⟩ := toHolds hwb
      have htakeB := State.takeEntry_waits (s := s.updPath .a fun x => x.joined v) (p := .b) hh hroom v
      exact quiet (State.fanOut_both_rest hv htakeA htakeB he rfl (Holders.put_isEmpty ..) hrestsA
        (hh.rests hlb v)) rfl
    · have hdown : s.pathB.state.isSending = false := by
        rcases hdb with h | h <;> rw [h] <;> rfl
      have htakeB := State.takeEntry_shedDown (s := s.updPath .a fun x => x.joined v) (p := .b) hdown v
      exact quiet (State.fanOut_both_rest hv htakeA htakeB he rfl (Holders.put_isEmpty ..) hrestsA
        (Path.rests_down hdown (.inr hdb))) rfl

end Sys2Proof.Machine

/-!
PROOF. What any command does to the lengths of the notice queues, the windows and the backlogs, and the limits that every
step keeps (chapters 4 and 7): O6.
-/

namespace Sys2Proof.Machine

open Sys2Proof

/-! ## The notice queue of a lane -/

/-- An account is no part of a notice queue. -/
@[simp] theorem State.queue_updAccount (s : State) (l m : Fin 4) (f : Account → Account) :
    ((s.updAccount l f).lane m).queue = (s.lane m).queue := by
  by_cases h : m = l
  · subst h; simp
  · rw [State.updAccount, State.lane_updLane_ne s l m _ h]

@[simp] theorem State.queue_freeOne (s : State) (e : Entry) (c : PartCounter) (m : Fin 4) :
    ((s.freeOne e c).lane m).queue = (s.lane m).queue := by rw [State.lane_freeOne]

@[simp] theorem State.queue_dropHolder (s : State) (n : Nat) (x : Holder) (c : PartCounter) (m : Fin 4) :
    ((s.dropHolder n x c).lane m).queue = (s.lane m).queue := by rw [State.lane_dropHolder]

@[simp] theorem State.queue_dropAll (s : State) (x : Holder) (c : PartCounter) (ns : List Nat) (m : Fin 4) :
    ((s.dropAll x c ns).lane m).queue = (s.lane m).queue := by rw [State.lane_dropAll]

/-- A filling takes credit of its owner account, and no notice. -/
@[simp] theorem State.queue_fill (s : State) (n : Nat) (i : Fin 16) (o : Owner) (f k : Nat) (b : List Byte)
    (g : ConditionFlags) (m : Fin 4) : ((s.fill n i o f k b g).lane m).queue = (s.lane m).queue := by
  cases o with
  | lane l =>
    have hl : (s.fill n i (.lane l) f k b g).lanes =
        (s.updAccount l fun a => { a with outstanding := a.outstanding - cellsFor b.length }).lanes := rfl
    rw [State.lane, hl]
    exact s.queue_updAccount ..
  | pattern => rfl

/-- A refund moves credit, and no notice. -/
@[simp] theorem State.queue_refund (s : State) (l m : Fin 4) (c : Nat) :
    ((s.refund l c).lane m).queue = (s.lane m).queue := by
  unfold State.refund
  split
  · exact s.queue_updAccount ..
  · rfl

/-- A notice that joins a lane's queue adds one to that queue and to no other. -/
theorem State.queueNotice_length_le (s : State) (l m : Fin 4) (t : Notice) :
    ((s.queueNotice l t).lane m).queue.length ≤ (s.lane m).queue.length + 1 := by
  by_cases h : m = l
  · subst h; simp
  · rw [State.lane_queueNotice_ne s l m t h]; omega

/-- LANE READY adds one notice to its lane's queue at most. -/
theorem State.queueLaneReady_length_le (s : State) (l m : Fin 4) (n : Nat) :
    ((s.queueLaneReady l n).lane m).queue.length ≤ (s.lane m).queue.length + 1 := by
  by_cases h : m = l
  · subst h
    simpa using List.length_filter_le _ _
  · rw [State.lane_queueLaneReady_ne s l m n h]; omega

/-- A closure adds one notice to a queue at most: its CLOSED. -/
theorem State.closeStream_length_le (s : State) (i : Fin 16) (r : ClosureReason) (b : Bool) (m : Fin 4) :
    ((s.closeStream i r b).lane m).queue.length ≤ (s.lane m).queue.length + 1 := by
  have hoffer (t : State) (l : Fin 4) (x : Notice) :
      ((t.offerClosed l x).lane m).queue.length ≤ (t.lane m).queue.length + 1 := by
    unfold State.offerClosed
    split
    · exact t.queueNotice_length_le ..
    · by_cases h : m = l
      · subst h; simp
      · simp [State.lane_updLane_ne t l m _ h]
  have hcore : ((s.closeCore i r).lane m).queue.length ≤ (s.lane m).queue.length + 1 := by
    have hdrop (t : State) (ht : t.lanes = (s.dropAll .queued .freedUnlaunched (s.slot i).queue).lanes) :
        (t.lane m).queue.length = (s.lane m).queue.length := by
      rw [State.lane, ht]
      exact congrArg List.length (s.queue_dropAll ..)
    unfold State.closeCore
    dsimp only
    split
    · split
      · exact (hdrop _ rfl).le.trans (Nat.le_succ _)
      · exact (hoffer _ _ _).trans (Nat.succ_le_succ (hdrop _ rfl).le)
    · exact (hdrop _ rfl).le.trans (Nat.le_succ _)
  rw [State.closeStream_eq]
  split <;> exact hcore

/-- Steps that each add one notice to a queue at most. -/
theorem queue_foldl_length_le {α : Type} (m : Fin 4) (f : State → α → State)
    (hf : ∀ s x, ((f s x).lane m).queue.length ≤ (s.lane m).queue.length + 1) (xs : List α) (s : State) :
    ((xs.foldl f s).lane m).queue.length ≤ (s.lane m).queue.length + xs.length := by
  induction xs generalizing s with
  | nil => exact Nat.le_refl _
  | cons x xs ih =>
    have := ih (f s x)
    have := hf s x
    simp only [List.foldl_cons, List.length_cons]
    omega

/-- CLEAR's closures leave the path senders alone. -/
theorem State.clearStreams_paths {s : State} : s.clearStreams.pathA = s.pathA ∧ s.clearStreams.pathB = s.pathB :=
  foldl_keeps (fun t => t.pathA = s.pathA ∧ t.pathB = s.pathB) _ (fun t i ht => by split <;> simpa using ht) allSlots s
    ⟨rfl, rfl⟩

/-- CLEAR closes sixteen streams at most, each with a notice at most. -/
theorem State.clearStreams_queue_length (s : State) (l : Fin 4) :
    (s.clearStreams.lane l).queue.length ≤ (s.lane l).queue.length + 16 :=
  queue_foldl_length_le l _ (fun t i => by
    split
    · exact t.closeStream_length_le ..
    · omega) allSlots s

theorem State.clearCells_paths {s : State} : s.clearCells.pathA = s.pathA ∧ s.clearCells.pathB = s.pathB :=
  foldl_keeps (fun t => t.pathA = s.pathA ∧ t.pathB = s.pathB) _ (fun t l ht => by simpa using ht) allLanes _ ⟨rfl, rfl⟩

/-- LANE READY of CLEAR adds one notice to each of the four lanes. -/
theorem State.clearCells_queue_length (s : State) (l : Fin 4) :
    (s.clearCells.lane l).queue.length ≤ (s.lane l).queue.length + 4 := by
  refine queue_foldl_length_le l _ (fun t m => ?_) allLanes _
  refine (State.queueLaneReady_length_le ..).trans (Nat.succ_le_succ ?_)
  exact (congrArg List.length (t.queue_updAccount m l fun _ => Account.atQuota t.params.laneQuota[m])).le

/-- A lane with room, or with a CREDIT to remove, is within the limit after LANE READY (R70, R71). -/
theorem Lane.readyRoom_length {x : Lane} (h : (x.hasRoom || x.hasCredit) = true)
    (hq : x.queue.length ≤ Config.noticeLimit) (n : Nat) :
    ((x.queue.filter fun t : Notice => !t.isCredit) ++ [Notice.laneReady n]).length ≤ Config.noticeLimit := by
  rw [List.length_append, List.length_singleton]
  have hle : (x.queue.filter fun t => !t.isCredit).length ≤ x.queue.length := List.length_filter_le _ _
  rcases Bool.or_eq_true_iff.mp h with hr | hc
  · have : x.queue.length < Config.noticeLimit := of_decide_eq_true hr
    omega
  · obtain ⟨t, ht, hcr⟩ := List.any_eq_true.mp hc
    have : (x.queue.filter fun t => !t.isCredit).length < x.queue.length :=
      List.length_filter_lt_length_iff_exists.mpr ⟨t, ht, by simp [hcr]⟩
    omega

/-- A pulse before its step leaves the path senders alone. -/
theorem State.applyPulse_paths (s : State) (e : Int) (a : PulseAction) :
    (s.applyPulse e a).pathA = s.pathA ∧ (s.applyPulse e a).pathB = s.pathB := by
  cases a <;> simp [State.applyPulse]

theorem State.pulsed_paths (s : State) (a : PulseAction) :
    (s.pulsed a).pathA = s.pathA ∧ (s.pulsed a).pathB = s.pathB := by
  have hp := s.notePulse.applyPulse_paths s.pulseError a
  unfold State.pulsed
  dsimp only
  split <;> simpa using hp

/-! ## Quotas -/

@[simp] theorem State.takeQuota_pathA (s : State) (o : Owner) (v : Nat) : (s.takeQuota o v).pathA = s.pathA := by
  cases o <;> rfl

@[simp] theorem State.takeQuota_pathB (s : State) (o : Owner) (v : Nat) : (s.takeQuota o v).pathB = s.pathB := by
  cases o <;> rfl

/-- A lane's quota leaves every other lane as it is. -/
theorem State.lane_takeQuota_ne (s : State) {l m : Fin 4} (h : m ≠ l) (v : Nat) :
    (s.takeQuota (.lane l) v).lane m = s.lane m :=
  (State.lane_queueLaneReady_ne _ l m v h).trans (State.lane_updLane_ne _ l m _ h)

/-- A quota is announced in one notice at most (R70). -/
theorem State.takeQuota_length_le (s : State) (o : Owner) (v : Nat) (m : Fin 4) :
    ((s.takeQuota o v).lane m).queue.length ≤ (s.lane m).queue.length + 1 := by
  cases o with
  | lane l =>
    refine (State.queueLaneReady_length_le ..).trans (Nat.succ_le_succ ?_)
    exact (congrArg List.length (State.queue_updAccount (s.updParams _) l m fun _ => Account.atQuota v)).le
  | pattern => exact Nat.le_succ _

/-- The reload of a lane's quota leaves another lane's room as it is. -/
theorem State.readyRoom_reloadQuota_ne (s : State) (image : Params) {l m : Fin 4} (h : m ≠ l) :
    (s.reloadQuota image (.lane l)).readyRoom m = s.readyRoom m := by
  unfold State.reloadQuota
  split
  · rfl
  · rw [State.readyRoom, State.lane_takeQuota_ne s h, State.readyRoom]

/-- The reload of a lane's quota leaves another lane's quota as it is. -/
theorem State.laneQuota_reloadQuota_ne (s : State) (image : Params) {l m : Fin 4} (h : m ≠ l) :
    (s.reloadQuota image (.lane l)).params.laneQuota[m] = s.params.laneQuota[m] := by
  unfold State.reloadQuota
  split
  · rfl
  · exact Vector.getElem_set_ne l.isLt m.isLt fun e => h (Fin.ext e.symm)

/-! ## The items of a parameter row (R173) -/

/-- What the items of the parameter rows do with a written value. -/
inductive IsItemTake : (State → Nat → ItemAnswer) → Prop where
  | param (f : Params → Nat → Params) : IsItemTake (always f)
  | rate : IsItemTake takeRate
  | reserve : IsItemTake takeReserve
  | pulseSecond : IsItemTake takePulseSecond
  | quota (o : Owner) : IsItemTake (takeQuotaItem o)
  | slotSelector : IsItemTake takeSlotSelector
  | groupSelector : IsItemTake takeGroupSelector

/-- Each of these items does what an item of a parameter row can do, with a value that `w` has written. -/
def IsItemRow (w : List (Nat × Byte)) (items : List (State → ItemAnswer)) : Prop :=
  ∀ f ∈ items, ∃ page off len take, IsItemTake take ∧ f = fun s => s.takeItem w page off len take

section

variable {w : List (Nat × Byte)} {page off len : Nat}

theorem IsItemRow.cons {take : State → Nat → ItemAnswer} (h : IsItemTake take) {items : List (State → ItemAnswer)}
    (hs : IsItemRow w items) : IsItemRow w ((fun s => s.takeItem w page off len take) :: items) :=
  List.forall_mem_cons.mpr ⟨⟨page, off, len, take, h, rfl⟩, hs⟩

theorem IsItemRow.one {take : State → Nat → ItemAnswer} (h : IsItemTake take) :
    IsItemRow w [fun s => s.takeItem w page off len take] :=
  .cons h (List.forall_mem_nil _)

theorem IsItemRow.byteRow {take : Nat → State → Nat → ItemAnswer} (h : ∀ k, IsItemTake (take k)) :
    IsItemRow w (byteRow w page off take) := fun f hf => by
  obtain ⟨k, _, rfl⟩ := List.mem_map.mp hf
  exact ⟨page, off + k, 1, take k, h k, rfl⟩

/-- The items of the row a condition names, else those of the further rows. -/
theorem IsItemRow.ite {c : Prop} [Decidable c] {row : List (State → ItemAnswer)}
    {others : Option (List (State → ItemAnswer))} (h : IsItemRow w row) (ho : ∀ items ∈ others, IsItemRow w items) :
    ∀ items ∈ (if c then some row else others), IsItemRow w items := by
  split
  · rintro _ ⟨⟩; exact h
  · exact ho

end

/-- What the items of any parameter row can do. -/
theorem rowItems_isItemRow (w : List (Nat × Byte)) (page row : Nat) :
    ∀ items ∈ rowItems w page row, IsItemRow w items :=
  have param {f : Params → Nat → Params} : IsItemTake (always f) := .param f
  .ite (.cons .rate <| .cons .reserve <| .cons param <| .cons param <| .one param)
    <| .ite (.byteRow fun _ => param) <| .ite (.byteRow fun _ => param) <| .ite (.one param) <| .ite (.one param)
    <| .ite (.one param) <| .ite (.one .pulseSecond) <| .ite (.cons param <| .cons param <| .one param)
    <| .ite (.byteRow fun _ => param) <| .ite (.byteRow fun _ => param) <| .ite (.one (.quota _))
    <| .ite (.one (.quota _)) <| .ite (.one .slotSelector) <| .ite (.one .groupSelector) fun _ h => nomatch h

/-! ## A record that arrives -/

/-- A record of a lane: not taken before the part is up (R179), dropped for its form (R61) or its sequence (R62), or
dispatched. -/
def State.takeRecord (s : State) (l : Fin 4) (form : Bool) (q : LaneSeq) (f : State → Result) : Result :=
  if !s.up then .next s
  else if !form then .next (s.badRecord l)
  else
    match s.sequenced l q with
    | none => .next (s.countLane l .stale 1)
    | some u => f u

theorem exec_openRecord (l : Fin 4) (bytes : List Byte) (s : State) :
    exec (.openRecord l bytes) s =
      s.takeRecord l (openForm bytes) (recordSeq bytes) fun u => .next (u.dispatchOpen l (parseOpen (bytes.drop 8))) := by
  rfl

theorem exec_packetRecord (l : Fin 4) (bytes : List Byte) (s : State) :
    exec (.packetRecord l bytes) s =
      s.takeRecord l (packetForm bytes) (recordSeq bytes) fun u => u.dispatchPacket l (parsePacket bytes) := by
  rfl

theorem exec_closeRecord (l : Fin 4) (bytes : List Byte) (s : State) :
    exec (.closeRecord l bytes) s =
      s.takeRecord l (closeForm bytes) (recordSeq bytes) fun u =>
        .next (s.resumed (u.dispatchClose l (parseClose bytes))) := by
  rfl

/-- A LANE RESET record is taken whatever its sequence (R67). -/
theorem exec_laneResetRecord (l : Fin 4) (bytes : List Byte) (s : State) :
    exec (.laneResetRecord l bytes) s =
      .next (if !s.up then s else if !laneResetForm bytes then s.badRecord l
        else s.resumed ((s.countLane l .records 1).resetLane l true)) := by
  change (if !s.up then _ else if !laneResetForm bytes then _ else _) = _
  split
  · rfl
  · split <;> rfl

/-! ## The limits from one state to another -/

/-- From `s` to `t` each notice queue, window and backlog that was within its limit stays within it (R71, R108, R112). -/
structure State.KeepsLimits (s t : State) : Prop where
  notices : ∀ l : Fin 4, (s.lane l).queue.length ≤ Config.noticeLimit → (t.lane l).queue.length ≤ Config.noticeLimit
  window : ∀ p : PathId, (s.path p).window.length ≤ Config.windowLimit → (t.path p).window.length ≤ Config.windowLimit
  backlog : ∀ p : PathId,
    (s.path p).backlog.length ≤ Config.backlogLimit → (t.path p).backlog.length ≤ Config.backlogLimit

namespace State.KeepsLimits

theorem refl (s : State) : s.KeepsLimits s := ⟨fun _ h => h, fun _ h => h, fun _ h => h⟩

theorem ite {s t u : State} {c : Prop} [Decidable c] (ht : s.KeepsLimits t) (hu : s.KeepsLimits u) :
    s.KeepsLimits (if c then t else u) := by
  split
  · exact ht
  · exact hu

section

variable {s t : State} (h : s.KeepsLimits t)
include h

/-- A change that leaves the path senders alone and each notice queue within the limit. -/
theorem ofLanes {u : State} (hp : u.pathA = t.pathA ∧ u.pathB = t.pathB)
    (hq : ∀ l : Fin 4, (t.lane l).queue.length ≤ Config.noticeLimit → (u.lane l).queue.length ≤ Config.noticeLimit) :
    s.KeepsLimits u := by
  have path (p : PathId) : u.path p = t.path p := by
    obtain ⟨ha, hb⟩ := hp
    cases p
    · exact ha
    · exact hb
  exact ⟨fun l hl => hq l (h.notices l hl), fun p hl => path p ▸ h.window p hl, fun p hl => path p ▸ h.backlog p hl⟩

/-- A change that leaves the notice queues and the path senders alone. -/
theorem quiet {u : State} (hp : u.pathA = t.pathA ∧ u.pathB = t.pathB)
    (hq : ∀ l : Fin 4, (u.lane l).queue = (t.lane l).queue) : s.KeepsLimits u :=
  h.ofLanes hp fun l hl => (hq l).symm ▸ hl

theorem same {u : State} (hu : u.lanes = t.lanes ∧ u.pathA = t.pathA ∧ u.pathB = t.pathB) : s.KeepsLimits u := by
  obtain ⟨hl, hp⟩ := hu
  exact h.quiet hp fun l => by rw [State.lane, hl, State.lane]

/-- A change of one path sender that leaves its window and its backlog within their limits. -/
theorem updPath (p : PathId) (f : Path → Path)
    (hw : (t.path p).window.length ≤ Config.windowLimit → (f (t.path p)).window.length ≤ Config.windowLimit)
    (hb : (t.path p).backlog.length ≤ Config.backlogLimit → (f (t.path p)).backlog.length ≤ Config.backlogLimit) :
    s.KeepsLimits (t.updPath p f) := by
  have other (q : PathId) (hq : q ≠ p) : (t.updPath p f).path q = t.path q := by
    cases p with
    | a => cases q with
      | a => contradiction
      | b => rfl
    | b => cases q with
      | a => rfl
      | b => contradiction
  refine ⟨fun l hl => by simpa using h.notices l hl, fun q hl => ?_, fun q hl => ?_⟩
  · by_cases hq : q = p
    · subst hq; simpa using hw (h.window q hl)
    · rw [other q hq]; exact h.window q hl
  · by_cases hq : q = p
    · subst hq; simpa using hb (h.backlog q hl)
    · rw [other q hq]; exact h.backlog q hl

/-- A change of one path sender that leaves its window and its backlog alone. -/
theorem touchPath (p : PathId) (f : Path → Path) (hw : (f (t.path p)).window = (t.path p).window)
    (hb : (f (t.path p)).backlog = (t.path p).backlog) : s.KeepsLimits (t.updPath p f) :=
  h.updPath p f (fun x => hw.symm ▸ x) (fun x => hb.symm ▸ x)

theorem countSlot (i : Fin 16) (c : SlotCounter) (n : Nat) : s.KeepsLimits (t.countSlot i c n) := h.same ⟨rfl, rfl, rfl⟩

theorem countLane (l : Fin 4) (c : LaneCounter) (n : Nat) : s.KeepsLimits (t.countLane l c n) := h.same ⟨rfl, rfl, rfl⟩

theorem countPath (p : PathId) (c : PathCounter) (n : Nat) : s.KeepsLimits (t.countPath p c n) := h.same ⟨rfl, rfl, rfl⟩

theorem countPart (c : PartCounter) (n : Nat) : s.KeepsLimits (t.countPart c n) := h.same ⟨rfl, rfl, rfl⟩

theorem latch (c : Cause) : s.KeepsLimits (t.latch c) := h.same ⟨rfl, rfl, rfl⟩

theorem latchPath (p : PathId) : s.KeepsLimits (t.latchPath p) := h.same ⟨rfl, rfl, rfl⟩

theorem updPort (f : Port → Port) : s.KeepsLimits (t.updPort f) := h.same ⟨rfl, rfl, rfl⟩

theorem updParams (f : Params → Params) : s.KeepsLimits (t.updParams f) := h.same ⟨rfl, rfl, rfl⟩

theorem updHouse (f : House → House) : s.KeepsLimits (t.updHouse f) := h.same ⟨rfl, rfl, rfl⟩

theorem updPattern (f : PatternSource → PatternSource) : s.KeepsLimits (t.updPattern f) := h.same ⟨rfl, rfl, rfl⟩

/-! ## Entries, streams and the arbiter -/

theorem dropAll (x : Holder) (c : PartCounter) (ns : List Nat) : s.KeepsLimits (t.dropAll x c ns) :=
  h.quiet (by simp) (by simp)

theorem closeStream (i : Fin 16) (r : ClosureReason) (b : Bool) : s.KeepsLimits (t.closeStream i r b) :=
  h.ofLanes (by simp) fun l hl => t.closeStream_queue_length i r b l hl

theorem closeIfDrained (i : Fin 16) : s.KeepsLimits (t.closeIfDrained i) := by
  rcases t.closeIfDrained_cases i with e | ⟨_, _, e⟩ <;> rw [e]
  · exact h
  · exact h.closeStream ..

theorem closeTests (i : Fin 16) (testIdle : Bool) : s.KeepsLimits (t.closeTests i testIdle) := by
  rcases t.closeTests_cases i testIdle with e | ⟨_, _, e⟩ | ⟨_, _, _, e⟩ <;> rw [e]
  · exact h
  · exact h.closeStream ..
  · exact h.closeStream ..

theorem formHead (i : Fin 16) : s.KeepsLimits (t.formHead i) := h.same (by simp)

theorem refreshDue (i : Fin 16) : s.KeepsLimits (t.refreshDue i) := h.same (by simp)

theorem discardHead (i : Fin 16) : s.KeepsLimits (t.discardHead i) := by
  refine h.quiet (by simp) fun l => ?_
  unfold State.discardHead
  split
  · rfl
  · simp

theorem closeFrame (i : Fin 16) : s.KeepsLimits (t.closeFrame i) :=
  h.quiet (by simp) fun l => by simp [State.closeFrame]

theorem grant (i : Fin 16) (urgent : Bool) : s.KeepsLimits (t.grant i urgent) := by
  rcases t.grant_cases i urgent with e | ⟨n, rest, e, hd, _, _, _, hg⟩
  · rw [e]; exact h
  · rw [hg]
    have counted : s.KeepsLimits ((t.grantCore i n rest e hd).grantCounts i
        (decide (8 ≤ latenessIndex (t.now - hd.scheduled))) urgent (t.slot i).intake.pendingSkipped) := h.same (by simp)
    exact ((counted.formHead i).refreshDue i).closeIfDrained i

theorem choice : s.KeepsLimits t.choice := by
  rcases t.choice_cases with e | ⟨i, _, _, _, _, e⟩ | ⟨i, _, _, _, _, e⟩ <;> rw [e]
  · exact h
  · exact h.grant ..
  · exact h.grant ..

theorem settleSlot (i : Fin 16) : s.KeepsLimits (t.settleSlot i) := (h.refreshDue i).choice

theorem arm (i : Fin 16) : s.KeepsLimits (t.arm i) := h.same (by simp)

theorem discardRun (i : Fin 16) (n : Nat) : s.KeepsLimits (t.discardRun i n) :=
  State.discardRun_keeps s.KeepsLimits i (fun _ hu => hu.discardHead i) n t h

theorem closeRun (i : Fin 16) (n : Nat) : s.KeepsLimits (t.closeRun i n) :=
  State.closeRun_keeps s.KeepsLimits i (fun _ hu => (hu.discardHead i).closeIfDrained i)
    (fun _ hu => (hu.closeFrame i).closeTests i true) n t h

theorem takePassed (i : Fin 16) : s.KeepsLimits (t.takePassed i) := by
  unfold State.takePassed
  split
  · exact h.arm i
  · split
    · exact (h.discardHead i).closeIfDrained i
    · exact (h.closeFrame i).closeTests i false

theorem passRun (n : Nat) : s.KeepsLimits (t.passRun n) :=
  State.passRun_keeps s.KeepsLimits (fun _ i hu => hu.takePassed i) n t h

/-! ## Path senders -/

theorem beginData (p : PathId) (w : WindowPlace) : s.KeepsLimits (t.beginData p w) := by
  unfold State.beginData
  exact h.touchPath p _ rfl rfl

theorem beginMark (p : PathId) (o : Byte) (r : PathSeq) : s.KeepsLimits (t.beginMark p o r) :=
  (h.touchPath p _ rfl rfl).same (u := t.beginMark p o r) ⟨rfl, rfl, rfl⟩

/-- An entry of the backlog moves only while the window has room (R113). -/
theorem moveBacklog (p : PathId) (hw : (t.path p).window.length < Config.windowLimit) :
    s.KeepsLimits (t.moveBacklog p) := by
  unfold State.moveBacklog
  split
  · exact h
  · rename_i b rest hb
    have moved : s.KeepsLimits (t.updPath p fun x =>
        { x with backlog := rest, window := x.window ++ [⟨b.entry, x.nextSeq, b.tag, 0⟩], nextSeq := x.nextSeq + 1 }) :=
      h.updPath p _ (fun _ => by simpa using hw) fun hl => by
        rw [hb, List.length_cons] at hl
        exact Nat.le_of_succ_le hl
    exact moved.same ⟨rfl, rfl, rfl⟩

omit h in
theorem drainMoves {t : State} (h : s.KeepsLimits t) (p : PathId) (n : Nat) : s.KeepsLimits (t.drainMoves p n) := by
  induction n generalizing t with
  | zero => exact h
  | succ n ih =>
    unfold State.drainMoves
    split
    · rename_i hw
      exact ih (h.moveBacklog p hw.1)
    · exact h

theorem drain (p : PathId) : s.KeepsLimits (t.drain p) := by
  unfold State.drain
  split
  · exact h.drainMoves p _
  · exact h

theorem serveSending (p : PathId) : s.KeepsLimits (t.serveSending p) := by
  unfold State.serveSending
  split
  · exact h
  · exact ((h.touchPath p _ rfl rfl).countPath p ..).beginData p _

theorem returnToSending (p : PathId) : s.KeepsLimits (t.returnToSending p) :=
  ((h.touchPath p (fun x => { x with state := .sending }) rfl rfl).drain p).serveSending p

theorem serveReplaying (p : PathId) : s.KeepsLimits (t.serveReplaying p) := by
  unfold State.serveReplaying
  dsimp only
  split
  · split
    · exact h
    · exact ((h.updPath p _ (fun hl => by simpa using hl) (fun hl => hl)).countPath p ..).beginData p _
  · exact h.returnToSending p

theorem endBurst (p : PathId) : s.KeepsLimits (t.endBurst p) := by
  unfold State.endBurst
  split
  · exact (h.touchPath p _ rfl rfl).serveReplaying p
  · exact h.returnToSending p

theorem serveMarking (p : PathId) : s.KeepsLimits (t.serveMarking p) := by
  unfold State.serveMarking
  dsimp only
  split
  · exact (h.touchPath p _ rfl rfl).beginMark p ..
  · exact h.endBurst p

theorem enterMarking (p : PathId) : s.KeepsLimits (t.enterMarking p) := (h.touchPath p _ rfl rfl).serveMarking p

theorem serveProbing (p : PathId) : s.KeepsLimits (t.serveProbing p) := (h.touchPath p _ rfl rfl).beginMark p ..

theorem serveLine (p : PathId) : s.KeepsLimits (t.serveLine p) := by
  unfold State.serveLine
  split
  · split
    · exact h
    · exact h
    · exact h.serveProbing p
    · exact h.serveSending p
    · exact h.enterMarking p
    · exact h.serveMarking p
    · exact h.serveReplaying p
  · exact h

theorem releasePath (p : PathId) : s.KeepsLimits (t.releasePath p) := by
  unfold State.releasePath
  exact (((h.dropAll ..).dropAll ..).countPath ..).updPath p _ (fun _ => Nat.zero_le _) (fun _ => Nat.zero_le _)

theorem startProbing (p : PathId) : s.KeepsLimits (t.startProbing p) := (h.touchPath p _ rfl rfl).serveLine p

theorem enterProbing (p : PathId) : s.KeepsLimits (t.enterProbing p) := (h.startProbing p).latchPath p

theorem failPath (p : PathId) (r : FailReason) : s.KeepsLimits (t.failPath p r) :=
  (((h.countPath p .failures 1).releasePath p).touchPath p _ rfl rfl).latchPath p

theorem disablePath (p : PathId) : s.KeepsLimits (t.disablePath p) :=
  ((h.releasePath p).touchPath p _ rfl rfl).latchPath p

theorem restartPath (p : PathId) : s.KeepsLimits (t.restartPath p) :=
  ((h.releasePath p).touchPath p _ rfl rfl).enterProbing p

/-- An entry joins a window or a backlog only where it has room (R112). -/
theorem takeEntry (p : PathId) (n tag : Nat) : s.KeepsLimits (t.takeEntry p n tag).1 := by
  rcases t.takeEntry_cases p n tag with ⟨_, _, hw, e⟩ | ⟨_, hb, e⟩ | ⟨_, _, e⟩ | ⟨_, e⟩ <;>
    rw [e] <;> dsimp only
  · exact h.updPath p _ (fun _ => by simpa using hw) (fun hl => hl)
  · exact h.updPath p _ (fun hl => hl) (fun _ => by simpa using hb)
  · exact h.countPath ..
  · exact h.countPath ..

theorem handTo (p : PathId) (fan : PathSet) (n tag : Nat) : s.KeepsLimits (t.handTo p fan n tag).1 := by
  unfold State.handTo
  split
  · exact h.takeEntry ..
  · exact h

theorem replaceService (n : Nat) (x y : Option Holder) : s.KeepsLimits (t.replaceService n x y) := by
  refine h.quiet (by simp) fun l => ?_
  unfold State.replaceService
  split
  · rfl
  · dsimp only
    split <;> simp

theorem goOn (p : PathId) (fan : PathSet) : s.KeepsLimits (t.goOn p fan) := by
  unfold State.goOn
  split
  · exact (h.drain p).serveLine p
  · exact h

theorem fanOut (v : Service) : s.KeepsLimits (t.fanOut v) := by
  unfold State.fanOut
  dsimp only
  refine State.KeepsLimits.goOn (State.KeepsLimits.goOn ?_ .a v.fanOut) .b v.fanOut
  exact State.KeepsLimits.same (((h.handTo ..).handTo ..).replaceService ..) ⟨rfl, rfl, rfl⟩

theorem endService : s.KeepsLimits t.endService := by
  unfold State.endService
  split
  · exact h
  · exact (h.fanOut _).choice

/-! ## STATUS frames, timers and polls -/

theorem restartSilence (p : PathId) : s.KeepsLimits (t.restartSilence p) := h.touchPath p _ rfl rfl

theorem acknowledge (p : PathId) (a : PathSeq) : s.KeepsLimits (t.acknowledge p a) := by
  unfold State.acknowledge
  dsimp only
  split
  · exact ((h.dropAll ..).countPath ..).updPath p _
      (fun hl => by rw [List.length_drop]; omega) (fun hl => hl)
  · split
    · exact h
    · exact h.countPath ..

theorem breakRun (p : PathId) : s.KeepsLimits (t.breakRun p) := by
  unfold State.breakRun
  split
  · exact h.touchPath p _ rfl rfl
  · exact h

theorem leaveProbing (p : PathId) : s.KeepsLimits (t.leaveProbing p) :=
  (((h.touchPath p _ rfl rfl).restartSilence p).latchPath p).serveLine p

theorem probeStatus (p : PathId) (r : StatusRecord) (lost : Nat) : s.KeepsLimits (t.probeStatus p r lost) := by
  rcases t.probeStatus_cases p r lost with ⟨_, e⟩ | ⟨_, _, _, e⟩ <;> rw [e]
  · exact h.touchPath p _ rfl rfl
  · exact (h.touchPath p _ rfl rfl).leaveProbing p

theorem sendingStatus (p : PathId) (r : StatusRecord) : s.KeepsLimits (t.sendingStatus p r) := by
  have heard := (h.restartSilence p).acknowledge p r.ack
  unfold State.sendingStatus
  dsimp only
  split
  · split
    · exact ((heard.touchPath p _ rfl rfl).countPath p ..).serveLine p
    · exact ((heard.countPath p ..).drain p).serveLine p
  · exact ((heard.touchPath p _ rfl rfl).drain p).serveLine p

theorem repeatingStatus (p : PathId) (r : StatusRecord) : s.KeepsLimits (t.repeatingStatus p r) := by
  have heard := (h.restartSilence p).acknowledge p r.ack
  unfold State.repeatingStatus
  dsimp only
  split
  · exact (heard.countPath p ..).serveLine p
  · exact heard.serveLine p

theorem goodStatus (p : PathId) (r : StatusRecord) : s.KeepsLimits (t.goodStatus p r) := by
  unfold State.goodStatus
  have noted := ((h.countPath p .statusLost (reportsLost (t.path p).reportRef r.counter)).countPath p .statusGood 1).touchPath
    p (fun x => { x with reportRef := some r.counter, latest := some r }) rfl rfl
  dsimp only
  split
  · exact noted
  · exact noted
  · exact noted.probeStatus ..
  · exact noted.sendingStatus ..
  · exact noted.repeatingStatus ..
  · exact noted.repeatingStatus ..
  · exact noted.repeatingStatus ..

theorem takeStatus (p : PathId) (bytes : List Byte) : s.KeepsLimits (t.takeStatus p bytes) := by
  unfold State.takeStatus
  dsimp only
  split
  · split
    · exact (h.countPath ..).breakRun p
    · exact h.goodStatus ..
  · exact (h.countPath ..).breakRun p

theorem expireRepeat (p : PathId) : s.KeepsLimits (t.expireRepeat p) := by
  unfold State.expireRepeat
  split
  · split
    · exact h.failPath ..
    · exact ((h.touchPath p _ rfl rfl).countPath p ..).serveLine p
  · exact h.touchPath p _ rfl rfl

theorem startOwed (p : PathId) : s.KeepsLimits (t.startOwed p) := by
  unfold State.startOwed
  exact h.touchPath p _ rfl rfl

theorem moduleAnswered (p : PathId) (indicator : Bool) : s.KeepsLimits (t.moduleAnswered p indicator) := by
  unfold State.moduleAnswered
  split
  · exact (h.touchPath p _ rfl rfl).touchPath p _ rfl rfl
  · exact (h.startOwed p).touchPath p _ rfl rfl

theorem moduleRestarted (p : PathId) : s.KeepsLimits (t.moduleRestarted p) := by
  have wrote := (h.countPath p .moduleRestarts 1).touchPath p (fun x =>
    { x with poll := .writing (t.params.path p).settings (t.elapsed + Config.pollWait) }) rfl rfl
  unfold State.moduleRestarted
  dsimp only
  split
  · exact wrote.failPath ..
  · split
    · exact wrote.touchPath p _ rfl rfl
    · exact wrote

theorem missModule (p : PathId) : s.KeepsLimits (t.missModule p) := by
  unfold State.missModule
  split
  · exact h
  · dsimp only
    split
    · exact (h.touchPath p _ rfl rfl).latchPath p
    · exact h.touchPath p _ rfl rfl
  · exact h.failPath ..

theorem unansweredPoll (p : PathId) : s.KeepsLimits (t.unansweredPoll p) := by
  have missed := (h.touchPath p (fun x =>
    { x with
      poll := .idle
      unanswered := min (x.unanswered + 1) 255
      moduleAbsent := x.moduleAbsent || decide (3 ≤ min (x.unanswered + 1) 255) }) rfl rfl).countPath p .pollsUnanswered 1
  unfold State.unansweredPoll
  dsimp only
  split
  · exact missed.missModule p
  · exact missed

/-! ## House Time -/

theorem afterForward : s.KeepsLimits t.afterForward := by
  have moved : s.KeepsLimits ((t.passRun t.passFuel).stepEvent).refreshAll := (h.passRun t.passFuel).same (by simp)
  unfold State.afterForward
  dsimp only
  split
  · exact moved.endService
  · exact moved.choice

theorem afterBackward : s.KeepsLimits t.afterBackward := h.same (by simp [State.afterBackward])

theorem takePulse : s.KeepsLimits t.takePulse := by
  have pulsed (a : PulseAction) : s.KeepsLimits (t.pulsed a) :=
    h.same ⟨(t.sameStreams_pulsed a).lanes, t.pulsed_paths a⟩
  by_cases ha : pulseAction t.house t.params.stepEnable t.pulseError = .step
  · rw [State.takePulse_of_step ha]
    split
    · exact (pulsed .step).afterForward
    · exact (pulsed .step).afterBackward
  · rw [State.takePulse_of_ne_step rfl ha]
    exact pulsed _

theorem pulse : s.KeepsLimits t.pulse := by
  unfold State.pulse
  split
  · exact h.same ⟨rfl, rfl, rfl⟩
  · split
    · exact h.same ⟨rfl, rfl, rfl⟩
    · exact h.takePulse

theorem adjustHouse (back : Bool) : s.KeepsLimits (Machine.adjustHouse back t) := by
  cases back <;> exact h.same ⟨rfl, rfl, rfl⟩

theorem takeTrim : s.KeepsLimits t.takeTrim := by
  unfold State.takeTrim
  exact (h.updHouse _).adjustHouse _

theorem takeSlew : s.KeepsLimits t.takeSlew := by
  unfold State.takeSlew
  exact (h.updHouse _).adjustHouse _

theorem passNanosecond : s.KeepsLimits (Machine.passNanosecond t) := by
  unfold Machine.passNanosecond
  dsimp only
  split <;> exact h.same ⟨rfl, rfl, rfl⟩

/-! ## Lanes -/

theorem sequenced {u : State} {l : Fin 4} {q : LaneSeq} (hu : t.sequenced l q = some u) : s.KeepsLimits u := by
  rw [State.sequenced_frame hu]
  refine h.quiet ⟨by simp, by simp⟩ fun m => ?_
  change ((t.noteTaken l q).lane m).queue = _
  by_cases e : m = l
  · subst e
    rw [State.lane_noteTaken_self]
  · rw [State.lane_noteTaken_ne t l m q e]

theorem updLane (l : Fin 4) (f : Lane → Lane)
    (hq : (t.lane l).queue.length ≤ Config.noticeLimit → (f (t.lane l)).queue.length ≤ Config.noticeLimit) :
    s.KeepsLimits (t.updLane l f) := by
  refine h.ofLanes (by simp) fun m hm => ?_
  by_cases e : m = l
  · subst e; simpa using hq hm
  · rw [t.lane_updLane_ne l m f e]; exact hm

theorem badRecord (l : Fin 4) : s.KeepsLimits (t.badRecord l) :=
  (h.updLane l (fun x => { x with lastFault := some .badRecord }) id).same ⟨rfl, rfl, rfl⟩

/-- A notice that finds room leaves the queue within its limit (R71). -/
theorem queueNotice (l : Fin 4) (x : Notice) (hr : (t.lane l).hasRoom = true) : s.KeepsLimits (t.queueNotice l x) :=
  h.updLane l _ fun _ => by
    have hl : (t.lane l).queue.length < Config.noticeLimit := of_decide_eq_true hr
    simpa using hl

/-- LANE READY where the queue has room or holds a CREDIT (R70, R71). -/
theorem queueLaneReady (l : Fin 4) (n : Nat) (hr : t.readyRoom l = true) : s.KeepsLimits (t.queueLaneReady l n) :=
  h.updLane l _ fun hl => Lane.readyRoom_length hr hl n

theorem takeOpen (own : Owner) (o : OpenParams) (req : Option Nat) (reg : Option (Nat × Nat)) (bad : Bool) :
    s.KeepsLimits (t.takeOpen own o req reg bad).1 := by
  rcases t.takeOpen_cases own o req reg bad with ⟨_, e⟩ | ⟨_, _, _, e⟩ | ⟨_, _, _, _, e⟩ | ⟨_, _, _, _, _, _, e⟩ <;> rw [e]
  · exact h
  · exact h
  · exact h
  · exact h.same ⟨rfl, rfl, rfl⟩

theorem dispatchOpen (l : Fin 4) (o : OpenParams) : s.KeepsLimits (t.dispatchOpen l o) := by
  unfold State.dispatchOpen
  split
  · rename_i hr
    refine (h.takeOpen ..).queueNotice l _ ?_
    have hl : (t.takeOpen (.lane l) o (recordStart o) none false).1.lane l = t.lane l := by
      rcases t.takeOpen_cases (.lane l) o (recordStart o) none false with
        ⟨_, e⟩ | ⟨_, _, _, e⟩ | ⟨_, _, _, _, e⟩ | ⟨_, _, _, _, _, _, e⟩ <;>
        exact congrArg (fun a => State.lane a.1 l) e
    rw [hl]; exact hr
  · exact h.same ⟨rfl, rfl, rfl⟩

theorem takeClose (i : Fin 16) (now : Bool) : s.KeepsLimits (t.takeClose i now) := by
  unfold State.takeClose
  split
  · exact h
  · exact h.closeStream ..
  · split
    · exact h.closeStream ..
    · exact (h.same (u := t.updSlot i fun x => { x with state := .draining }) ⟨rfl, rfl, rfl⟩).closeIfDrained i
  · split
    · exact h.closeStream ..
    · exact h

theorem dispatchClose (l : Fin 4) (c : CloseRecord) : s.KeepsLimits (t.dispatchClose l c) := by
  unfold State.dispatchClose
  split
  · split
    · dsimp only
      split
      · exact h.takeClose ..
      · exact h.same ⟨rfl, rfl, rfl⟩
    · exact h
  · exact h.same ⟨rfl, rfl, rfl⟩

theorem accept (n : Nat) (i : Fin 16) (o : Owner) (f k : Nat) (b : List Byte) (x y w : Bool) :
    s.KeepsLimits (t.accept n i o f k b x y w) := by
  have filled (g : ConditionFlags) (r : Slot → Slot) (g' : ConditionFlags) :
      s.KeepsLimits (((t.fill n i o f k b g).updSlot i r).countFlags i g') := h.quiet (by simp) (by simp)
  unfold State.accept
  dsimp only
  split
  · exact ((filled ..).formHead i).settleSlot i
  · exact filled ..

theorem dropPacket (l : Fin 4) (c : Nat) (k : LaneCounter) : s.KeepsLimits (t.dropPacket l c k) :=
  h.quiet (by simp) fun m => by simp [State.dropPacket]

theorem applyVerdict (l : Fin 4) (i : Fin 16) (p : PacketRecord) (v : PacketVerdict) :
    s.KeepsLimits (t.applyVerdict l i p v) := by
  cases v with
  | drop c => exact h.dropPacket ..
  | noCredit => exact h.same ⟨rfl, rfl, rfl⟩
  | queueFull => exact (h.dropPacket l (cellsFor p.payload.length) .queueFull).same (by simp [State.applyVerdict])
  | intake e => exact h.quiet (by simp [State.applyVerdict]) fun m => by simp [State.applyVerdict]
  | accept n f => exact (h.same (u := t.countLane l .accepted 1) ⟨rfl, rfl, rfl⟩).accept ..

theorem dispatchPacket {l : Fin 4} {p : PacketRecord} {u : State} (hu : t.dispatchPacket l p = .next u) :
    s.KeepsLimits u := by
  unfold State.dispatchPacket at hu
  dsimp only at hu
  split at hu
  · split at hu <;> cases hu
    exact h.applyVerdict ..
  · cases hu; exact h

theorem closeLaneStreams (l : Fin 4) (b : Bool) : s.KeepsLimits (t.closeLaneStreams l b) :=
  foldl_keeps s.KeepsLimits _ (fun u i hu => by
    split
    · exact hu.closeStream ..
    · exact hu) allSlots t h

/-- A lane reset empties the queue before LANE READY joins it (R73). -/
theorem resetLane (l : Fin 4) (b : Bool) : s.KeepsLimits (t.resetLane l b) :=
  ((h.closeLaneStreams l b).updLane l _ fun _ => Nat.zero_le _).queueLaneReady l _ (by
    rw [State.readyRoom, State.lane_updLane]
    rfl)

/-- A batch is taken only where the queue has room or holds a CREDIT to join (R69). -/
theorem takeBatch (l : Fin 4) (hd : t.batchDue l = true) : s.KeepsLimits (t.takeBatch l) := by
  unfold State.takeBatch
  refine State.KeepsLimits.countLane (h.updLane l _ fun hl => ?_) ..
  have hroom : ((t.lane l).hasRoom || (t.lane l).hasCredit) = true := (Bool.and_eq_true_iff.mp hd).2
  dsimp only
  split
  · rw [mergeCredit_length]; exact hl
  · rename_i hc
    have hr : (t.lane l).hasRoom = true := by simpa [hc] using hroom
    have : (t.lane l).queue.length < Config.noticeLimit := of_decide_eq_true hr
    simpa using this

theorem beginSend (l : Fin 4) : s.KeepsLimits (t.beginSend l) := by
  unfold State.beginSend
  split
  · exact h
  · rename_i x rest hq
    refine h.updLane l _ fun hl => ?_
    rw [hq, List.length_cons] at hl
    exact Nat.le_of_succ_le hl

theorem driveReady (l : Fin 4) (v : Option Bool) : s.KeepsLimits (t.driveReady l v) := by
  cases v with
  | none => exact h
  | some v => exact h.updLane l (fun x => { x with ready := v }) id

/-! ## The Pattern Source -/

theorem generateNext (i : Fin 16) : s.KeepsLimits (t.generateNext i) := by
  have offered : s.KeepsLimits ((t.updPattern fun p =>
      { p with nextFrame := (t.nextPacket i).1, nextIndex := (t.nextPacket i).2.1 }).countPart .framesSkipped
        (t.nextPacket i).2.2) := h.same ⟨rfl, rfl, rfl⟩
  unfold State.generateNext
  dsimp only
  split
  · exact (offered.updPattern _).countPart ..
  · split
    · exact (offered.updPattern _).countSlot ..
    · exact ((offered.updPattern _).countPart ..).accept ..

theorem generate {i : Fin 16} {u : State} (hu : t.generate i = .next u) : s.KeepsLimits u := by
  unfold State.generate at hu
  split at hu <;> cases hu
  exact h.generateNext i

theorem resumed (r : State) : s.KeepsLimits (r.resumed t) :=
  State.resumed_keeps s.KeepsLimits (fun i _ hu _ _ => hu.generateNext i) r t h

/-! ## CLEAR, quotas and reloads -/

/-- CLEAR empties every queue first; then each closure and each LANE READY adds one notice at most, twenty together. -/
theorem clearCells : s.KeepsLimits t.clearQueues.clearStreams.clearCells := by
  refine h.ofLanes ?_ fun l _ => ?_
  · rw [State.clearCells_paths.1, State.clearCells_paths.2, State.clearStreams_paths.1, State.clearStreams_paths.2]
    exact ⟨rfl, rfl⟩
  · have hq : (t.clearQueues.lane l).queue = [] := by simp [State.clearQueues, State.lane]
    have hs := t.clearQueues.clearStreams_queue_length l
    have hc := t.clearQueues.clearStreams.clearCells_queue_length l
    rw [hq, List.length_nil] at hs
    change _ ≤ 32
    omega

theorem clearPath (p : PathId) : s.KeepsLimits (t.clearPath p) := by
  have emptied := h.updPath p (fun x =>
    { x with
      window := []
      backlog := []
      ackThrough := x.nextSeq - 1
      sentThrough := x.nextSeq - 1
      repeatTimer := none
      attempts := 0
      holdoff := none }) (fun _ => Nat.zero_le _) (fun _ => Nat.zero_le _)
  unfold State.clearPath
  dsimp only
  split
  · exact emptied
  · exact emptied.enterProbing p

theorem clearBanks : s.KeepsLimits t.clearBanks := h.same ⟨rfl, rfl, rfl⟩

theorem clearAll : s.KeepsLimits t.clearAll := ((h.clearCells.clearPath .a).clearPath .b).clearBanks

theorem takeQuota (o : Owner) (v : Nat) (hr : ∀ l, o = .lane l → t.readyRoom l = true) :
    s.KeepsLimits (t.takeQuota o v) := by
  cases o with
  | lane l =>
    refine State.KeepsLimits.queueLaneReady
      ((h.same (u := t.updParams fun q => q.setQuota (.lane l) v) ⟨rfl, rfl, rfl⟩).updLane l _ id) l v ?_
    have := hr l rfl
    simpa [State.readyRoom, Lane.hasRoom, Lane.hasCredit] using this
  | pattern => exact h.same ⟨rfl, rfl, rfl⟩

theorem reloadQuota (image : Params) (o : Owner)
    (hr : ∀ l, o = .lane l → image.quota o = t.params.quota o ∨ t.readyRoom l = true) :
    s.KeepsLimits (t.reloadQuota image o) := by
  unfold State.reloadQuota
  split
  · exact h
  · rename_i hne
    exact h.takeQuota o _ fun l ho => (hr l ho).resolve_left hne

omit h in
/-- A lane takes the image's quota before another does, which finds its own quota and its room as they were. -/
theorem reloadLanes {t : State} (h : s.KeepsLimits t) (image : Params) {ls : List (Fin 4)} (hn : ls.Nodup)
    (hr : ∀ l ∈ ls, image.laneQuota[l] = t.params.laneQuota[l] ∨ t.readyRoom l = true) :
    s.KeepsLimits (ls.foldl (fun u l => u.reloadQuota image (.lane l)) t) := by
  induction ls generalizing t with
  | nil => exact h
  | cons l ls ih =>
    obtain ⟨hl, hn⟩ := List.nodup_cons.mp hn
    obtain ⟨hrl, hr⟩ := List.forall_mem_cons.mp hr
    refine ih (h.reloadQuota image (.lane l) fun m hm => ?_) hn fun m hm => ?_
    · cases hm
      exact hrl
    · have hne : m ≠ l := fun e => hl (e ▸ hm)
      rw [t.laneQuota_reloadQuota_ne image hne, t.readyRoom_reloadQuota_ne image hne]
      exact hr m hm

/-- RECALL reloads a changed quota only where its lane has room for LANE READY (R70). -/
theorem reloadQuotas (image : Params) : s.KeepsLimits (t.reloadQuotas image) := by
  unfold State.reloadQuotas
  split
  · exact h
  · rename_i hc
    refine (h.reloadLanes image (List.nodup_finRange 4) fun l hl => ?_).reloadQuota image .pattern nofun
    have hb : t.quotaBlocked image = false := by simpa using fun e => hc (.inr e)
    have hroom : ¬ image.laneQuota[l] = t.params.laneQuota[l] → t.readyRoom l = true := by
      simpa using List.any_eq_false.mp hb l hl
    exact (Decidable.em _).imp_right hroom

theorem followEnable (p : PathId) : s.KeepsLimits (t.followEnable p) := by
  unfold State.followEnable
  split
  · exact h.enterProbing p
  · exact h

theorem followDisable (p : PathId) : s.KeepsLimits (t.followDisable p) := by
  unfold State.followDisable
  split
  · exact h
  · exact h.disablePath p

theorem followFlag (p : PathId) : s.KeepsLimits (t.followFlag p) := by
  unfold State.followFlag
  split
  · exact h.followEnable p
  · exact h.followDisable p

theorem reload (image : Params) : s.KeepsLimits (t.reload image) :=
  (((h.updParams _).reloadQuotas image).followFlag .a).followFlag .b

theorem endLong (code : Byte) (r : Option RefusalCode) : s.KeepsLimits (t.endLong code r) := h.same ⟨rfl, rfl, rfl⟩

theorem finishRecall : s.KeepsLimits t.finishRecall := by
  unfold State.finishRecall
  dsimp only
  split
  · exact ((h.updPort _).reload _).endLong ..
  · exact ((h.updPort _).endLong ..).latch _

theorem startPath (p : PathId) : s.KeepsLimits (t.startPath p) := by
  unfold State.startPath
  split
  · exact h.startProbing p
  · exact h

theorem powerOn : s.KeepsLimits { t with power := .on } := h.same ⟨rfl, rfl, rfl⟩

/-- The power-on load empties every queue before LANE READY joins it (R75). -/
theorem finishLoad : s.KeepsLimits t.finishLoad := by
  have loaded {u : State} (hu : s.KeepsLimits u) :
      s.KeepsLimits (allLanes.foldl (fun x l => x.takeQuota (.lane l) x.params.laneQuota[l]) u.clearQueues) := by
    refine hu.ofLanes (foldl_keeps (fun x => x.pathA = u.pathA ∧ x.pathB = u.pathB) _
      (fun x l hx => by simpa using hx) allLanes _ ⟨rfl, rfl⟩) fun l _ => ?_
    have hq : (u.clearQueues.lane l).queue = [] := by simp [State.clearQueues, State.lane]
    have := queue_foldl_length_le l (fun x m => x.takeQuota (.lane m) x.params.laneQuota[m])
      (fun x m => x.takeQuota_length_le ..) allLanes u.clearQueues
    rw [hq, List.length_nil] at this
    exact this.trans (by decide)
  unfold State.finishLoad
  dsimp only
  refine State.KeepsLimits.powerOn ((((loaded ?_).takeQuota .pattern _ nofun).startPath .a).startPath .b)
  have taken : s.KeepsLimits { t with params := if t.store.valid then t.store.image else Params.default } :=
    h.same ⟨rfl, rfl, rfl⟩
  exact ite (taken.updPort _) ((taken.updPort _).latch _)

/-! ## Commands of the host -/

omit h in
theorem answered {u : State} (hu : s.KeepsLimits u) : s.KeepsLimits (answerDone u).1 := hu

omit h in
theorem finishCommand {a : CommandAnswer} (ha : s.KeepsLimits a.1) (code : Byte) :
    s.KeepsLimits (State.finishCommand code a) := by
  rcases a with ⟨u, _ | _⟩ <;> exact ha.same ⟨rfl, rfl, rfl⟩

theorem withArgSlot {f : Fin 16 → CommandAnswer} (hf : ∀ i, s.KeepsLimits (f i).1) :
    s.KeepsLimits (t.withArgSlot f).1 := by
  unfold State.withArgSlot
  split
  · exact hf _
  · exact h

theorem withArgPath {f : PathId → CommandAnswer} (hf : ∀ p, s.KeepsLimits (f p).1) :
    s.KeepsLimits (t.withArgPath f).1 := by
  unfold State.withArgPath
  split
  · exact hf _
  · split
    · exact hf _
    · exact h

theorem cmdStreamHold : s.KeepsLimits (Machine.cmdStreamHold t).1 :=
  h.withArgSlot fun i => by
    split
    · exact h.same ⟨rfl, rfl, rfl⟩
    · exact h

theorem cmdStreamUnhold : s.KeepsLimits (Machine.cmdStreamUnhold t).1 :=
  h.withArgSlot fun i => by
    split
    · refine answered (State.KeepsLimits.settleSlot ?_ i)
      exact h.same ⟨rfl, rfl, rfl⟩
    · exact h

theorem cmdStreamClose : s.KeepsLimits (Machine.cmdStreamClose t).1 :=
  h.withArgSlot fun i => by
    split
    · exact answered (h.closeStream ..)
    · exact h

theorem cmdSetLowest : s.KeepsLimits (Machine.cmdSetLowest t).1 := h.withArgSlot fun _ => h.same ⟨rfl, rfl, rfl⟩

theorem cmdRotationMode : s.KeepsLimits (Machine.cmdRotationMode t).1 := by
  unfold Machine.cmdRotationMode
  split
  · exact h.same ⟨rfl, rfl, rfl⟩
  · split
    · exact h.same ⟨rfl, rfl, rfl⟩
    · exact h

theorem cmdLaneReset : s.KeepsLimits (Machine.cmdLaneReset t).1 := by
  unfold Machine.cmdLaneReset
  split
  · exact h.resetLane ..
  · exact h

theorem cmdPathEnable : s.KeepsLimits (Machine.cmdPathEnable t).1 :=
  h.withArgPath fun p => (h.updParams _).followEnable p

theorem cmdPathDisable : s.KeepsLimits (Machine.cmdPathDisable t).1 :=
  h.withArgPath fun p => (h.updParams _).followDisable p

theorem cmdPathRestart : s.KeepsLimits (Machine.cmdPathRestart t).1 :=
  h.withArgPath fun p => by
    split
    · exact h
    · exact h.restartPath p

theorem cmdPatternOpen : s.KeepsLimits (Machine.cmdPatternOpen t).1 := by
  unfold Machine.cmdPatternOpen
  split
  · exact h
  · dsimp only
    generalize ha : t.takeOpen _ _ _ _ _ = a
    have opened : s.KeepsLimits a.1 := ha ▸ h.takeOpen ..
    rcases a with ⟨u, e | r⟩
    · exact opened
    · exact opened.same ⟨rfl, rfl, rfl⟩

theorem cmdPatternClose : s.KeepsLimits (Machine.cmdPatternClose t).1 := by
  unfold Machine.cmdPatternClose
  split
  · exact h
  · exact answered (h.closeStream ..)

theorem takeCommand (code : Byte) : s.KeepsLimits (t.takeCommand code) := by
  have done {a : CommandAnswer} (ha : s.KeepsLimits a.1) : s.KeepsLimits (State.finishCommand code a) :=
    finishCommand ha code
  exact ite h <| ite h <| ite (done h.clearAll) <| ite (h.updPort _) <| ite (h.updPort _)
    <| ite (done h.cmdPathEnable) <| ite (done h.cmdPathDisable) <| ite (done h.cmdPathRestart)
    <| ite (done h.cmdStreamHold) <| ite (done h.cmdStreamUnhold) <| ite (done h.cmdStreamClose)
    <| ite (done h.cmdSetLowest) <| ite (done h.cmdRotationMode) <| ite (done h.cmdLaneReset)
    <| ite (done h.cmdPatternOpen) <| ite (done h.cmdPatternClose) (done h)

/-! ## Transactions of the port -/

theorem putByte (b : Byte) : s.KeepsLimits (t.putByte b) := by
  refine State.KeepsLimits.resumed (State.KeepsLimits.updPort ?_ _) t
  unfold State.byteEffect
  split
  · exact h.same ⟨rfl, rfl, rfl⟩
  · split
    · exact h.takeCommand b
    · split
      · exact h.updPort _
      · exact h

/-- An item of a row keeps the limits: only a lane's quota queues a notice, and it is refused without room (R70). -/
theorem itemTake {take : State → Nat → ItemAnswer} (hk : IsItemTake take) (v : Nat) : s.KeepsLimits (take t v).1 := by
  cases hk with
  | param f => exact h.same ⟨rfl, rfl, rfl⟩
  | rate =>
    unfold takeRate
    split
    · exact h
    · split
      · exact h.same ⟨rfl, rfl, rfl⟩
      · exact h
  | reserve =>
    unfold takeReserve
    split
    · exact h
    · exact h.same ⟨rfl, rfl, rfl⟩
  | pulseSecond => exact h.same ⟨rfl, rfl, rfl⟩
  | quota o =>
    unfold takeQuotaItem
    split
    · exact h
    · split
      · exact h
      · cases o with
        | pattern => exact h.takeQuota .pattern v nofun
        | lane l =>
          dsimp only
          split
          · rename_i hr
            exact h.takeQuota (.lane l) v fun m hm => by cases hm; exact hr
          · exact h
  | slotSelector =>
    unfold takeSlotSelector
    split
    · exact h.same ⟨rfl, rfl, rfl⟩
    · exact h
  | groupSelector =>
    unfold takeGroupSelector
    split
    · exact h.same ⟨rfl, rfl, rfl⟩
    · exact h

omit h in
theorem takeItems {t : State} (h : s.KeepsLimits t) {w : List (Nat × Byte)} {items : List (State → ItemAnswer)}
    (hi : IsItemRow w items) : s.KeepsLimits (Machine.takeItems t items).1 := by
  induction items generalizing t with
  | nil => exact h
  | cons f fs ih =>
    obtain ⟨⟨page, off, len, take, hk, rfl⟩, hfs⟩ := List.forall_mem_cons.mp hi
    refine ih ?_ hfs
    change s.KeepsLimits (t.takeItem w page off len take).1
    unfold State.takeItem
    split
    · exact h
    · exact h.itemTake hk _

theorem rowEvent (w : List (Nat × Byte)) (page row : Nat) : s.KeepsLimits (t.rowEvent w page row) := by
  unfold State.rowEvent
  split
  · rename_i items hi
    exact ((h.takeItems (rowItems_isItemRow w page row items hi)).updPort _).resumed t
  · split
    · split
      · exact h.updPort _
      · exact h
    · split
      · exact h.updPort _
      · split
        · split
          · exact h
          · exact h.updPort _
        · exact h

theorem acceptWrite (bytes : List Byte) : s.KeepsLimits (t.acceptWrite bytes) := by
  unfold State.acceptWrite
  split
  · exact h
  · exact h.updPort _
  · rename_i p o data
    have pointed : s.KeepsLimits ((t.takePage p).takeOffset o) := (h.updPort _).updPort _
    cases data with
    | nil => exact pointed
    | cons b bs => exact (foldl_keeps s.KeepsLimits _ (fun _ b hu => hu.putByte b) _ _ pointed).rowEvent ..

theorem hostWrite (bytes : List Byte) : s.KeepsLimits (t.hostWrite bytes) := by
  unfold State.hostWrite
  split
  · exact h
  · exact (h.updPort _).acceptWrite bytes

theorem writeAt (page off : Nat) (data : List Byte) : s.KeepsLimits (t.writeAt page off data) := by
  unfold State.writeAt
  split
  · exact h
  · exact h.hostWrite _

theorem readOne : s.KeepsLimits t.readOne := by
  unfold State.readOne
  split
  · exact h
  · exact h.updPort _

omit h in
theorem readMany {t : State} (h : s.KeepsLimits t) (n : Nat) : s.KeepsLimits (t.readMany n) := by
  induction n generalizing t with
  | zero => exact h
  | succ n ih => exact ih h.readOne

theorem hostRead (starts : Bool) (count : Nat) (ends : Bool) : s.KeepsLimits (t.hostRead starts count ends) := by
  have began : s.KeepsLimits (if starts then t.beginRead else t) := by
    split
    · exact h.updPort _
    · exact h
  unfold State.hostRead
  split
  · exact h
  · dsimp only
    split
    · exact (began.readMany count).updPort _
    · exact began.readMany count

end

/-! ## Commands and steps -/

/-- A part that comes to power, or loses it, has every queue empty (R179). -/
theorem powerUp (s : State) : s.KeepsLimits s.powerUp :=
  ⟨fun l _ => by simp [State.powerUp, State.reset, State.lane, Lane.blank],
    fun p _ => by cases p <;> exact Nat.zero_le _, fun p _ => by cases p <;> exact Nat.zero_le _⟩

theorem whenDue {s t : State} {due : Bool} {f : State → State} (ht : Machine.whenDue due f s = .next t)
    (hf : due = true → s.KeepsLimits (f s)) : s.KeepsLimits t :=
  whenDue_keeps s.KeepsLimits (.refl s) (fun _ hd => hf hd) ht

theorem whenDueResuming {s t : State} {due : Bool} {f : State → State} (ht : Machine.whenDueResuming due f s = .next t)
    (hf : s.KeepsLimits (f s)) : s.KeepsLimits t :=
  whenDue ht fun _ => hf.resumed s

/-- A record of a lane, by its form, its sequence and what its dispatch does. -/
theorem record {s t : State} {l : Fin 4} {q : LaneSeq} {form : Bool} {f : State → Result}
    (ht : s.takeRecord l form q f = .next t)
    (hf : ∀ u, s.KeepsLimits u → f u = .next t → s.KeepsLimits t) : s.KeepsLimits t := by
  have h := State.KeepsLimits.refl s
  unfold State.takeRecord at ht
  split at ht
  · cases ht; exact h
  · split at ht
    · cases ht; exact h.badRecord l
    · split at ht
      · cases ht; exact h.countLane ..
      · rename_i u hu
        exact hf u (h.sequenced hu) ht

/-- Every command keeps each queue, window and backlog within its limit. -/
theorem exec {c : Instr} {s t : State} (ht : exec c s = .next t) : s.KeepsLimits t := by
  have h := State.KeepsLimits.refl s
  have now {u : State} (e : Host.Outcome.next u = (.next t : Result)) (hu : s.KeepsLimits u) : s.KeepsLimits t := by
    cases e; exact hu
  unfold Machine.exec at ht
  cases c with
  | powerOn => exact now ht (by split; exacts [h, (powerUp s)])
  | powerOnLoad => exact now ht (by split; exacts [h.finishLoad, h])
  | powerFail => exact now ht (by split; exacts [(powerUp s).same ⟨rfl, rfl, rfl⟩, h])
  | openRecord l bytes => exact record ht fun u hu e => now e (hu.dispatchOpen ..)
  | packetRecord l bytes => exact record ht fun u hu e => hu.dispatchPacket e
  | closeRecord l bytes => exact record ht fun u hu e => now e ((hu.dispatchClose ..).resumed s)
  | laneResetRecord l bytes =>
    change (if !s.up then _ else if !laneResetForm bytes then _ else _) = _ at ht
    split at ht
    · exact now ht h
    · split at ht
      · exact now ht (h.badRecord l)
      · exact now ht (((h.countLane ..).resetLane ..).resumed s)
  | noticeSendBegin l ready =>
    refine whenDue ht fun _ => ?_
    dsimp only
    split
    · exact (h.driveReady l ready).beginSend l
    · exact h.driveReady l ready
  | noticeSendComplete l => exact whenDue ht fun _ => h.updLane l _ id
  | creditTimerExpiry l => exact whenDue ht fun _ => h.updLane l _ id
  | creditBatch l => exact whenDue ht fun hd => h.takeBatch l hd
  | armingExpiry i => exact whenDueResuming ht ((h.arm i).settleSlot i)
  | eligibilityInstant i => exact whenDueResuming ht (h.settleSlot i)
  | discardExpiry i => exact whenDueResuming ht (((h.discardRun i _).closeIfDrained i).settleSlot i)
  | frameClose i => exact whenDueResuming ht ((h.closeRun i _).settleSlot i)
  | endOfService => exact whenDueResuming ht h.endService
  | statusFrame p bytes => exact whenDueResuming ht (h.takeStatus p bytes)
  | silenceExpiry p => exact whenDueResuming ht (h.failPath p .silent)
  | holdoffExpiry p => exact whenDue ht fun _ => h.enterProbing p
  | repeatTimerExpiry p => exact whenDueResuming ht (h.expireRepeat p)
  | lineFrameEnd p => exact whenDue ht fun _ => (h.touchPath p _ rfl rfl).serveLine p
  | modulePoll p => exact whenDue ht fun _ => h.touchPath p _ rfl rfl
  | moduleReadAnswer p indicator =>
    refine whenDueResuming ht ?_
    split
    · exact (h.moduleAnswered p true).moduleRestarted p
    · exact h.moduleAnswered p false
  | moduleSettingsAnswer p => exact whenDue ht fun _ => (h.startOwed p).touchPath p _ rfl rfl
  | moduleClearAnswer p => exact whenDue ht fun _ => h.touchPath p _ rfl rfl
  | pollUnanswered p => exact whenDueResuming ht (h.unansweredPoll p)
  | referencePulse => exact whenDueResuming ht h.pulse
  | pulseMissExpiry => exact whenDue ht fun _ => h.same (by simp)
  | trimAdjustment => exact whenDue ht fun _ => h.takeTrim
  | slewAdjustment => exact whenDue ht fun _ => h.takeSlew
  | secondMarker => exact whenDue ht fun _ => h.same (by simp)
  | patternGeneration =>
    change execPatternGeneration s = _ at ht
    unfold execPatternGeneration at ht
    split at ht
    · exact now ht h
    · split at ht
      · exact h.generate ht
      · exact now ht h
  | storeEnd readsBack =>
    change execStoreEnd readsBack s = _ at ht
    unfold execStoreEnd at ht
    split at ht
    · exact now ht (h.same ⟨rfl, rfl, rfl⟩)
    · exact now ht h
  | recallEnd =>
    change execRecallEnd s = _ at ht
    unfold execRecallEnd at ht
    split at ht
    · exact now ht (h.finishRecall.resumed s)
    · exact now ht h
  | badCommand code => exact now ht (by split; exacts [h.writeAt .., h])
  | pathParameterWrite p x => cases x <;> exact now ht (h.writeAt ..)
  | repeatParameterWrite x => cases x <;> exact now ht (h.writeAt ..)
  | counterSelectorWrite page v => cases page <;> exact now ht (h.writeAt ..)
  | patternMemoryWrite v => exact now ht (by split; exacts [h.putByte v, h])
  | snapshotRead target starts count ends =>
    change execSnapshotRead target starts count ends s = _ at ht
    unfold execSnapshotRead at ht
    split at ht
    · exact now ht h
    · split at ht
      · exact now ht (h.updPort _)
      · exact now ht (h.hostRead ..)
  | registerWrite target bytes =>
    change execRegisterWrite target bytes s = _ at ht
    unfold execRegisterWrite at ht
    split at ht
    · exact now ht h
    · split at ht
      · exact now ht (h.hostWrite bytes)
      · exact now ht (h.updPort _)
  | _ => exact now ht (h.writeAt ..)

/-- Every step keeps each queue, window and backlog within its limit. -/
theorem step {s t : State} (ht : step s = .next t) : s.KeepsLimits t := by
  have h := State.KeepsLimits.refl s
  unfold Machine.step at ht
  split at ht
  · cases ht
    rcases s.tick_cases with ⟨_, e⟩ | ⟨_, _, e⟩ | ⟨_, _, _, e⟩ <;> rw [e]
    · exact h
    · exact h.passNanosecond
    · exact h.same ⟨rfl, rfl, rfl⟩
  · rename_i c rest _
    have hx := exec (s := { s with pending := rest }) ht
    exact ⟨hx.notices, hx.window, hx.backlog⟩

end State.KeepsLimits

/-- Settles O6: no operation takes a notice queue, a window or a backlog past its limit. -/
theorem stepKeepsQueuesBounded : Obligations.StepKeepsQueuesBounded :=
  ⟨fun _ _ hs ht l => (State.KeepsLimits.step ht).notices l (hs l), fun _ _ hs ht p =>
    ⟨(State.KeepsLimits.step ht).window p (hs p).1, (State.KeepsLimits.step ht).backlog p (hs p).2⟩⟩

end Sys2Proof.Machine

/-!
PROOF. The feed lanes: what becomes of a record before its dispatch, how notices are sent, how credit comes back
(chapter 4): O15, O24, O25.
-/

namespace Sys2Proof.Machine

open Sys2Proof

/-! ## One lane, updated twice -/

theorem State.updLane_updLane (s : State) (l : Fin 4) (f g : Lane → Lane) :
    (s.updLane l f).updLane l g = s.updLane l fun x => g (f x) := by
  simp [State.updLane]

/-- A lane that is updated to itself. -/
theorem State.updLane_of_eq {s : State} {l : Fin 4} {f : Lane → Lane} (h : f (s.lane l) = s.lane l) :
    s.updLane l f = s := by
  have hl : s.lanes.set l (f s.lanes[l]) = s.lanes := by
    rw [show f s.lanes[l] = s.lanes[l] from h]
    exact Vector.set_getElem_self l.isLt
  rw [State.updLane, hl]

/-! ## Sending notices (R72) -/

theorem exec_noticeSendBegin {s : State} (h : s.power ≠ .off) (l : Fin 4) (ready : Option Bool) :
    exec (.noticeSendBegin l ready) s =
      .next (if (s.driveReady l ready).sendDue l then (s.driveReady l ready).beginSend l else s.driveReady l ready) := by
  change execNoticeSendBegin l ready s = _
  rw [execNoticeSendBegin, whenDue_taken _ h]

theorem exec_noticeSendComplete {s : State} (h : s.power ≠ .off) {l : Fin 4} (ho : s.sendOver l = true) :
    exec (.noticeSendComplete l) s = .next (s.updLane l fun x => { x with sending := none }) := by
  change execNoticeSendComplete l s = _
  rw [execNoticeSendComplete, ho, whenDue_taken _ h]

/-- The ready indication is asserted, driven so or as it was. -/
theorem State.driveReady_asserted {s : State} {l : Fin 4} {ready : Option Bool}
    (h : ready.getD (s.lane l).ready = true) : s.driveReady l ready = s.updLane l fun x => { x with ready := true } := by
  cases ready with
  | none =>
    have hr : (s.lane l).ready = true := h
    exact (State.updLane_of_eq (s := s) (by rw [← hr])).symm
  | some v => rw [show v = true from h]; rfl

/-- The oldest notice goes from the queue to the return direction. -/
theorem State.beginSend_cons {s : State} {l : Fin 4} {x : Notice} {rest : List Notice}
    (h : (s.lane l).queue = x :: rest) :
    s.beginSend l = s.updLane l fun y => { y with queue := rest, sending := some ⟨x, s.elapsed + noticeTime x⟩ } := by
  rw [State.beginSend, h]

/-- A notice lasts 10 ns for each byte it is sent in (R72, 12.3). -/
theorem noticeTime_eq (l : Fin 4) (x : Notice) : noticeTime x = 10 * (noticeBytes l x).length := by
  have sealed (front back : List Byte) : (sealItem front back).length = front.length + 4 + back.length := by
    simp [sealItem, Nat.add_assoc]
  have body : (noticeBody x).length + 6 = noticeLength x := by cases x <;> simp [noticeBody, noticeLength]
  rw [noticeBytes, sealed, noticeTime, ← body]
  simp only [List.length_cons, List.length_nil]
  omega

/-- Settles O24: the oldest notice begins where the indication is asserted, and its time is that of its bytes. -/
theorem noticesAreSentOldestFirst : Obligations.NoticesAreSentOldestFirst := by
  refine fun s l x rest hp => ⟨fun ready hq hs hr => ?_, fun u hs hu => ?_, noticeTime_eq l x⟩
  · have hd : (s.driveReady l ready).lane l = { s.lane l with ready := true } := by
      rw [State.driveReady_asserted hr, State.lane_updLane]
    have hdue : (s.driveReady l ready).sendDue l = true := by simp [State.sendDue, hd, hq, hs]
    rw [exec_noticeSendBegin hp, if_pos hdue, State.beginSend_cons (by rw [hd]; exact hq),
      State.driveReady_asserted hr, State.updLane_updLane]
    rfl
  · have ho : s.sendOver l = true := by simp [State.sendOver, hs, hu]
    rw [exec_noticeSendComplete hp ho]
    rfl

/-! ## Credit batches (R69) -/

theorem exec_creditBatch {s : State} (h : s.power ≠ .off) {l : Fin 4} (hd : s.batchDue l = true) :
    exec (.creditBatch l) s = .next (s.takeBatch l) := by
  change execCreditBatch l s = _
  rw [execCreditBatch, hd, whenDue_taken _ h]

theorem exec_creditTimerExpiry {s : State} (h : s.power ≠ .off) {l : Fin 4} (hd : s.creditTimerDue l = true) :
    exec (.creditTimerExpiry l) s = .next (s.updAccount l fun a => { a with expired := true }) := by
  change execCreditTimerExpiry l s = _
  rw [execCreditTimerExpiry, hd, whenDue_taken _ h]

/-- A batch joins the first CREDIT of a queue. -/
theorem mergeCredit_append (p m : Nat) (pre post : List Notice) (h : pre.any Notice.isCredit = false) :
    mergeCredit p (pre ++ .credit m :: post) = pre ++ .credit (m + p) :: post := by
  induction pre with
  | nil => rfl
  | cons x xs ih =>
    rw [List.any_cons, Bool.or_eq_false_iff] at h
    obtain ⟨hx, hxs⟩ := h
    cases x with
    | credit n => cases hx
    | _ => exact congrArg _ (ih hxs)

/-- The lane after a batch: its whole pending credit is outstanding, and its queue announces it. -/
theorem State.lane_takeBatch (s : State) (l : Fin 4) :
    (s.takeBatch l).lane l =
      { s.lane l with
        account := ⟨(s.lane l).account.outstanding + (s.lane l).account.pending, 0, none, false⟩
        queue := if (s.lane l).hasCredit then mergeCredit (s.lane l).account.pending (s.lane l).queue
          else (s.lane l).queue ++ [.credit (s.lane l).account.pending] } := by
  unfold State.takeBatch
  dsimp only
  rw [State.lane_countLane, State.lane_updLane]

/-- Settles O25: a batch that is due is taken, and its CREDIT joins one that is queued or goes to the tail. -/
theorem creditBatchReturnsThePendingCredit : Obligations.CreditBatchReturnsThePendingCredit := by
  refine fun s l hp => ⟨fun hpos hcond hroom => ?_, fun since ho he hs => ?_⟩
  · have hdue : s.batchDue l = true := by simpa [State.batchDue, Lane.hasRoom, hpos] using ⟨hcond, hroom⟩
    have hlane := s.lane_takeBatch l
    refine ⟨s.takeBatch l, exec_creditBatch hp hdue, ?_, fun hc => ?_, fun pre post m hq hpre => ?_⟩
    · rw [hlane]
      rfl
    · rw [hlane, hc]
      rfl
    · have hc : (s.lane l).hasCredit = true := by simp [Lane.hasCredit, hq, Notice.isCredit]
      rw [hlane]
      dsimp only
      rw [if_pos hc, hq, mergeCredit_append _ _ _ _ hpre]
  · have hdue : s.creditTimerDue l = true := by simpa [State.creditTimerDue, ho, he] using hs
    rw [exec_creditTimerExpiry hp hdue]
    rfl

/-! ## What becomes of a record (R61, R62) -/

section

variable {s : State} (hon : s.power = .on) {l : Fin 4} {q : LaneSeq} {f : State → Result}
include hon

/-- A record of bad form is dropped (R61). -/
theorem State.takeRecord_bad : s.takeRecord l false q f = .next (s.badRecord l) := by
  simp [State.takeRecord, State.up, hon]

/-- A record behind the expectation is dropped (R62). -/
theorem State.takeRecord_stale {e : LaneSeq} (he : (s.lane l).expectation = some e) (hq : 32768 ≤ (q - e).toNat) :
    s.takeRecord l true q f = .next (s.countLane l .stale 1) := by
  have hseq : s.sequenced l q = none := by
    simp only [State.sequenced, he]
    rw [if_neg (by omega), if_neg (by omega)]
  simp [State.takeRecord, State.up, hon, hseq]

/-- A record in order is dispatched (R62). -/
theorem State.takeRecord_inOrder (h : s.inOrder l q) : s.takeRecord l true q f = f (s.noteTaken l q) := by
  have hseq : s.sequenced l q = some (s.noteTaken l q) := by
    rcases h with he | he <;> simp [State.sequenced, he]
  simp [State.takeRecord, State.up, hon, hseq]

/-- A record ahead of the expectation is dispatched with the gap counted (R62). -/
theorem State.takeRecord_ahead {e : LaneSeq} (he : (s.lane l).expectation = some e) (h₁ : 1 ≤ (q - e).toNat)
    (h₂ : (q - e).toNat ≤ 32767) :
    s.takeRecord l true q f = f ((s.noteTaken l q).countLane l .seqGap 1) := by
  have hseq : s.sequenced l q = some ((s.noteTaken l q).countLane l .seqGap 1) := by
    simp only [State.sequenced, he]
    rw [if_neg (by omega), if_pos h₂]
  simp [State.takeRecord, State.up, hon, hseq]

end

/-- What R61 makes of a record of bad form. -/
theorem State.badRecord_eq (s : State) (l : Fin 4) :
    s.badRecord l =
      { s with
        lanes := s.lanes.set l { s.lane l with lastFault := some .badRecord }
        active := (s.countLane l .badRecord 1).active
        port := { s.port with
          causes := s.port.causes ||| 0x20, laneDetail := s.port.laneDetail ||| (1#4 <<< l.val) } } := rfl

/-- Two counters of a lane are counted in either order. -/
theorem State.countLane_comm (s : State) (l : Fin 4) {c d : LaneCounter} (h : c.pos ≠ d.pos) (m n : Nat) :
    (s.countLane l c m).countLane l d n = (s.countLane l d n).countLane l c m := by
  have hv : (c.pos : Nat) ≠ d.pos := fun e => h (Fin.ext e)
  simp only [State.countLane, State.updActive, Vector.getElem_set_self, Vector.set_set, Fin.getElem_fin]
  rw [Vector.getElem_set_ne _ _ hv, Vector.getElem_set_ne _ _ hv.symm, Vector.set_comm _ _ hv]

/-- The state in which a record ahead of the expectation is in order: the gap counted, the expectation moved up. -/
def State.gapCounted (s : State) (l : Fin 4) (q : LaneSeq) : State :=
  { s with
    lanes := s.lanes.set l { s.lane l with expectation := some q }
    active := (s.countLane l .seqGap 1).active }

theorem State.noteTaken_gapCounted (s : State) (l : Fin 4) (q : LaneSeq) :
    (s.gapCounted l q).noteTaken l q = (s.noteTaken l q).countLane l .seqGap 1 := by
  have hn : (s.gapCounted l q).noteTaken l q = (((s.countLane l .seqGap 1).updLane l fun x =>
      { x with expectation := some q }).updLane l fun x => { x with expectation := some (q + 1) }).countLane l .records 1 :=
    rfl
  rw [hn, State.updLane_updLane, State.noteTaken, State.countLane_comm _ l (by decide)]
  rfl

/-- A record ahead of the expectation does what it does in order once the gap is counted, as far as its dispatch does
the same in both states. -/
theorem State.takeRecord_gapCounted {s : State} (hon : s.power = .on) {l : Fin 4} {q e : LaneSeq} {f g : State → Result}
    (he : (s.lane l).expectation = some e) (h₁ : 1 ≤ (q - e).toNat) (h₂ : (q - e).toNat ≤ 32767) (hfg : f = g) :
    s.takeRecord l true q f = (s.gapCounted l q).takeRecord l true q g := by
  have ho : (s.gapCounted l q).inOrder l q := .inr (by simp [State.gapCounted, State.lane])
  rw [State.takeRecord_ahead hon he h₁ h₂, State.takeRecord_inOrder (by exact hon) ho, State.noteTaken_gapCounted, hfg]

/-- Settles O15: what becomes of a record by its form and its sequence, for each kind of record. -/
theorem recordOfBadFormOrStaleSequenceIsDropped : Obligations.RecordOfBadFormOrStaleSequenceIsDropped := by
  refine ⟨fun s l bytes hon => ?bad, fun s l bytes e hon he hq => ?stale, fun s l bytes e hon he h₁ h₂ => ?ahead⟩
  case bad =>
    refine ⟨fun hf => ?_, fun hf => ?_, fun hf => ?_, fun hf => ?_⟩
    · rw [exec_openRecord, hf, State.takeRecord_bad hon, State.badRecord_eq]
    · rw [exec_packetRecord, hf, State.takeRecord_bad hon, State.badRecord_eq]
    · rw [exec_closeRecord, hf, State.takeRecord_bad hon, State.badRecord_eq]
    · rw [exec_laneResetRecord, hf, State.badRecord_eq]
      simp [State.up, hon]
  case stale =>
    refine ⟨fun hf => ?_, fun hf => ?_, fun hf => ?_⟩
    · rw [exec_openRecord, hf, State.takeRecord_stale hon he hq]
    · rw [exec_packetRecord, hf, State.takeRecord_stale hon he hq]
    · rw [exec_closeRecord, hf, State.takeRecord_stale hon he hq]
  case ahead =>
    refine ⟨fun hf => ?_, fun hf => ?_, fun hf => ?_⟩
    · rw [exec_openRecord, exec_openRecord, hf]
      exact State.takeRecord_gapCounted hon he h₁ h₂ rfl
    · rw [exec_packetRecord, exec_packetRecord, hf]
      exact State.takeRecord_gapCounted hon he h₁ h₂ rfl
    · rw [exec_closeRecord, exec_closeRecord, hf]
      exact State.takeRecord_gapCounted hon he h₁ h₂
        (funext fun u => congrArg _ ((s.gapCounted l (recordSeq bytes)).resumed_from s _ rfl rfl).symm)

end Sys2Proof.Machine

/-!
PROOF. PACKET records: the verdict on one, what a drop does (chapter 4): O21.
-/

namespace Sys2Proof.Machine

open Sys2Proof

/-! ## The verdict on a PACKET (R65, R79) -/

section

variable {s : State} {l : Fin 4} {i : Fin 16} {p : PacketRecord}

/-- The first test of R65: the slot takes packets, of this lane and this tag. -/
def State.packetFits (s : State) (l : Fin 4) (i : Fin 16) (p : PacketRecord) : Prop :=
  (s.slot i).state.takesPackets = true ∧ (s.slot i).owner = .lane l ∧ (s.slot i).tag = p.tag

/-- The tests of R65 that come before the entry: the slot, the size, the credit. -/
def State.packetPaid (s : State) (l : Fin 4) (i : Fin 16) (p : PacketRecord) : Prop :=
  s.packetFits l i p ∧ p.payload.length ≤ (s.slot i).s
    ∧ cellsFor p.payload.length ≤ (s.lane l).account.outstanding

theorem State.judgeRecord_notOpen (h : ¬ s.packetFits l i p) : s.judgeRecord l i p = .drop .notOpen := by
  unfold State.judgeRecord
  rw [if_pos]
  simpa [State.packetFits, or_assoc, imp_iff_not_or] using h

/-- The verdict on a PACKET that fits its slot (R65, steps 2 to 6). -/
theorem State.judgeRecord_fits (h : s.packetFits l i p) :
    s.judgeRecord l i p =
      if (s.slot i).s < p.payload.length then .drop .oversize
      else if (s.lane l).account.outstanding < cellsFor p.payload.length then .noCredit
      else s.freeEntry.elim (.drop .noEntry) fun n =>
        if Config.queueLimit ≤ (s.slot i).queue.length then .queueFull
        else (judgePacket (s.slot i) p.frameField p.index).rec .intake (.accept n) := by
  obtain ⟨hstate, howner, htag⟩ := h
  unfold State.judgeRecord
  dsimp only
  rw [if_neg (by simp [hstate, howner, htag])]
  cases s.freeEntry with
  | none => rfl
  | some n => cases judgePacket (s.slot i) p.frameField p.index <;> rfl

theorem State.judgeRecord_oversize (h : s.packetFits l i p) (hs : (s.slot i).s < p.payload.length) :
    s.judgeRecord l i p = .drop .oversize := by
  rw [State.judgeRecord_fits h, if_pos hs]

theorem State.judgeRecord_noCredit (h : s.packetFits l i p) (hs : p.payload.length ≤ (s.slot i).s)
    (hc : (s.lane l).account.outstanding < cellsFor p.payload.length) : s.judgeRecord l i p = .noCredit := by
  rw [State.judgeRecord_fits h, if_neg (by omega), if_pos hc]

/-- The verdict on a PACKET whose size and credit are in order (R65, steps 4 to 6). -/
theorem State.judgeRecord_paid (h : s.packetPaid l i p) :
    s.judgeRecord l i p =
      s.freeEntry.elim (.drop .noEntry) fun n =>
        if Config.queueLimit ≤ (s.slot i).queue.length then .queueFull
        else (judgePacket (s.slot i) p.frameField p.index).rec .intake (.accept n) := by
  obtain ⟨hfits, hsize, hcredit⟩ := h
  rw [State.judgeRecord_fits hfits, if_neg (by omega), if_neg (by omega)]

theorem State.judgeRecord_noEntry (h : s.packetPaid l i p) (he : s.freeEntry = none) :
    s.judgeRecord l i p = .drop .noEntry := by
  rw [State.judgeRecord_paid h, he]
  rfl

theorem State.judgeRecord_queueFull (h : s.packetPaid l i p) (he : s.freeEntry ≠ none)
    (hq : 512 ≤ (s.slot i).queue.length) : s.judgeRecord l i p = .queueFull := by
  obtain ⟨n, hn⟩ := Option.ne_none_iff_exists'.mp he
  rw [State.judgeRecord_paid h, hn]
  exact if_pos hq

/-- The verdict on a PACKET that has an entry and a place in the queue is Intake's (R79). -/
theorem State.judgeRecord_intake {n : Nat} (h : s.packetPaid l i p) (he : s.freeEntry = some n)
    (hq : (s.slot i).queue.length < 512) :
    s.judgeRecord l i p = (judgePacket (s.slot i) p.frameField p.index).rec .intake (.accept n) := by
  rw [State.judgeRecord_paid h, he]
  exact if_neg (Nat.not_le.mpr hq)

theorem State.judgeRecord_refused {why : IntakeDrop} (h : s.packetPaid l i p) (he : s.freeEntry ≠ none)
    (hq : (s.slot i).queue.length < 512) (hj : judgePacket (s.slot i) p.frameField p.index = .error why) :
    s.judgeRecord l i p = .intake why := by
  obtain ⟨n, hn⟩ := Option.ne_none_iff_exists'.mp he
  rw [State.judgeRecord_intake h hn hq, hj]

/-- The verdict reads the account of the lane, and not its expectation. -/
theorem State.judgeRecord_noteTaken (s : State) (l : Fin 4) (i : Fin 16) (p : PacketRecord) (q : LaneSeq) :
    (s.noteTaken l q).judgeRecord l i p = s.judgeRecord l i p := by
  unfold State.judgeRecord
  rw [State.lane_noteTaken_self]
  rfl

end

/-- A PACKET that is dispatched gets its verdict, as far as the cells suffice (R65, log entry 29). -/
theorem State.dispatchPacket_eq {s : State} {l : Fin 4} {i : Fin 16} {p : PacketRecord} (hi : p.slot = i.val) :
    s.dispatchPacket l p =
      if (s.judgeRecord l i p).isAccept && decide (s.freeCells < cellsFor p.payload.length) then
        .fault .cellPoolExhausted
      else .next (s.applyVerdict l i p (s.judgeRecord l i p)) := by
  have hlt : p.slot < 16 := by rw [hi]; exact i.isLt
  have hfin : (⟨p.slot, hlt⟩ : Fin 16) = i := Fin.ext hi
  unfold State.dispatchPacket
  rw [dif_pos hlt]
  dsimp only
  rw [hfin]

/-- A PACKET in order whose verdict is carried out. -/
theorem exec_packetRecord_judged {s : State} {l : Fin 4} {bytes : List Byte} {i : Fin 16} {v : PacketVerdict}
    (hon : s.power = .on) (hform : packetForm bytes = true) (hseq : s.inOrder l (recordSeq bytes))
    (hi : (parsePacket bytes).slot = i.val) (hv : s.judgeRecord l i (parsePacket bytes) = v)
    (hcells : v.isAccept = true → cellsFor (parsePacket bytes).payload.length ≤ s.freeCells) :
    exec (.packetRecord l bytes) s =
      .next ((s.noteTaken l (recordSeq bytes)).applyVerdict l i (parsePacket bytes) v) := by
  rw [exec_packetRecord, hform, State.takeRecord_inOrder hon hseq, State.dispatchPacket_eq hi,
    State.judgeRecord_noteTaken, hv, if_neg]
  rw [Bool.and_eq_true, decide_eq_true_eq]
  exact fun ⟨haccept, hfew⟩ => absurd hfew (Nat.not_lt.mpr (hcells haccept))

section

variable {t : Slot} {v index : Nat}

theorem judgePacket_lateArrival (h : extendFrame t.fc v < t.fc) : judgePacket t v index = .error .lateArrival :=
  if_pos h

theorem judgePacket_ahead (h : (t.fc : Int) + 3 < extendFrame t.fc v) : judgePacket t v index = .error .ahead :=
  (if_neg (by omega)).trans (if_pos h)

variable (hlow : (t.fc : Int) ≤ extendFrame t.fc v) (hhigh : extendFrame t.fc v ≤ (t.fc : Int) + 3)
include hlow hhigh

theorem judgePacket_overlong (h : t.k ≤ index) : judgePacket t v index = .error .overlong :=
  (if_neg (by omega)).trans ((if_neg (by omega)).trans (if_pos h))

/-- A packet of a frame and an index that are taken is judged by its order (R79). -/
theorem judgePacket_placed (h : index < t.k) :
    judgePacket t v index =
      if !afterLast t.intake.lastAccepted (extendFrame t.fc v).toNat index then .error .order
      else .ok (extendFrame t.fc v).toNat :=
  (if_neg (by omega)).trans ((if_neg (by omega)).trans (if_neg (by omega)))

end

/-! ## What a drop does (R66, R84) -/

/-- A record is taken and dropped with `c` cells charged: the expectation moves, entries and counters are those named,
and the cells come back as pending credit where they are refunded. -/
def State.DroppedAs (s t : State) (l : Fin 4) (q : LaneSeq) (c : Nat) (entries : List Entry) (active : Bank)
    (refunds : Bool) : Prop :=
  t = { s with lanes := t.lanes, entries := entries, active := active }
    ∧ (∀ m : Fin 4, m ≠ l → t.lane m = s.lane m)
    ∧ t.lane l =
        { s.lane l with
          expectation := some (q + 1)
          account :=
            if refunds ∧ c ≤ (s.lane l).account.outstanding then
              ({ (s.lane l).account with outstanding := (s.lane l).account.outstanding - c } : Account).addPending c
                s.now
            else (s.lane l).account }

namespace State.DroppedAs

variable {s t : State} {l : Fin 4} {q : LaneSeq} {c : Nat} {es : List Entry} {b : Bank} {r : Bool}

/-- A record that is taken, before its verdict. -/
theorem noteTaken (s : State) (l : Fin 4) (q : LaneSeq) (c : Nat) :
    s.DroppedAs (s.noteTaken l q) l q c s.entries (s.countLane l .records 1).active false :=
  ⟨rfl, fun m hm => State.lane_noteTaken_ne s l m q hm, by rw [State.lane_noteTaken_self]; rfl⟩

/-- A counter of the lane moves. -/
theorem countLane (h : s.DroppedAs t l q c es b r) (k : LaneCounter) :
    s.DroppedAs (t.countLane l k 1) l q c es (({ t with active := b } : State).countLane l k 1).active r := by
  obtain ⟨ht, hother, hlane⟩ := h
  exact ⟨by rw [ht]; rfl, hother, hlane⟩

/-- A counter of a slot moves. -/
theorem countSlot (h : s.DroppedAs t l q c es b r) (i : Fin 16) (k : SlotCounter) :
    s.DroppedAs (t.countSlot i k 1) l q c es (({ t with active := b } : State).countSlot i k 1).active r := by
  obtain ⟨ht, hother, hlane⟩ := h
  exact ⟨by rw [ht]; rfl, hother, hlane⟩

/-- The flags of an entry change. -/
theorem updEntry (h : s.DroppedAs t l q c es b r) (n : Nat) (f : Entry → Entry) :
    s.DroppedAs (t.updEntry n f) l q c (es.map fun e => if e.number = n then f e else e) b r := by
  obtain ⟨ht, hother, hlane⟩ := h
  exact ⟨by rw [ht]; rfl, hother, hlane⟩

/-- The charged cells come back as pending credit (R66). -/
theorem refund (h : s.DroppedAs t l q c es b false) : s.DroppedAs (t.refund l c) l q c es b true := by
  obtain ⟨ht, hother, hlane⟩ := h
  rw [if_neg (by simp)] at hlane
  have hacc : (t.lane l).account = (s.lane l).account := by rw [hlane]
  have hnow : t.now = s.now := by rw [ht]; rfl
  unfold State.refund
  rw [hacc, hnow]
  split
  · next hc =>
    refine ⟨by rw [ht]; rfl, fun m hm => (State.lane_updLane_ne t l m _ hm).trans (hother m hm), ?_⟩
    rw [State.lane_updAccount, hlane, if_pos ⟨rfl, hc⟩]
  · next hc =>
    refine ⟨ht, hother, ?_⟩
    rw [hlane, if_neg (by simp [hc])]

/-- A drop under a counter of the lane. -/
theorem dropPacket (s : State) (l : Fin 4) (q : LaneSeq) (c : Nat) (k : LaneCounter) :
    s.DroppedAs ((s.noteTaken l q).dropPacket l c k) l q c s.entries
      ((s.countLane l .records 1).countLane l k 1).active true :=
  ((noteTaken s l q c).countLane k).refund

/-- FULL is on the tail already (R84). -/
theorem markTailFull_set (h : s.DroppedAs t l q c s.entries b r) {i : Fin 16} {m : Nat} {e : Entry}
    (hm : (s.slot i).queue.getLast? = some m) (he : s.entry? m = some e) (hf : e.flags.full = true) :
    s.DroppedAs (t.markTailFull i) l q c s.entries b r := by
  obtain ⟨ht, -, -⟩ := id h
  have hm' : (t.slot i).queue.getLast? = some m := by rw [ht]; exact hm
  have he' : t.entry? m = some e := by rw [ht]; exact he
  have hsame : t.markTailFull i = t := by simp [State.markTailFull, hm', he', hf]
  rwa [hsame]

/-- FULL is set on the tail and counted (R84). -/
theorem markTailFull_clear (h : s.DroppedAs t l q c s.entries b r) {i : Fin 16} {m : Nat} {e : Entry}
    (hm : (s.slot i).queue.getLast? = some m) (he : s.entry? m = some e) (hf : e.flags.full = false) :
    s.DroppedAs (t.markTailFull i) l q c
      (s.entries.map fun x => if x.number = m then { x with flags := { x.flags with full := true } } else x)
      (({ t with active := b } : State).countSlot i .full 1).active r := by
  obtain ⟨ht, -, -⟩ := id h
  have hm' : (t.slot i).queue.getLast? = some m := by rw [ht]; exact hm
  have he' : t.entry? m = some e := by rw [ht]; exact he
  have hmark : t.markTailFull i =
      (t.updEntry m fun x => { x with flags := { x.flags with full := true } }).countSlot i .full 1 := by
    simp [State.markTailFull, hm', he', hf]
  rw [hmark]
  exact (h.updEntry m _).countSlot i .full

end State.DroppedAs

/-- A PACKET in order whose verdict is a drop. -/
theorem exec_packetRecord_dropped {s : State} {l : Fin 4} {bytes : List Byte} {i : Fin 16} {v : PacketVerdict}
    (hon : s.power = .on) (hform : packetForm bytes = true) (hseq : s.inOrder l (recordSeq bytes))
    (hi : (parsePacket bytes).slot = i.val) (hv : s.judgeRecord l i (parsePacket bytes) = v)
    (ha : v.isAccept = false) {es : List Entry} {b : Bank} {r : Bool}
    (hd : s.DroppedAs ((s.noteTaken l (recordSeq bytes)).applyVerdict l i (parsePacket bytes) v) l (recordSeq bytes)
      (cellsFor (parsePacket bytes).payload.length) es b r) :
    ∃ t, exec (.packetRecord l bytes) s = .next t ∧
      s.DroppedAs t l (recordSeq bytes) (cellsFor (parsePacket bytes).payload.length) es b r :=
  ⟨_, exec_packetRecord_judged hon hform hseq hi hv (by simp [ha]), hd⟩

/-- Settles O21: the verdict of each test of R65 and R79, and what its drop does. -/
theorem packetRecordDropsAreChargedAndRefunded : Obligations.PacketRecordDropsAreChargedAndRefunded := by
  intro s l bytes i
  dsimp only
  intro hon hform hseq hi
  have counted (k : LaneCounter) := State.DroppedAs.dropPacket s l (recordSeq bytes)
    (cellsFor (parsePacket bytes).payload.length) k
  have noted := State.DroppedAs.noteTaken s l (recordSeq bytes) (cellsFor (parsePacket bytes).payload.length)
  have refused (why : IntakeDrop)
      (hj : judgePacket (s.slot i) (parsePacket bytes).frameField (parsePacket bytes).index = .error why)
      (hp : s.packetPaid l i (parsePacket bytes)) (he : s.freeEntry ≠ none) (hq : (s.slot i).queue.length < 512) :=
    exec_packetRecord_dropped hon hform hseq hi (State.judgeRecord_refused hp he hq hj) rfl
      (noted.countSlot i (intakeDropCounter why)).refund
  refine ⟨fun hf => ?notOpen, fun hf hs => ?oversize, fun hf hs hc => ?noCredit, fun hp he => ?noEntry,
    fun m e hp hn hq hm he => ⟨fun hfull => ?tailSet, fun hclear => ?tailClear⟩, fun ⟨hp, he, hq⟩ hlt => ?late,
    fun ⟨hp, he, hq⟩ hgt => ?ahead, fun ⟨hp, he, hq⟩ h₁ h₂ hk => ?overlong, fun ⟨hp, he, hq⟩ h₁ h₂ hk ho => ?order⟩
  case notOpen =>
    exact exec_packetRecord_dropped hon hform hseq hi (State.judgeRecord_notOpen hf) rfl (counted .notOpen)
  case oversize =>
    exact exec_packetRecord_dropped hon hform hseq hi (State.judgeRecord_oversize hf hs) rfl (counted .oversize)
  case noCredit =>
    exact exec_packetRecord_dropped hon hform hseq hi (State.judgeRecord_noCredit hf hs hc) rfl
      (noted.countLane .noCredit)
  case noEntry =>
    exact exec_packetRecord_dropped hon hform hseq hi (State.judgeRecord_noEntry hp he) rfl (counted .noEntry)
  case tailSet =>
    exact exec_packetRecord_dropped hon hform hseq hi (State.judgeRecord_queueFull hp hn hq) rfl
      ((counted .queueFull).markTailFull_set hm he hfull)
  case tailClear =>
    exact exec_packetRecord_dropped hon hform hseq hi (State.judgeRecord_queueFull hp hn hq) rfl
      ((counted .queueFull).markTailFull_clear hm he hclear)
  case late => exact refused .lateArrival (judgePacket_lateArrival hlt) hp he hq
  case ahead => exact refused .ahead (judgePacket_ahead hgt) hp he hq
  case overlong => exact refused .overlong (judgePacket_overlong h₁ h₂ hk) hp he hq
  case order => exact refused .order ((judgePacket_placed h₁ h₂ hk).trans (if_pos (by rw [ho]; rfl))) hp he hq

end Sys2Proof.Machine

/-!
PROOF. An accepted PACKET: the cells it takes and what they hold, the entry that joins its queue (chapters 4 to 6): O20.
-/

namespace Sys2Proof.Machine

open Sys2Proof

/-! ## The cells a filling takes (R90) -/

/-- The numbers from `c` on are `c` itself and those from `c + 1` on. -/
theorem countP_from (held : List Nat) (c : Nat) :
    held.countP (fun x => decide (c ≤ x)) = held.countP (fun x => decide (c + 1 ≤ x)) + held.count c := by
  induction held with
  | nil => rfl
  | cons x xs ih =>
    simp only [List.countP_cons, List.count_cons, ih, decide_eq_true_eq, beq_iff_eq]
    split <;> split <;> split <;> omega

/-- As many cells are found as are wanted, while the cells still to try exceed the held ones among them by so many. -/
theorem lowestCells_length {held : List Nat} {fuel c need : Nat}
    (h : need + held.countP (fun x => decide (c ≤ x)) ≤ fuel) : (lowestCells held fuel c need).length = need := by
  induction fuel generalizing c need with
  | zero =>
    have : need = 0 := by omega
    simp [lowestCells, this]
  | succ fuel ih =>
    have hstep := countP_from held c
    cases need with
    | zero => simp [lowestCells]
    | succ need =>
      simp only [lowestCells]
      split
      · next hc =>
        have hpos : 0 < held.count c := List.count_pos_iff.mpr (by simpa using hc)
        exact ih (by omega)
      · rw [List.length_cons, ih (by omega)]

/-- A filling gets the cells it takes while so many are free. -/
theorem State.takeCells_length {s : State} {c : Nat} (h : c ≤ s.freeCells) : (s.takeCells c).length = c := by
  rcases Nat.eq_zero_or_pos c with rfl | hpos
  · simp [State.takeCells, lowestCells]
  · have hheld := List.countP_le_length (p := fun x => decide (0 ≤ x)) (l := s.heldCells)
    unfold State.freeCells at h
    exact lowestCells_length (by omega)

/-! ## What the cells hold (R90) -/

theorem cellBytes_eq : Config.cellBytes = 256 := rfl

/-- A byte of a cell's part of a payload lies below every later cell. -/
theorem lt_cell_of_lt {c x k n size : Nat} (h : c < x) (hk : k < c * size + min n size) : k < x * size :=
  calc
    k < c * size + size := by omega
    _ = (c + 1) * size := (Nat.succ_mul c size).symm
    _ ≤ x * size := Nat.mul_le_mul_right _ h

/-- Two memories that agree on a run of addresses read alike there. -/
theorem readBytes_congr {m m' : List Host.Cell} {a n : Nat} (h : ∀ k, a ≤ k → k < a + n → readMem m k = readMem m' k) :
    readBytes m a n = readBytes m' a n := by
  induction n generalizing a with
  | zero => rfl
  | succ n ih =>
    rw [readBytes, readBytes, h a (Nat.le_refl a) (by omega), ih fun k h₁ h₂ => h k (by omega) (by omega)]

/-- Writing a payload leaves the addresses below its cells. -/
theorem readMem_writePayload_below {m : List Host.Cell} (w : memWf m = true) {cells : List Nat} {a : Nat}
    (bs : List Byte) (h : ∀ c ∈ cells, a < c * Config.cellBytes) : readMem (writePayload m cells bs) a = readMem m a := by
  induction cells generalizing m bs with
  | nil => rfl
  | cons c cs ih =>
    rw [writePayload, ih (writeBytes_wf w _ _) _ fun x hx => h x (List.mem_cons_of_mem _ hx)]
    exact readMem_writeBytes_outside w _ (.inl (h c List.mem_cons_self))

/-- A payload written into the cells of a rising list is read back from them. -/
theorem payloadFrom_writePayload {m : List Host.Cell} (w : memWf m = true) {cells : List Nat} {bs : List Byte}
    (hrise : cells.Pairwise (· < ·)) (hfit : bs.length ≤ cells.length * Config.cellBytes) :
    payloadFrom (writePayload m cells bs) cells bs.length = bs := by
  induction cells generalizing m bs with
  | nil =>
    have hnil : bs = [] := List.eq_nil_of_length_eq_zero (by simpa using hfit)
    rw [hnil]
    rfl
  | cons c cs ih =>
    obtain ⟨hlow, hrest⟩ := List.pairwise_cons.mp hrise
    have hw := writeBytes_wf w (c * Config.cellBytes) (bs.take Config.cellBytes)
    have htake : (bs.take Config.cellBytes).length = min bs.length Config.cellBytes := by
      rw [List.length_take, Nat.min_comm]
    have hhead : readBytes (writePayload m (c :: cs) bs) (c * Config.cellBytes) (min bs.length Config.cellBytes) =
        bs.take Config.cellBytes := by
      rw [← htake]
      refine Eq.trans (readBytes_congr fun k _ hk => ?_) (readBytes_writeBytes w (c * Config.cellBytes) _)
      refine readMem_writePayload_below hw _ fun x hx => ?_
      exact lt_cell_of_lt (hlow x hx) (htake ▸ hk)
    have htail : payloadFrom (writePayload m (c :: cs) bs) cs (bs.length - Config.cellBytes) =
        bs.drop Config.cellBytes := by
      rw [writePayload, ← List.length_drop]
      refine ih hw hrest ?_
      rw [List.length_cons, cellBytes_eq] at hfit
      rw [List.length_drop, cellBytes_eq]
      omega
    rw [payloadFrom, hhead, htail, List.take_append_drop]

/-- The cells of a payload hold it. -/
theorem le_cellsFor (n : Nat) : n ≤ cellsFor n * Config.cellBytes := by
  have h : cellsFor n = (n + 255) / 256 := rfl
  rw [h, cellBytes_eq]
  omega

/-! ## The entry that joins its queue (R80, R92) -/

/-- A head that is formed, and the due set after it, change the context of their slot and the due set alone. -/
theorem State.refreshDue_formHead (s : State) (i : Fin 16) :
    (s.formHead i).refreshDue i =
      { s with
        slots := s.slots.set i ((s.formHead i).slot i), due := ((s.formHead i).refreshDue i).due } := by
  have hslots : (s.formHead i).slots = s.slots.set i ((s.formHead i).slot i) := by
    simp [State.formHead, State.updSlot, State.slot]
  rw [← hslots]
  rfl

section

variable (s : State) (n : Nat) (i : Fin 16) (l : Fin 4) (f k : Nat) (b : List Byte) (x y z : Bool)

/-- An acceptance before the head of the queue is looked at. -/
def State.filed : State :=
  ((s.fill n i (.lane l) f k b (acceptFlags (s.slot i) f k x y z)).updSlot i fun t =>
    { t with
      intake := acceptRecord t.intake f k y
      arrived := if f = t.fc then t.arrived + 1 else t.arrived }).countFlags i (acceptFlags (s.slot i) f k x y z)

/-- The entry a filling makes. -/
def State.filedEntry : Entry :=
  { number := n, slot := i, owner := .lane l, frame := f, index := k, payload := b.length,
    cells := s.takeCells (cellsFor b.length), flags := acceptFlags (s.slot i) f k x y z, stamp := none,
    holders := Holders.nobody.put .queued true }

theorem State.accept_filed :
    s.accept n i (.lane l) f k b x y z =
      if (s.slot i).queue = [] then ((s.filed n i l f k b x y z).formHead i).settleSlot i
      else s.filed n i l f k b x y z := rfl

/-- A filling's entry, queue and charge. -/
theorem State.fill_lane (g : ConditionFlags) :
    (s.fill n i (.lane l) f k b g).entries =
        insertEntry
          { number := n, slot := i, owner := .lane l, frame := f, index := k, payload := b.length,
            cells := s.takeCells (cellsFor b.length), flags := g, stamp := none,
            holders := Holders.nobody.put .queued true } s.entries
      ∧ (s.fill n i (.lane l) f k b g).slots = (s.updSlot i fun t => { t with queue := t.queue ++ [n] }).slots
      ∧ (s.fill n i (.lane l) f k b g).lanes =
          (s.updAccount l fun a => { a with outstanding := a.outstanding - cellsFor b.length }).lanes :=
  ⟨rfl, rfl, rfl⟩

theorem State.filed_entries :
    (s.filed n i l f k b x y z).entries = insertEntry (s.filedEntry n i l f k b x y z) s.entries := by
  obtain ⟨hentries, -, -⟩ := s.fill_lane n i l f k b (acceptFlags (s.slot i) f k x y z)
  rw [State.filed, State.countFlags_entries, State.updSlot_entries, hentries]
  rfl

theorem State.filed_launcher : (s.filed n i l f k b x y z).launcher = s.launcher := by
  simp [State.filed]

theorem State.filed_lanes :
    (s.filed n i l f k b x y z).lanes =
      (s.updAccount l fun a => { a with outstanding := a.outstanding - cellsFor b.length }).lanes := by
  obtain ⟨-, -, hlanes⟩ := s.fill_lane n i l f k b (acceptFlags (s.slot i) f k x y z)
  rw [State.filed, State.countFlags_lanes, State.updSlot_lanes, hlanes]

theorem State.filed_slots :
    (s.filed n i l f k b x y z).slots = s.slots.set i
      { s.slot i with
        queue := (s.slot i).queue ++ [n]
        intake := acceptRecord (s.slot i).intake f k y
        arrived := if f = (s.slot i).fc then (s.slot i).arrived + 1 else (s.slot i).arrived } := by
  obtain ⟨-, hslots, -⟩ := s.fill_lane n i l f k b (acceptFlags (s.slot i) f k x y z)
  rw [State.filed, State.countFlags_slots, State.updSlot, hslots]
  simp [State.updSlot, State.slot]
  rfl

theorem State.slot_filed :
    (s.filed n i l f k b x y z).slot i =
      { s.slot i with
        queue := (s.slot i).queue ++ [n]
        intake := acceptRecord (s.slot i).intake f k y
        arrived := if f = (s.slot i).fc then (s.slot i).arrived + 1 else (s.slot i).arrived } := by
  rw [State.slot, State.filed_slots]
  exact Vector.getElem_set_self i.isLt

/-- An acceptance that brings no choice of the launcher: behind the entry of the filling, only the context of the slot
and the due set differ. -/
theorem State.accept_unchosen (h : (s.slot i).queue ≠ [] ∨ s.launcher ≠ none) :
    ∃ (w : Slot) (due : Vector Bool 16),
      s.accept n i (.lane l) f k b x y z =
          { s.filed n i l f k b x y z with slots := s.slots.set i w, due := due }
        ∧ w.queue = (s.slot i).queue ++ [n] ∧ w.intake = acceptRecord (s.slot i).intake f k y
        ∧ w.arrived = if f = (s.slot i).fc then (s.slot i).arrived + 1 else (s.slot i).arrived := by
  have hslots := s.filed_slots n i l f k b x y z
  have hslot := s.slot_filed n i l f k b x y z
  rw [State.accept_filed]
  split
  · next hempty =>
    have hbusy : s.launcher ≠ none := h.resolve_left (not_not_intro hempty)
    obtain ⟨a, m, r, hd, hform⟩ := (s.filed n i l f k b x y z).formHead_slot_rest i
    rw [hslot] at hform
    refine ⟨((s.filed n i l f k b x y z).formHead i).slot i,
      (((s.filed n i l f k b x y z).formHead i).refreshDue i).due, ?_, by rw [hform], by rw [hform], by rw [hform]⟩
    rw [State.settleSlot, State.choice_of_busy (by simpa [State.filed_launcher] using hbusy)]
    rw [State.refreshDue_formHead, hslots, Vector.set_set]
  · refine ⟨(s.filed n i l f k b x y z).slot i, (s.filed n i l f k b x y z).due, ?_, by rw [hslot], by rw [hslot],
      by rw [hslot]⟩
    rw [hslot, ← hslots]

variable (h : (s.slot i).queue ≠ [] ∨ s.launcher ≠ none)
include h

/-- What an acceptance leaves of the context of its slot. -/
theorem State.slot_accept :
    let w := (s.accept n i (.lane l) f k b x y z).slot i
    w.queue = (s.slot i).queue ++ [n] ∧ w.intake = acceptRecord (s.slot i).intake f k y
      ∧ w.arrived = (s.slot i).arrived + if f = (s.slot i).fc then 1 else 0 := by
  obtain ⟨w, due, hacc, hqueue, hintake, harrived⟩ := s.accept_unchosen n i l f k b x y z h
  have hslot : (s.accept n i (.lane l) f k b x y z).slot i = w := by
    rw [hacc]
    exact Vector.getElem_set_self i.isLt
  rw [hslot]
  refine ⟨hqueue, hintake, ?_⟩
  rw [harrived]
  split <;> rfl

theorem State.otherSlotsSame_accept : s.otherSlotsSame (s.accept n i (.lane l) f k b x y z) i := by
  obtain ⟨w, due, hacc, -, -, -⟩ := s.accept_unchosen n i l f k b x y z h
  intro j hj
  rw [hacc]
  exact Vector.getElem_set_ne i.isLt j.isLt fun e => hj (Fin.ext e.symm)

theorem State.accept_entries :
    (s.accept n i (.lane l) f k b x y z).entries = insertEntry (s.filedEntry n i l f k b x y z) s.entries := by
  obtain ⟨w, due, hacc, -, -, -⟩ := s.accept_unchosen n i l f k b x y z h
  rw [hacc]
  exact s.filed_entries n i l f k b x y z

theorem State.lane_accept :
    (s.accept n i (.lane l) f k b x y z).lane l =
      { s.lane l with
        account := { (s.lane l).account with
          outstanding := (s.lane l).account.outstanding - cellsFor b.length } } := by
  obtain ⟨w, due, hacc, -, -, -⟩ := s.accept_unchosen n i l f k b x y z h
  rw [hacc]
  exact (congrArg (fun v : Vector Lane 4 => v[l]) (s.filed_lanes n i l f k b x y z)).trans (s.lane_updAccount l _)

theorem State.accept_launcher : (s.accept n i (.lane l) f k b x y z).launcher = s.launcher := by
  obtain ⟨w, due, hacc, -, -, -⟩ := s.accept_unchosen n i l f k b x y z h
  rw [hacc]
  exact s.filed_launcher n i l f k b x y z

end

/-- The payload of an accepted PACKET is read back from the cells of its entry (R90). -/
theorem State.payloadFrom_accept {s : State} (hmem : s.memoriesCanonical) {b : List Byte}
    (hcells : cellsFor b.length ≤ s.freeCells) (n : Nat) (i : Fin 16) (o : Owner) (f k : Nat) (x y z : Bool) :
    payloadFrom (s.accept n i o f k b x y z).cellMem (s.takeCells (cellsFor b.length)) b.length = b := by
  obtain ⟨hcell, -⟩ := hmem
  rw [State.accept_cellMem]
  refine payloadFrom_writePayload hcell (lowestCells_increasing ..) ?_
  rw [State.takeCells_length hcells]
  exact le_cellsFor b.length

/-- The verdict on a PACKET that passes every test (R65). -/
theorem State.judgeRecord_passes {s : State} {l : Fin 4} {i : Fin 16} {p : PacketRecord} {n f : Nat}
    (h : s.packetPasses l i p n f) : s.judgeRecord l i p = .accept n f := by
  obtain ⟨hstate, howner, htag, hsize, hcredit, hentry, hqueue, hframe, hlow, hhigh, hindex, hafter, -⟩ := h
  have hj : judgePacket (s.slot i) p.frameField p.index = .ok f := by
    rw [judgePacket_placed (by omega) (by omega) hindex, ← hframe, Int.toNat_natCast, hafter]
    rfl
  rw [State.judgeRecord_intake ⟨⟨hstate, howner, htag⟩, hsize, hcredit⟩ hentry hqueue, hj]

/-- Settles O20: the entry an accepted PACKET fills, its cells, its queue, its account and its intake record. -/
theorem packetRecordJoinsItsQueue : Obligations.PacketRecordJoinsItsQueue := by
  intro s l bytes i n f
  dsimp only
  intro hon hform hseq hi hpass hquiet
  have hv := State.judgeRecord_passes hpass
  obtain ⟨-, -, -, -, -, -, -, -, -, -, -, -, hcells⟩ := hpass
  have hexec := exec_packetRecord_judged hon hform hseq hi hv fun _ => hcells
  generalize parsePacket bytes = p at hcells hexec ⊢
  let u := (s.noteTaken l (recordSeq bytes)).countLane l .accepted 1
  have hbusy : (u.slot i).queue ≠ [] ∨ u.launcher ≠ none := hquiet
  obtain ⟨hqueue, hintake, harrived⟩ := u.slot_accept n i l f p.index p.payload p.first p.last p.cut hbusy
  have hentries := u.accept_entries n i l f p.index p.payload p.first p.last p.cut hbusy
  have hlane := u.lane_accept n i l f p.index p.payload p.first p.last p.cut hbusy
  have hu : u.lane l = { s.lane l with expectation := some (recordSeq bytes + 1) } := s.lane_noteTaken_self l _
  rw [hu] at hlane
  refine ⟨_, hexec, hqueue,
    ⟨u.filedEntry n i l f p.index p.payload p.first p.last p.cut, ?mem, rfl, rfl, rfl, rfl, rfl, rfl, rfl,
      State.takeCells_length hcells, rfl, rfl, rfl, fun hmem => State.payloadFrom_accept (s := u) hmem hcells ..⟩,
    ?kept, ?account, ?queue, ?expectation, hintake, harrived,
    u.otherSlotsSame_accept n i l f p.index p.payload p.first p.last p.cut hbusy,
    u.accept_launcher n i l f p.index p.payload p.first p.last p.cut hbusy, ?pathA, ?pathB, ?setting⟩
  case mem => exact hentries ▸ (mem_insertEntry ..).mpr (.inl rfl)
  case account => exact hlane ▸ rfl
  case queue => exact hlane ▸ rfl
  case expectation => exact hlane ▸ rfl
  case kept => exact fun e he => hentries ▸ (mem_insertEntry ..).mpr (.inr he)
  case pathA => simp [State.applyVerdict]
  case pathB => simp [State.applyVerdict]
  case setting => simp [State.sameSetting, State.applyVerdict]

end Sys2Proof.Machine

/-!
PROOF. The end of the power-on load: the parameters, the lanes and the paths it brings up (chapters 4, 7 and 11): O13.
-/

namespace Sys2Proof.Machine

open Sys2Proof

/-! ## A quota that is announced (R70) -/

/-- A lane whose account takes a quota and announces it. -/
def Lane.announced (x : Lane) (v : Nat) : Lane :=
  { x with account := Account.atQuota v, queue := (x.queue.filter fun t => !t.isCredit) ++ [.laneReady v] }

theorem State.takeQuota_lane (s : State) (l : Fin 4) (v : Nat) :
    s.takeQuota (.lane l) v = (s.updParams fun q => q.setQuota (.lane l) v).updLane l fun x => x.announced v := by
  unfold State.takeQuota State.queueLaneReady
  exact State.updLane_updLane ..

/-- The quota in use of an account. -/
theorem Params.setQuota_same (q : Params) (o : Owner) : q.setQuota o (q.quota o) = q := by
  cases o with
  | lane l =>
    have h : q.laneQuota.set l (q.quota (.lane l)) = q.laneQuota := Vector.set_getElem_self l.isLt
    rw [Params.setQuota, h]
  | pattern => rfl

/-- An account that takes the quota in use. -/
theorem State.takeQuota_same_lane (s : State) (l : Fin 4) :
    s.takeQuota (.lane l) s.params.laneQuota[l] = s.updLane l fun x => x.announced s.params.laneQuota[l] := by
  rw [State.takeQuota_lane, State.updParams, show s.params.laneQuota[l] = s.params.quota (.lane l) from rfl,
    Params.setQuota_same]

theorem State.takeQuota_same_pattern (s : State) :
    s.takeQuota .pattern s.params.patternQuota =
      { s with pattern := { s.pattern with outstanding := s.params.patternQuota } } := rfl

/-- Lanes of a list take the quotas in use, one after another. -/
def State.announceQuotas (s : State) (ls : List (Fin 4)) : State :=
  ls.foldl (fun s l => s.takeQuota (.lane l) s.params.laneQuota[l]) s

/-- Announcements of quotas change lanes alone. -/
theorem State.announceQuotas_frame (s : State) (ls : List (Fin 4)) :
    s.announceQuotas ls = { s with lanes := (s.announceQuotas ls).lanes } := by
  induction ls generalizing s with
  | nil => rfl
  | cons l ls ih =>
    have hcons : s.announceQuotas (l :: ls) =
        (s.updLane l fun x => x.announced s.params.laneQuota[l]).announceQuotas ls := by
      rw [← s.takeQuota_same_lane l]
      rfl
    rw [hcons]
    exact ih _

/-- Each lane of the list announces its quota; another lane stays. -/
theorem State.lane_announceQuotas (s : State) (ls : List (Fin 4)) (hls : ls.Nodup) (m : Fin 4) :
    (s.announceQuotas ls).lane m = if m ∈ ls then (s.lane m).announced s.params.laneQuota[m] else s.lane m := by
  induction ls generalizing s with
  | nil => rfl
  | cons l ls ih =>
    obtain ⟨hl, hrest⟩ := List.nodup_cons.mp hls
    have hcons : s.announceQuotas (l :: ls) =
        (s.updLane l fun x => x.announced s.params.laneQuota[l]).announceQuotas ls := by
      rw [← s.takeQuota_same_lane l]
      rfl
    rw [hcons, ih _ hrest, State.updLane_params]
    by_cases hm : m = l
    · subst hm
      rw [if_neg hl, if_pos List.mem_cons_self, State.lane_updLane]
    · rw [State.lane_updLane_ne _ _ _ _ hm]
      simp [hm]

/-! ## A path that starts (R107, R121) -/

/-- A PROBING path whose line is served carries a frame; entries stay. -/
theorem State.serveLine_probing {s : State} {p : PathId} (h : (s.path p).state = .probing) :
    ((s.serveLine p).path p).state = .probing ∧ ((s.serveLine p).path p).line ≠ .fill
      ∧ (s.serveLine p).entries = s.entries := by
  by_cases hl : (s.path p).line = .fill
  · have hs : s.serveLine p = s.serveProbing p := by simp [State.serveLine, Path.idleLine, hl, h]
    rw [hs]
    simp [State.serveProbing, h]
  · rw [State.serveLine_busy s p hl]
    exact ⟨h, hl, rfl⟩

/-- A path that enters PROBING carries a frame at once; entries stay (R121). -/
theorem State.startProbing_probing (s : State) (p : PathId) :
    ((s.startProbing p).path p).state = .probing ∧ ((s.startProbing p).path p).line ≠ .fill
      ∧ (s.startProbing p).entries = s.entries := by
  unfold State.startProbing
  generalize hu : s.updPath p _ = u
  have hstate : (u.path p).state = .probing := by rw [← hu, State.path_updPath]
  have hentries : u.entries = s.entries := by rw [← hu, State.updPath_entries]
  rw [← hentries]
  exact State.serveLine_probing hstate

/-- A start probes the path where it is enabled, and leaves it otherwise. -/
theorem State.path_startPath (s : State) (p : PathId) :
    if (s.params.path p).enabled then
      ((s.startPath p).path p).state = .probing ∧ ((s.startPath p).path p).line ≠ .fill
    else (s.startPath p).path p = s.path p := by
  unfold State.startPath
  split
  · obtain ⟨hstate, hline, -⟩ := s.startProbing_probing p
    exact ⟨hstate, hline⟩
  · rfl

theorem State.path_startPath_other (s : State) (p : PathId) :
    (s.startPath p).path (otherPath p) = s.path (otherPath p) := by
  unfold State.startPath
  split <;> simp

/-- What a start leaves of the part. -/
theorem State.startPath_frame (s : State) (p : PathId) :
    (s.startPath p).params = s.params ∧ (s.startPath p).port = s.port ∧ (s.startPath p).lanes = s.lanes
      ∧ (s.startPath p).pattern = s.pattern ∧ (s.startPath p).slots = s.slots ∧ (s.startPath p).house = s.house
      ∧ (s.startPath p).store = s.store ∧ (s.startPath p).entries = s.entries := by
  obtain ⟨-, -, hentries⟩ := s.startProbing_probing p
  unfold State.startPath
  split
  · simp [hentries]
  · exact ⟨rfl, rfl, rfl, rfl, rfl, rfl, rfl, rfl⟩

/-- What the starts of both paths leave of the part. -/
theorem State.startPaths_frame (s : State) :
    let t := (s.startPath .a).startPath .b
    t.params = s.params ∧ t.port = s.port ∧ t.lanes = s.lanes ∧ t.pattern = s.pattern ∧ t.slots = s.slots
      ∧ t.house = s.house ∧ t.store = s.store ∧ t.entries = s.entries := by
  obtain ⟨hparamsA, hportA, hlanesA, hpatternA, hslotsA, hhouseA, hstoreA, hentriesA⟩ := s.startPath_frame .a
  obtain ⟨hparamsB, hportB, hlanesB, hpatternB, hslotsB, hhouseB, hstoreB, hentriesB⟩ :=
    (s.startPath .a).startPath_frame .b
  exact ⟨hparamsB.trans hparamsA, hportB.trans hportA, hlanesB.trans hlanesA, hpatternB.trans hpatternA,
    hslotsB.trans hslotsA, hhouseB.trans hhouseA, hstoreB.trans hstoreA, hentriesB.trans hentriesA⟩

/-- Both paths start by their flags (R107). -/
theorem State.path_startPaths (s : State) (p : PathId) :
    if (s.params.path p).enabled then
      (((s.startPath .a).startPath .b).path p).state = .probing ∧ (((s.startPath .a).startPath .b).path p).line ≠ .fill
    else ((s.startPath .a).startPath .b).path p = s.path p := by
  cases p with
  | a =>
    have h : ((s.startPath .a).startPath .b).path .a = (s.startPath .a).path .a :=
      (s.startPath .a).path_startPath_other .b
    rw [h]
    exact s.path_startPath .a
  | b =>
    obtain ⟨hparams, -⟩ := s.startPath_frame .a
    have h : (s.startPath .a).path .b = s.path .b := s.path_startPath_other .a
    rw [← hparams, ← h]
    exact (s.startPath .a).path_startPath .b

/-! ## The end of the load (R179) -/

/-- The part with its parameters loaded, before lanes and paths come up. -/
def State.paramsLoaded (s : State) : State :=
  let u := { s with params := if s.store.valid then s.store.image else Params.default }
  let u := u.updPort fun q => { q with storeState := s.store.valid }
  if s.store.valid then u else u.latch .storeInvalid

/-- The part with its lanes up, before the Pattern Source and the paths. -/
def State.lanesLoaded (s : State) : State := s.paramsLoaded.clearQueues.announceQuotas allLanes

theorem State.finishLoad_eq (s : State) :
    s.finishLoad =
      { ((s.lanesLoaded.takeQuota .pattern s.lanesLoaded.params.patternQuota).startPath .a).startPath .b with
        power := .on } := rfl

theorem State.paramsLoaded_eq (s : State) :
    s.paramsLoaded =
      { s with
        params := if s.store.valid then s.store.image else Params.default
        port := { s.port with
          storeState := s.store.valid
          causes := if s.store.valid then s.port.causes else s.port.causes ||| 0x80 } } := by
  unfold State.paramsLoaded
  cases hv : s.store.valid
  · rfl
  · rfl

/-- The lanes come up alone. -/
theorem State.lanesLoaded_frame (s : State) :
    s.lanesLoaded = { s.paramsLoaded with lanes := s.lanesLoaded.lanes } :=
  State.announceQuotas_frame ..

/-- Each lane comes up with its quota outstanding, and LANE READY alone in its queue (R75). -/
theorem State.lane_lanesLoaded (s : State) (l : Fin 4) :
    (s.lanesLoaded.lane l).expectation = none
      ∧ (s.lanesLoaded.lane l).queue = [.laneReady s.paramsLoaded.params.laneQuota[l]]
      ∧ (s.lanesLoaded.lane l).account = ⟨s.paramsLoaded.params.laneQuota[l], 0, none, false⟩ := by
  have h := s.paramsLoaded.clearQueues.lane_announceQuotas allLanes (List.nodup_finRange 4) l
  have hclear : s.paramsLoaded.clearQueues.lane l = { s.paramsLoaded.lane l with queue := [], expectation := none } :=
    Vector.getElem_map ..
  have hl : l ∈ allLanes := List.mem_finRange l
  rw [if_pos hl, hclear] at h
  rw [State.lanesLoaded, h]
  exact ⟨rfl, rfl, rfl⟩

/-- The part before its paths start: parameters, port, lanes and the Pattern Source's account are loaded. -/
def State.accountsLoaded (s : State) : State := s.lanesLoaded.takeQuota .pattern s.lanesLoaded.params.patternQuota

theorem State.accountsLoaded_eq (s : State) :
    s.accountsLoaded =
      { s.paramsLoaded with
        lanes := s.lanesLoaded.lanes
        pattern := { s.pattern with outstanding := s.paramsLoaded.params.patternQuota } } := by
  rw [State.accountsLoaded, State.takeQuota_same_pattern, State.lanesLoaded_frame, State.paramsLoaded_eq]

/-- Settles O13: the load's parameters, the accounts at their quotas, and the paths that start. -/
theorem powerOnLoadBringsThePartUp : Obligations.PowerOnLoadBringsThePartUp := by
  intro s hp
  have hexec : exec .powerOnLoad s = .next s.finishLoad := congrArg _ (if_pos hp)
  have hload := s.accountsLoaded_eq
  have hlane := s.lane_lanesLoaded
  rw [s.paramsLoaded_eq] at hload hlane
  rw [s.finishLoad_eq] at hexec
  change _ = Host.Outcome.next { (s.accountsLoaded.startPath .a).startPath .b with power := .on } at hexec
  have hpaths := s.accountsLoaded.path_startPaths
  obtain ⟨hparams, hport, hlanes, hpattern, hslots, hhouse, hstore, hentries⟩ := s.accountsLoaded.startPaths_frame
  generalize (s.accountsLoaded.startPath .a).startPath .b = t at *
  rw [hload] at hparams hport hlanes hpattern hslots hhouse hstore hentries hpaths
  refine ⟨_, hexec, rfl, hparams, congrArg Port.storeState hport, hport, fun l => ?lanes, ?outstanding,
    fun p => ?paths, hslots, hhouse, hstore, hentries⟩
  case lanes =>
    have hl : t.lane l = s.lanesLoaded.lane l := congrArg (fun v : Vector Lane 4 => v[l]) hlanes
    change (t.lane l).expectation = none ∧ (t.lane l).queue = [.laneReady t.params.laneQuota[l]]
      ∧ (t.lane l).account = ⟨t.params.laneQuota[l], 0, none, false⟩
    rw [hl, hparams]
    exact hlane l
  case outstanding =>
    change t.pattern.outstanding = t.params.patternQuota
    rw [hpattern, hparams]
  case paths =>
    change if (t.params.path p).enabled then (t.path p).state = .probing ∧ (t.path p).line ≠ .fill
      else t.path p = s.path p
    rw [hparams]
    exact hpaths p

end Sys2Proof.Machine

/-!
PROOF. Writes of parameter rows through the port: the bytes a transaction places, the items it takes, and the path
parameters and quotas (chapters 4, 7 and 11): O58.
-/

namespace Sys2Proof.Machine

open Sys2Proof

/-! ## The bytes a transaction places (R172, R173) -/

/-- Short of the end of its row the offset rises by one. -/
theorem nextInRow_of_lt {off : Nat} (h : off % 16 + 1 < 16) : nextInRow off = off + 1 := by
  unfold nextInRow
  omega

/-- The offset a run of `n` data bytes leaves. -/
theorem nextInRow_iterate (n off : Nat) (hn : 0 < n) : nextInRow^[n] off = off / 16 * 16 + (off + n) % 16 := by
  induction n, hn using Nat.le_induction with
  | base => rfl
  | succ n hn ih =>
    rw [Function.iterate_succ_apply', ih]
    unfold nextInRow
    omega

/-- Behind its first byte a run goes on one offset higher, as far as its row reaches. -/
theorem placed_nextInRow {off : Nat} {bytes : List Byte} (h : off % 16 + bytes.length < 16) :
    placed (nextInRow off) bytes = placed (off + 1) bytes := by
  cases bytes with
  | nil => rfl
  | cons b bs => rw [nextInRow_of_lt (by rw [List.length_cons] at h; omega)]

theorem lastWritten_cons (off x : Nat) (b : Byte) (w : List (Nat × Byte)) :
    lastWritten ((off, b) :: w) x = (lastWritten w x).or (if off = x then some b else none) := by
  unfold lastWritten
  by_cases h : off = x
  · rw [List.filter_cons_of_pos (by simpa using h), List.getLast?_cons, if_pos h]
    generalize (w.filter fun y => decide (y.1 = x)).getLast? = o
    cases o <;> rfl
  · rw [List.filter_cons_of_neg (by simpa using h), if_neg h, Option.or_none]

section

variable {off : Nat} {bytes : List Byte} (hrow : off % 16 + bytes.length ≤ 16)
include hrow

/-- Bytes within a row stand one after another from their first offset on. -/
theorem lastWritten_placed (x : Nat) :
    lastWritten (placed off bytes) x = if off ≤ x then bytes[x - off]? else none := by
  induction bytes generalizing off with
  | nil => simp [placed, lastWritten]
  | cons b bs ih =>
    rw [List.length_cons] at hrow
    rw [placed, lastWritten_cons, placed_nextInRow (by omega), ih (by omega)]
    rcases Nat.lt_trichotomy off x with h | h | h
    · have hx : x - off = x - (off + 1) + 1 := by omega
      rw [if_pos (by omega), if_neg (by omega), if_pos (by omega), Option.or_none, hx, List.getElem?_cons_succ]
    · subst h
      simp
    · rw [if_neg (by omega), if_neg (by omega), if_neg (by omega)]
      rfl

/-- The offsets a run within a row reaches. -/
theorem mem_placed {x : Nat × Byte} (h : x ∈ placed off bytes) : off ≤ x.1 ∧ x.1 < off + bytes.length := by
  induction bytes generalizing off with
  | nil => cases h
  | cons b bs ih =>
    rw [List.length_cons] at hrow ⊢
    rw [placed, List.mem_cons, placed_nextInRow (by omega)] at h
    rcases h with rfl | h
    · exact ⟨Nat.le_refl _, by omega⟩
    · have := ih (by omega) h
      omega

/-- An item that no byte of the run reaches is not written. -/
theorem State.written_outside (s : State) (page : Nat) {lo n : Nat} (h : lo + n ≤ off ∨ off + bytes.length ≤ lo) :
    s.written (placed off bytes) page lo n = none := by
  refine if_neg fun hany => ?_
  obtain ⟨x, hx, hin⟩ := List.any_eq_true.mp hany
  rw [Bool.and_eq_true, decide_eq_true_eq, decide_eq_true_eq] at hin
  have := mem_placed hrow hx
  omega

/-- An item that lies within the run takes its bytes of it. -/
theorem State.written_inside (s : State) (page : Nat) {k n : Nat} (hn : 0 < n) (h : k + n ≤ bytes.length) :
    s.written (placed off bytes) page (off + k) n = some ((bytes.drop k).take n) := by
  have hlast (j : Nat) : lastWritten (placed off bytes) (off + k + j) = bytes[k + j]? := by
    rw [lastWritten_placed hrow, if_pos (by omega), Nat.add_assoc, Nat.add_sub_cancel_left]
  have hany : (placed off bytes).any (fun x => decide (off + k ≤ x.1) && decide (x.1 < off + k + n)) = true := by
    have h0 := hlast 0
    rw [List.getElem?_eq_getElem (by omega), lastWritten, Option.map_eq_some_iff] at h0
    obtain ⟨x, hx, -⟩ := h0
    have hx := List.mem_of_getLast? hx
    rw [List.mem_filter, decide_eq_true_eq] at hx
    exact List.any_eq_true.mpr ⟨x, hx.1, by simp [hx.2, hn]⟩
  rw [State.written, if_pos hany]
  congr 1
  refine List.ext_getElem (by simp; omega) fun j h₁ h₂ => ?_
  have hj : k + j < bytes.length := by simp at h₁; omega
  simp [hlast, List.getElem?_eq_getElem hj]

end

/-! ## A write of a parameter row (R172, R173) -/

/-- The port points at an offset of a page, as a write transaction has left it. -/
def State.pointed (s : State) (page off : Nat) : State := { s with port := s.port.wrote page off }

/-- A data byte of a parameter page moves the pointer alone. -/
theorem State.putByte_pointed (s : State) {page off : Nat} (hlow : page < 32) (hone : page ≠ 1) (b : Byte) :
    (s.pointed page off).putByte b = s.pointed page (nextInRow off) := by
  have hpat : isPatternPage page = false := by simp [isPatternPage, patternFirst]; omega
  have hbyte : (s.pointed page off).byteEffect page off b = s.pointed page off := by
    simp [State.byteEffect, hpat, hone]
  rw [State.putByte]
  change State.resumed _ (((s.pointed page off).byteEffect page off b).updPort _) = _
  rw [hbyte]
  exact State.resumed_same _ _ rfl rfl

theorem State.foldl_putByte_pointed (s : State) {page : Nat} (hlow : page < 32) (hone : page ≠ 1) (data : List Byte)
    (off : Nat) : data.foldl State.putByte (s.pointed page off) = s.pointed page (nextInRow^[data.length] off) := by
  induction data generalizing off with
  | nil => rfl
  | cons b bs ih => rw [List.foldl_cons, s.putByte_pointed hlow hone, ih, List.length_cons, Function.iterate_succ_apply]

/-- A ready port takes a write to a parameter row: the pointer moves, and the items answer. -/
theorem State.writeAt_row {s : State} (h : s.hostReady) {page off : Nat} (hlow : page < 32) (hone : page ≠ 1)
    (hoff : off < 256) {data : List Byte} (hdata : data ≠ []) {items : List (State → ItemAnswer)}
    (hrow : rowItems (placed off data) page (off / 16) = some items) :
    s.writeAt page off data =
      s.resumed (ItemAnswer.report (takeItems
        (s.pointed page (off / 16 * 16 + (off + data.length) % 16)) items)) := by
  obtain ⟨-, -, hext⟩ := id h
  have hpoint : (s.updPort fun q => { q with page := page, offset := off, extension := false, reading := none }) =
      s.pointed page off := by
    rw [← hext]
    rfl
  have hput : (s.pointed page off).putData data =
      (data.foldl State.putByte (s.pointed page off)).rowEvent (placed off data) page (off / 16) := by
    cases data with
    | nil => exact absurd rfl hdata
    | cons b bs => rfl
  rw [State.writeAt_ready h page off (by omega) hoff, hpoint, hput, s.foldl_putByte_pointed hlow hone,
    nextInRow_iterate _ _ (List.length_pos_iff.mpr hdata), State.rowEvent, hrow]
  exact State.resumed_from _ s _ rfl rfl

/-- The write of a row whose items are taken and change parameters alone. -/
theorem State.writeAt_params {s : State} (h : s.hostReady) {page off : Nat} (hlow : page < 32) (hone : page ≠ 1)
    (hoff : off < 256) {data : List Byte} (hdata : data ≠ []) {items : List (State → ItemAnswer)}
    (hrow : rowItems (placed off data) page (off / 16) = some items) {f : Params → Params}
    (htake : ∀ u : State, takeItems u items = (u.updParams f, none)) :
    s.writeAt page off data =
      { s with
        params := f s.params
        port := s.port.tookWrite page (off / 16 * 16 + (off + data.length) % 16) } := by
  rw [State.writeAt_row h hlow hone hoff hdata hrow, htake]
  exact State.resumed_same _ _ rfl rfl

/-! ## Items (R173) -/

/-- An item that the transaction has not written. -/
def Skips (f : State → ItemAnswer) : Prop := ∀ s : State, f s = (s, none)

theorem takeItems_skips {fs : List (State → ItemAnswer)} (h : ∀ f ∈ fs, Skips f) (s : State) :
    takeItems s fs = (s, none) := by
  induction fs with
  | nil => rfl
  | cons f fs ih =>
    obtain ⟨hf, hfs⟩ := List.forall_mem_cons.mp h
    rw [takeItems, hf s, ih hfs]
    rfl

theorem takeItems_cons_skips {f : State → ItemAnswer} (hf : Skips f) (fs : List (State → ItemAnswer)) (s : State) :
    takeItems s (f :: fs) = takeItems s fs := by
  rw [takeItems, hf s]
  rfl

/-- The one item of a row that is written answers for the row. -/
theorem takeItems_cons_only {f : State → ItemAnswer} {fs : List (State → ItemAnswer)} (h : ∀ g ∈ fs, Skips g)
    (s : State) : takeItems s (f :: fs) = f s := by
  rw [takeItems, takeItems_skips h, Option.or_none]

section

variable {off : Nat} {bytes : List Byte} (hrow : off % 16 + bytes.length ≤ 16)
include hrow

/-- An item that the run does not reach is not written. -/
theorem skips_outside (page : Nat) {lo n : Nat} (h : lo + n ≤ off ∨ off + bytes.length ≤ lo)
    (take : State → Nat → ItemAnswer) : Skips fun s => s.takeItem (placed off bytes) page lo n take := fun s => by
  simp only [State.takeItem, State.written_outside hrow s page h]

/-- An item that lies within the run takes the value of its bytes. -/
theorem State.takeItem_inside (s : State) (page : Nat) {k n : Nat} (hn : 0 < n) (h : k + n ≤ bytes.length)
    (take : State → Nat → ItemAnswer) :
    s.takeItem (placed off bytes) page (off + k) n take = take s (leNat ((bytes.drop k).take n)) := by
  rw [State.takeItem, State.written_inside hrow s page hn h]

/-- An item written alone, from its first byte to its last. -/
theorem State.takeItem_written (s : State) (page : Nat) {n : Nat} (hn : 0 < n) (hlen : bytes.length = n)
    (take : State → Nat → ItemAnswer) : s.takeItem (placed off bytes) page off n take = take s (leNat bytes) := by
  have h := State.takeItem_inside hrow s page (k := 0) hn (by omega) take
  rwa [Nat.add_zero, List.drop_zero, List.take_of_length_le (by omega)] at h

end

theorem leNat_word (v : BitVec 16) : leNat (leBytes 2 v.toNat) = v.toNat := by
  rw [leNat_leBytes]
  exact Nat.mod_eq_of_lt v.isLt

theorem ne_nil_of_length {α : Type} {xs : List α} {n : Nat} (h : xs.length = n) (hn : 0 < n) : xs ≠ [] :=
  List.ne_nil_of_length_pos (h ▸ hn)

/-! ## Path parameters (R128) -/

theorem pathPage_eq (p : PathId) : pathPage p = 7 + pathCode p := by cases p <;> rfl

theorem pathPage_lt (p : PathId) : pathPage p < 32 := by cases p <;> decide

theorem pathPage_ne_one (p : PathId) : pathPage p ≠ 1 := by cases p <;> decide

/-- The items of row 4 of a path page. -/
def pathRow (w : List (Nat × Byte)) (p : PathId) : List (State → ItemAnswer) :=
  [fun s => s.takeItem w (pathPage p) 64 2 (takeSilence p), fun s => s.takeItem w (pathPage p) 66 2 (takeHoldoff p),
    fun s => s.takeItem w (pathPage p) 68 1 (takeNGood p)]

theorem rowItems_pathRow (w : List (Nat × Byte)) (p : PathId) : rowItems w (pathPage p) 4 = some (pathRow w p) := by
  cases p <;> rfl

theorem rowItems_settings (w : List (Nat × Byte)) (p : PathId) :
    rowItems w (pathPage p) 5 = some (byteRow w (pathPage p) 80 (takeSetting p)) := by
  cases p <;> rfl

section

variable {bytes : List Byte} (p : PathId) (u : State)

theorem takeItems_silence (h : bytes.length = 2) :
    takeItems u (pathRow (placed 64 bytes) p) = takeSilence p u (leNat bytes) := by
  have hrow : 64 % 16 + bytes.length ≤ 16 := by omega
  rw [pathRow, takeItems_cons_only, State.takeItem_written hrow u _ (by decide) h]
  exact List.forall_mem_cons.mpr ⟨skips_outside hrow _ (by omega) _,
    List.forall_mem_singleton.mpr (skips_outside hrow _ (by omega) _)⟩

theorem takeItems_holdoff (h : bytes.length = 2) :
    takeItems u (pathRow (placed 66 bytes) p) = takeHoldoff p u (leNat bytes) := by
  have hrow : 66 % 16 + bytes.length ≤ 16 := by omega
  rw [pathRow, takeItems_cons_skips (skips_outside hrow _ (by omega) _), takeItems_cons_only,
    State.takeItem_written hrow u _ (by decide) h]
  exact List.forall_mem_singleton.mpr (skips_outside hrow _ (by omega) _)

theorem takeItems_nGood (h : bytes.length = 1) :
    takeItems u (pathRow (placed 68 bytes) p) = takeNGood p u (leNat bytes) := by
  have hrow : 68 % 16 + bytes.length ≤ 16 := by omega
  rw [pathRow, takeItems_cons_skips (skips_outside hrow _ (by omega) _),
    takeItems_cons_skips (skips_outside hrow _ (by omega) _), takeItems_cons_only (List.forall_mem_nil _),
    State.takeItem_written hrow u _ (by decide) h]

end

/-- The write of a row of a path page that changes parameters alone. -/
theorem State.writeAt_path {s : State} (h : s.hostReady) (p : PathId) {off : Nat} (hoff : off < 256) {data : List Byte}
    (hdata : data ≠ []) {items : List (State → ItemAnswer)}
    (hrow : rowItems (placed off data) (pathPage p) (off / 16) = some items) {f : PathParams → PathParams}
    (htake : ∀ u : State, takeItems u items = (u.updParams fun q => q.updPath p f, none)) {off' : Nat}
    (hoff' : off / 16 * 16 + (off + data.length) % 16 = off') :
    s.writeAt (pathPage p) off data =
      { s with params := s.params.updPath p f, port := s.port.tookWrite (7 + pathCode p) off' } := by
  rw [State.writeAt_params h (pathPage_lt p) (pathPage_ne_one p) hoff hdata hrow htake, hoff', pathPage_eq]

/-! ## The module settings block (R128) -/

/-- Bytes that settings of these numbers take, one after another. -/
def settingsWith (g : Nat → Byte) (ks : List Nat) (v : Vector Byte 16) : Vector Byte 16 :=
  ks.foldl (fun v k => v.setIfInBounds k (g k)) v

theorem getElem_settingsWith (g : Nat → Byte) (ks : List Nat) (v : Vector Byte 16) {i : Nat} (hi : i < 16) :
    (settingsWith g ks v)[i] = if i ∈ ks then g i else v[i] := by
  induction ks generalizing v with
  | nil => rfl
  | cons k ks ih =>
    refine (ih (v.setIfInBounds k (g k))).trans ?_
    rw [Vector.getElem_setIfInBounds hi]
    by_cases hk : k = i
    · simp [hk]
    · simp [hk, Ne.symm hk]

theorem Params.updPath_updPath (q : Params) (p : PathId) (f g : PathParams → PathParams) :
    (q.updPath p f).updPath p g = q.updPath p fun x => g (f x) := by
  cases p <;> rfl

/-- The one-byte items that lie within a run each take their byte. -/
theorem takeItems_settings {bytes : List Byte} (hlen : bytes.length = 16) (p : PathId) (ks : List Nat)
    (hks : ∀ k ∈ ks, k < 16) (u : State) :
    takeItems u (ks.map fun k s => s.takeItem (placed 80 bytes) (pathPage p) (80 + k) 1 (takeSetting p k)) =
      (u.updParams fun q => q.updPath p fun x =>
        { x with settings := settingsWith (fun k => bytes.getD k 0) ks x.settings }, none) := by
  induction ks generalizing u with
  | nil => cases p <;> rfl
  | cons k ks ih =>
    obtain ⟨hk, hrest⟩ := List.forall_mem_cons.mp hks
    have hitem : u.takeItem (placed 80 bytes) (pathPage p) (80 + k) 1 (takeSetting p k) =
        (u.updParams fun q => q.updPath p fun x =>
          { x with settings := x.settings.setIfInBounds k (bytes.getD k 0) }, none) := by
      have hbyte : leNat ((bytes.drop k).take 1) = (bytes.getD k 0).toNat := by
        rw [List.drop_eq_getElem_cons (by omega), List.getD_eq_getElem _ _ (by omega)]
        rfl
      rw [State.takeItem_inside (by omega) u _ (by decide) (by omega), hbyte, takeSetting, always, BitVec.ofNat_toNat,
        BitVec.setWidth_eq]
    rw [List.map_cons, takeItems, hitem, ih hrest, State.updParams, State.updParams, Params.updPath_updPath]
    rfl

section

variable {s : State} (h : s.hostReady) (p : PathId)
include h

theorem exec_silenceWrite (v : BitVec 16) :
    exec (.pathParameterWrite p (.silence v)) s =
      .next
        { s with
          params := s.params.updPath p fun x => { x with silenceTime := max 100 (min 10000 v.toNat) }
          port := s.port.tookWrite (7 + pathCode p) 66 } := by
  have hlen : (leBytes 2 v.toNat).length = 2 := leBytes_length 2 _
  refine congrArg Host.Outcome.next (State.writeAt_path h p (off := 64) (by decide) (ne_nil_of_length hlen (by decide))
    (rowItems_pathRow _ p) (fun u => ?_) (by rw [hlen]))
  rw [takeItems_silence p u hlen, leNat_word]
  rfl

theorem exec_holdoffWrite (v : BitVec 16) :
    exec (.pathParameterWrite p (.holdoff v)) s =
      .next
        { s with
          params := s.params.updPath p fun x => { x with holdoff := min 1000 v.toNat }
          port := s.port.tookWrite (7 + pathCode p) 68 } := by
  have hlen : (leBytes 2 v.toNat).length = 2 := leBytes_length 2 _
  refine congrArg Host.Outcome.next (State.writeAt_path h p (off := 66) (by decide) (ne_nil_of_length hlen (by decide))
    (rowItems_pathRow _ p) (fun u => ?_) (by rw [hlen]))
  rw [takeItems_holdoff p u hlen, leNat_word, takeHoldoff, always, clampTo, Nat.zero_max]

theorem exec_nGoodWrite (v : Byte) :
    exec (.pathParameterWrite p (.nGood v)) s =
      .next
        { s with
          params := s.params.updPath p fun x => { x with nGood := max 1 (min 15 v.toNat) }
          port := s.port.tookWrite (7 + pathCode p) 69 } := by
  refine congrArg Host.Outcome.next (State.writeAt_path h p (off := 68) (by decide) (List.cons_ne_nil v [])
    (rowItems_pathRow _ p) (fun u => ?_) (by rw [List.length_singleton]))
  rw [takeItems_nGood p u (bytes := [v]) rfl]
  rfl

theorem exec_settingsWrite (block : Vector Byte 16) :
    exec (.pathParameterWrite p (.settings block)) s =
      .next
        { s with
          params := s.params.updPath p fun x => { x with settings := block }
          port := s.port.tookWrite (7 + pathCode p) 80 } := by
  have hlen : block.toList.length = 16 := Vector.length_toList
  have hblock (v : Vector Byte 16) : settingsWith (fun k => block.toList.getD k 0) (List.range 16) v = block := by
    ext1 i hi
    rw [getElem_settingsWith _ _ _ hi, if_pos (List.mem_range.mpr hi)]
    simp [hi]
  refine congrArg Host.Outcome.next (State.writeAt_path h p (off := 80) (by decide) (ne_nil_of_length hlen (by decide))
    (rowItems_settings _ p) (fun u => ?_) (by rw [hlen]))
  have htake := takeItems_settings hlen p (List.range 16) (fun k hk => List.mem_range.mp hk) u
  simp only [hblock] at htake
  exact htake

end

/-! ## Quotas (R70) -/

/-- The item of an account's quota. -/
theorem rowItems_quota (w : List (Nat × Byte)) (o : Owner) :
    rowItems w (quotaPage o) 1 = some [fun s => s.takeItem w (quotaPage o) 16 2 (takeQuotaItem o)] := by
  cases o with
  | lane l => fin_cases l <;> rfl
  | pattern => rfl

theorem quotaPage_lt (o : Owner) : quotaPage o < 32 := by
  cases o with
  | lane l => have := l.isLt; simp only [quotaPage]; omega
  | pattern => decide

theorem quotaPage_ne_one (o : Owner) : quotaPage o ≠ 1 := by
  cases o with
  | lane l => simp only [quotaPage]; omega
  | pattern => decide

section

variable {s : State} (h : s.hostReady) {o : Owner} {v : BitVec 16}
include h

/-- A quota write is its item's. -/
theorem exec_quotaWrite :
    exec (.quotaWrite o v) s =
      .next (s.resumed (takeQuotaItem o (s.pointed (quotaPage o) 18) v.toNat).report) := by
  have hlen : (leBytes 2 v.toNat).length = 2 := leBytes_length 2 _
  have hrow : 16 % 16 + (leBytes 2 v.toNat).length ≤ 16 := by rw [hlen]; decide
  refine congrArg Host.Outcome.next ?_
  rw [State.writeAt_row h (quotaPage_lt o) (quotaPage_ne_one o) (by decide) (ne_nil_of_length hlen (by decide))
    (rowItems_quota _ o), takeItems_cons_only (List.forall_mem_nil _), State.takeItem_written hrow _ _ (by decide) hlen,
    leNat_word, hlen]

/-- A quota write whose item is refused. -/
theorem exec_quotaWrite_refused {e : RefusalCode}
    (he : takeQuotaItem o (s.pointed (quotaPage o) 18) v.toNat = (s.pointed (quotaPage o) 18, some e)) :
    exec (.quotaWrite o v) s = .next { s with port := s.port.refusedWrite (quotaPage o) 18 e } := by
  rw [exec_quotaWrite h, he]
  exact congrArg _ (State.resumed_same _ _ rfl rfl)

/-- A quota write that is taken. -/
theorem exec_quotaWrite_taken {t : State}
    (ht : takeQuotaItem o (s.pointed (quotaPage o) 18) v.toNat = (t.pointed (quotaPage o) 18, none))
    (hport : t.port = s.port) :
    exec (.quotaWrite o v) s = .next (s.resumed { t with port := s.port.tookWrite (quotaPage o) 18 }) := by
  rw [exec_quotaWrite h, ht, ← hport]
  rfl

end

section

variable (u : State) {v : Nat} (hno : u.entries = [])
include hno

/-- A lane's quota that neither a live entry nor the sum refuses is taken where the lane has room. -/
theorem takeQuotaItem_lane {l : Fin 4} (hsum : (u.params.setQuota (.lane l) v).quotaTotal ≤ 16384) :
    takeQuotaItem (.lane l) u v = if u.readyRoom l then (u.takeQuota (.lane l) v, none) else (u, some .noticeRoom) := by
  unfold takeQuotaItem
  rw [if_neg (not_not_intro hno), if_neg (Nat.not_lt.mpr hsum)]

theorem takeQuotaItem_pattern (hsum : (u.params.setQuota .pattern v).quotaTotal ≤ 16384) :
    takeQuotaItem .pattern u v = (u.takeQuota .pattern v, none) := by
  unfold takeQuotaItem
  rw [if_neg (not_not_intro hno), if_neg (Nat.not_lt.mpr hsum)]

end

/-- Settles O58: each path parameter's write, and the answers of a quota write in their order. -/
theorem pathParameterAndQuotaWritesAreTaken : Obligations.PathParameterAndQuotaWritesAreTaken := by
  intro s h
  refine ⟨exec_silenceWrite h, exec_holdoffWrite h, exec_nGoodWrite h, exec_settingsWrite h,
    fun o v => ⟨fun hlive => ?live, fun hno hsum => ?sum⟩,
    fun l v hno hsum => ⟨fun hfull hcredit => ?room, fun hroom => ?lane⟩, fun v hno hsum => ?pattern⟩
  case live => exact exec_quotaWrite_refused h (if_pos hlive)
  case sum => exact exec_quotaWrite_refused h ((if_neg (not_not_intro hno)).trans (if_pos hsum))
  case room =>
    have hready : ¬ s.readyRoom l = true := by
      rw [State.readyRoom, Lane.hasCredit, hcredit, Bool.or_false, Lane.hasRoom, decide_eq_true_eq]
      exact Nat.not_lt.mpr hfull
    exact exec_quotaWrite_refused h ((takeQuotaItem_lane (s.pointed _ _) hno hsum).trans (if_neg hready))
  case lane =>
    have hready : s.readyRoom l = true := by
      rw [State.readyRoom, Bool.or_eq_true]
      exact hroom.imp_left fun hlt => decide_eq_true hlt
    rw [exec_quotaWrite_taken (t := s.takeQuota (.lane l) v.toNat) h
      ((takeQuotaItem_lane (s.pointed _ _) hno hsum).trans (if_pos hready)) rfl, State.takeQuota_lane,
      State.resumed_same]
    · rfl
    · rfl
    · rfl
  case pattern =>
    exact exec_quotaWrite_taken (t := s.takeQuota .pattern v.toNat) h
      (takeQuotaItem_pattern (s.pointed _ _) hno hsum) rfl

end Sys2Proof.Machine

/-!
PROOF. The extension of a frame field to a full frame number (chapter 5): O22.
-/

namespace Sys2Proof.Machine

open Sys2Proof

/-! ## The extended frame number (R78) -/

/-- The model's natural-number distance from fc to the field, taken around the 16-bit circle. -/
theorem fieldDistance_eq_emod (fc v : Nat) :
    (((v + 65536 - fc % 65536) % 65536 : Nat) : Int) = ((v : Int) - fc) % 65536 := by
  omega

/-- Intake moves from fc by the balanced remainder of the field's distance: forward by up to half the circle, back by
the rest. -/
theorem extendFrame_eq_add_bmod (fc v : Nat) : extendFrame fc v = fc + ((v : Int) - fc).bmod 65536 := by
  have hdist := fieldDistance_eq_emod fc v
  unfold extendFrame
  dsimp only
  split
  · next hahead =>
    rw [Int.bmod_def, if_pos (by omega)]
    omega
  · next hbehind =>
    rw [Int.bmod_def, if_neg (by omega)]
    omega

theorem extendFrame_emod (fc : Nat) {v : Nat} (hv : v < 65536) : extendFrame fc v % 65536 = v := by
  have hmod : ((v : Int) - fc).bmod 65536 % 65536 = ((v : Int) - fc) % 65536 := Int.bmod_emod
  rw [extendFrame_eq_add_bmod]
  omega

theorem le_extendFrame (fc v : Nat) : (fc : Int) - 32768 ≤ extendFrame fc v := by
  have hle : -32768 ≤ ((v : Int) - fc).bmod 65536 := Int.le_bmod (by decide)
  rw [extendFrame_eq_add_bmod]
  omega

theorem extendFrame_le (fc v : Nat) : extendFrame fc v ≤ (fc : Int) + 32767 := by
  have hlt : ((v : Int) - fc).bmod 65536 < 32768 := Int.bmod_lt (by decide)
  rw [extendFrame_eq_add_bmod]
  omega

/-- The window of R78 is one turn of the circle long, so congruent numbers in it are equal. -/
theorem eq_extendFrame {fc v : Nat} {x : Int} (hv : v < 65536) (hx : x % 65536 = v) (hlow : (fc : Int) - 32768 ≤ x)
    (hhigh : x ≤ (fc : Int) + 32767) : x = extendFrame fc v := by
  have hmod : x % 65536 = extendFrame fc v % 65536 := hx.trans (extendFrame_emod fc hv).symm
  have hlow' := le_extendFrame fc v
  have hhigh' := extendFrame_le fc v
  omega

/-- Settles O22: the extended frame number is congruent to the field and in the window, and the only such number. -/
theorem frameFieldExtendsAroundTheCurrentFrame : Obligations.FrameFieldExtendsAroundTheCurrentFrame :=
  fun fc v hv => ⟨extendFrame_emod fc hv, le_extendFrame fc v, extendFrame_le fc v, fun _ => eq_extendFrame hv⟩

end Sys2Proof.Machine

/-!
PROOF. What any command does to the command queue and to the two byte memories, and what a command can answer
(chapters 6 and 10): O4, O3.
-/

namespace Sys2Proof.Machine

open Sys2Proof

/-! ## The queue and the memories -/

/-- What the blocks of the part leave in place from one command to the next: the command queue, cell memory and pattern
memory. -/
structure Retained where
  pending : List Instr
  cellMem : List Host.Cell
  patternMem : List Host.Cell

/-- The queue and the memories of a state. -/
def State.retained (s : State) : Retained := ⟨s.pending, s.cellMem, s.patternMem⟩

/-- A fact about the queue and the memories that each way in which a command moves them keeps: a filling writes its
payload into cell memory (R90), the host writes a byte of pattern memory (R164). -/
structure RetainedLaw (P : Retained → Prop) : Prop where
  payload : ∀ (x : Retained) (cells : List Nat) (bytes : List Byte), P x →
    P { x with cellMem := writePayload x.cellMem cells bytes }
  byte : ∀ (x : Retained) (a : Nat) (b : Byte), P x → P { x with patternMem := writeMem x.patternMem a b }

theorem retained_foldl {α : Type} (f : State → α → State) (h : ∀ s x, (f s x).retained = s.retained) (xs : List α)
    (s : State) : (xs.foldl f s).retained = s.retained :=
  foldl_keeps (fun t => t.retained = s.retained) f (fun t x ht => (h t x).trans ht) xs s rfl

/-! ## Operations that leave them alone -/

section

variable (s : State)

@[simp] theorem State.retained_updPort (f : Port → Port) : (s.updPort f).retained = s.retained := rfl
@[simp] theorem State.retained_updHouse (f : House → House) : (s.updHouse f).retained = s.retained := rfl
@[simp] theorem State.retained_updParams (f : Params → Params) : (s.updParams f).retained = s.retained := rfl
@[simp] theorem State.retained_updPattern (f : PatternSource → PatternSource) :
    (s.updPattern f).retained = s.retained := rfl
@[simp] theorem State.retained_updLane (l : Fin 4) (f : Lane → Lane) : (s.updLane l f).retained = s.retained := rfl
@[simp] theorem State.retained_updAccount (l : Fin 4) (f : Account → Account) :
    (s.updAccount l f).retained = s.retained := rfl
@[simp] theorem State.retained_updSlot (i : Fin 16) (f : Slot → Slot) : (s.updSlot i f).retained = s.retained := rfl
@[simp] theorem State.retained_updPath (p : PathId) (f : Path → Path) : (s.updPath p f).retained = s.retained := by
  cases p <;> rfl
@[simp] theorem State.retained_countSlot (i : Fin 16) (c : SlotCounter) (n : Nat) :
    (s.countSlot i c n).retained = s.retained := rfl
@[simp] theorem State.retained_countLane (l : Fin 4) (c : LaneCounter) (n : Nat) :
    (s.countLane l c n).retained = s.retained := rfl
@[simp] theorem State.retained_countPath (p : PathId) (c : PathCounter) (n : Nat) :
    (s.countPath p c n).retained = s.retained := rfl
@[simp] theorem State.retained_countPart (c : PartCounter) (n : Nat) : (s.countPart c n).retained = s.retained := rfl
@[simp] theorem State.retained_latch (c : Cause) : (s.latch c).retained = s.retained := rfl
@[simp] theorem State.retained_latchPath (p : PathId) : (s.latchPath p).retained = s.retained := rfl

/-! ## Streams and the arbiter -/

@[simp] theorem State.retained_closeStream (i : Fin 16) (r : ClosureReason) (b : Bool) :
    (s.closeStream i r b).retained = s.retained := by simp [State.retained]
@[simp] theorem State.retained_closeIfDrained (i : Fin 16) : (s.closeIfDrained i).retained = s.retained := by
  simp [State.retained]
@[simp] theorem State.retained_closeTests (i : Fin 16) (b : Bool) : (s.closeTests i b).retained = s.retained := by
  simp [State.retained]
@[simp] theorem State.retained_discardHead (i : Fin 16) : (s.discardHead i).retained = s.retained := by
  simp [State.retained]
@[simp] theorem State.retained_closeFrame (i : Fin 16) : (s.closeFrame i).retained = s.retained := by
  simp [State.retained]
@[simp] theorem State.retained_arm (i : Fin 16) : (s.arm i).retained = s.retained := by simp [State.retained]
@[simp] theorem State.retained_settleSlot (i : Fin 16) : (s.settleSlot i).retained = s.retained := by
  simp [State.retained]
@[simp] theorem State.retained_choice : s.choice.retained = s.retained := by simp [State.retained]
@[simp] theorem State.retained_refreshAll : s.refreshAll.retained = s.retained := by simp [State.retained]

@[simp] theorem State.retained_endService : s.endService.retained = s.retained := by
  unfold State.endService
  split
  · rfl
  · simp [State.retained]

@[simp] theorem State.retained_discardRun (i : Fin 16) (n : Nat) : (s.discardRun i n).retained = s.retained :=
  State.discardRun_keeps (fun t => t.retained = s.retained) i (fun t ht => by rwa [State.retained_discardHead]) n s rfl

@[simp] theorem State.retained_closeRun (i : Fin 16) (n : Nat) : (s.closeRun i n).retained = s.retained :=
  State.closeRun_keeps (fun t => t.retained = s.retained) i (fun t ht => by simpa using ht)
    (fun t ht => by simpa using ht) n s rfl

@[simp] theorem State.retained_takePassed (i : Fin 16) : (s.takePassed i).retained = s.retained := by
  unfold State.takePassed
  split
  · simp
  · split <;> simp

@[simp] theorem State.retained_passRun (n : Nat) : (s.passRun n).retained = s.retained :=
  State.passRun_keeps (fun t => t.retained = s.retained) (fun t i ht => by rwa [State.retained_takePassed]) n s rfl

/-! ## House Time -/

@[simp] theorem State.retained_afterBackward : s.afterBackward.retained = s.retained := by
  simp [State.afterBackward, State.retained]

@[simp] theorem State.retained_afterForward : s.afterForward.retained = s.retained := by
  have event (t : State) : t.stepEvent.retained = t.retained := rfl
  unfold State.afterForward
  dsimp only
  split <;> simp [event]

@[simp] theorem State.retained_pulsed (a : PulseAction) : (s.pulsed a).retained = s.retained := by
  have lock (t : State) : t.lockOnPulse.retained = t.retained := by simp [State.retained]
  have apply (t : State) (e : Int) : (t.applyPulse e a).retained = t.retained := by cases a <;> rfl
  have note : s.notePulse.retained = s.retained := rfl
  unfold State.pulsed
  dsimp only
  split <;> simp [lock, apply, note]

@[simp] theorem State.retained_takePulse : s.takePulse.retained = s.retained := by
  by_cases ha : pulseAction s.house s.params.stepEnable s.pulseError = .step
  · rw [State.takePulse_of_step ha]
    split <;> simp
  · rw [State.takePulse_of_ne_step rfl ha, State.retained_pulsed]

@[simp] theorem State.retained_pulse : s.pulse.retained = s.retained := by
  unfold State.pulse
  split
  · rfl
  · split
    · rfl
    · simp

@[simp] theorem State.retained_takeMiss : s.takeMiss.retained = s.retained := by simp [State.retained]
@[simp] theorem State.retained_takeMarker : s.takeMarker.retained = s.retained := by simp [State.retained]

theorem State.retained_adjustHouse (b : Bool) : (adjustHouse b s).retained = s.retained := by cases b <;> rfl

@[simp] theorem State.retained_takeTrim : s.takeTrim.retained = s.retained := State.retained_adjustHouse _ _
@[simp] theorem State.retained_takeSlew : s.takeSlew.retained = s.retained := State.retained_adjustHouse _ _

@[simp] theorem State.retained_passNanosecond : (passNanosecond s).retained = s.retained := by
  unfold passNanosecond
  dsimp only
  split <;> rfl

/-! ## Path senders -/

@[simp] theorem State.retained_serveLine (p : PathId) : (s.serveLine p).retained = s.retained := by
  simp [State.retained]
@[simp] theorem State.retained_takeStatus (p : PathId) (bytes : List Byte) :
    (s.takeStatus p bytes).retained = s.retained := by simp [State.retained]
@[simp] theorem State.retained_startProbing (p : PathId) : (s.startProbing p).retained = s.retained := by
  simp [State.retained]
@[simp] theorem State.retained_enterProbing (p : PathId) : (s.enterProbing p).retained = s.retained := by
  simp [State.retained]
@[simp] theorem State.retained_failPath (p : PathId) (r : FailReason) : (s.failPath p r).retained = s.retained := by
  simp [State.retained]
@[simp] theorem State.retained_disablePath (p : PathId) : (s.disablePath p).retained = s.retained := by
  simp [State.retained]
@[simp] theorem State.retained_restartPath (p : PathId) : (s.restartPath p).retained = s.retained := by
  simp [State.retained]

@[simp] theorem State.retained_expireRepeat (p : PathId) : (s.expireRepeat p).retained = s.retained := by
  unfold State.expireRepeat
  split
  · split <;> simp
  · simp

@[simp] theorem State.retained_startOwed (p : PathId) : (s.startOwed p).retained = s.retained := s.retained_updPath p _

@[simp] theorem State.retained_moduleAnswered (p : PathId) (b : Bool) :
    (s.moduleAnswered p b).retained = s.retained := by
  cases b <;> simp [State.moduleAnswered]

@[simp] theorem State.retained_moduleRestarted (p : PathId) : (s.moduleRestarted p).retained = s.retained := by
  unfold State.moduleRestarted
  dsimp only
  split
  · simp
  · split <;> simp

@[simp] theorem State.retained_missModule (p : PathId) : (s.missModule p).retained = s.retained := by
  unfold State.missModule
  split
  · rfl
  · dsimp only; split <;> simp
  · simp

@[simp] theorem State.retained_unansweredPoll (p : PathId) : (s.unansweredPoll p).retained = s.retained := by
  unfold State.unansweredPoll
  dsimp only
  split <;> simp

/-! ## Lanes -/

@[simp] theorem State.retained_dropPacket (l : Fin 4) (c : Nat) (k : LaneCounter) :
    (s.dropPacket l c k).retained = s.retained := by simp [State.retained]
@[simp] theorem State.retained_refund (l : Fin 4) (c : Nat) : (s.refund l c).retained = s.retained := by
  simp [State.retained]
@[simp] theorem State.retained_markTailFull (i : Fin 16) : (s.markTailFull i).retained = s.retained := by
  simp [State.retained]
@[simp] theorem State.retained_queueLaneReady (l : Fin 4) (n : Nat) :
    (s.queueLaneReady l n).retained = s.retained := rfl
@[simp] theorem State.retained_resetLane (l : Fin 4) (b : Bool) : (s.resetLane l b).retained = s.retained := by
  simp [State.retained]
@[simp] theorem State.retained_takeBatch (l : Fin 4) : (s.takeBatch l).retained = s.retained := by simp [State.retained]
@[simp] theorem State.retained_beginSend (l : Fin 4) : (s.beginSend l).retained = s.retained := by simp [State.retained]
@[simp] theorem State.retained_driveReady (l : Fin 4) (v : Option Bool) : (s.driveReady l v).retained = s.retained := by
  cases v <;> rfl
@[simp] theorem State.retained_takeClose (i : Fin 16) (now : Bool) : (s.takeClose i now).retained = s.retained := by
  simp [State.retained]

@[simp] theorem State.retained_dispatchClose (l : Fin 4) (c : CloseRecord) :
    (s.dispatchClose l c).retained = s.retained := by
  unfold State.dispatchClose
  split
  · split
    · dsimp only; split <;> simp
    · rfl
  · rfl

@[simp] theorem State.retained_takeOpen (own : Owner) (o : OpenParams) (req : Option Nat) (reg : Option (Nat × Nat))
    (bad : Bool) : (s.takeOpen own o req reg bad).1.retained = s.retained := by
  rcases s.takeOpen_cases own o req reg bad with ⟨_, e⟩ | ⟨_, _, _, e⟩ | ⟨_, _, _, _, e⟩ | ⟨_, _, _, _, _, _, e⟩ <;>
    exact congrArg (fun a => State.retained a.1) e

@[simp] theorem State.retained_dispatchOpen (l : Fin 4) (o : OpenParams) :
    (s.dispatchOpen l o).retained = s.retained := by
  unfold State.dispatchOpen
  split
  · exact s.retained_takeOpen ..
  · rfl

/-- A record's sequence check moves its lane and the counters. -/
theorem State.retained_sequenced {s u : State} {l : Fin 4} {q : LaneSeq} (h : s.sequenced l q = some u) :
    u.retained = s.retained := by
  rw [State.sequenced_frame h]
  rfl

/-! ## Commands of the host -/

@[simp] theorem State.retained_finishCommand (code : Byte) (a : CommandAnswer) :
    (State.finishCommand code a).retained = a.1.retained := by
  rcases a with ⟨t, _ | _⟩ <;> rfl

@[simp] theorem State.retained_takeQuota (o : Owner) (v : Nat) : (s.takeQuota o v).retained = s.retained := by
  cases o <;> rfl

@[simp] theorem State.retained_reloadQuota (image : Params) (o : Owner) :
    (s.reloadQuota image o).retained = s.retained := by
  unfold State.reloadQuota
  split <;> simp

@[simp] theorem State.retained_reloadQuotas (image : Params) : (s.reloadQuotas image).retained = s.retained := by
  unfold State.reloadQuotas
  split
  · rfl
  · rw [State.retained_reloadQuota]
    exact retained_foldl _ (fun t l => t.retained_reloadQuota image (.lane l)) _ s

@[simp] theorem State.retained_followEnable (p : PathId) : (s.followEnable p).retained = s.retained := by
  unfold State.followEnable
  split <;> simp

@[simp] theorem State.retained_followDisable (p : PathId) : (s.followDisable p).retained = s.retained := by
  unfold State.followDisable
  split <;> simp

@[simp] theorem State.retained_followFlag (p : PathId) : (s.followFlag p).retained = s.retained := by
  unfold State.followFlag
  split <;> simp

@[simp] theorem State.retained_endLong (code : Byte) (r : Option RefusalCode) :
    (s.endLong code r).retained = s.retained := rfl

@[simp] theorem State.retained_finishRecall : s.finishRecall.retained = s.retained := by
  unfold State.finishRecall
  dsimp only
  split <;> simp [State.reload]

@[simp] theorem State.retained_startPath (p : PathId) : (s.startPath p).retained = s.retained := by
  unfold State.startPath
  split <;> simp

@[simp] theorem State.retained_finishLoad : s.finishLoad.retained = s.retained := by
  have powered (t : State) : ({ t with power := .on } : State).retained = t.retained := rfl
  have emptied (t : State) : t.clearQueues.retained = t.retained := rfl
  unfold State.finishLoad
  simp only [powered, State.retained_startPath, State.retained_takeQuota]
  refine (retained_foldl _ (fun t l => t.retained_takeQuota _ _) _ _).trans ?_
  rw [emptied, apply_ite State.retained, State.retained_latch, ite_self]
  rfl

@[simp] theorem State.retained_clearStreams : s.clearStreams.retained = s.retained :=
  retained_foldl _ (fun t i => by split <;> simp) allSlots s

@[simp] theorem State.retained_clearCells : s.clearCells.retained = s.retained :=
  retained_foldl _ (fun t l => by simp) allLanes _

@[simp] theorem State.retained_clearPath (p : PathId) : (s.clearPath p).retained = s.retained := by
  unfold State.clearPath
  dsimp only
  split <;> simp

@[simp] theorem State.retained_clearAll : s.clearAll.retained = s.retained := by
  have banks (t : State) : t.clearBanks.retained = t.retained := rfl
  have emptied : s.clearQueues.retained = s.retained := rfl
  simp [State.clearAll, banks, emptied]

theorem State.retained_withArgSlot {f : Fin 16 → CommandAnswer} (hf : ∀ i, (f i).1.retained = s.retained) :
    (s.withArgSlot f).1.retained = s.retained := by
  unfold State.withArgSlot
  split
  · exact hf _
  · rfl

theorem State.retained_withArgPath {f : PathId → CommandAnswer} (hf : ∀ p, (f p).1.retained = s.retained) :
    (s.withArgPath f).1.retained = s.retained := by
  unfold State.withArgPath
  split
  · exact hf _
  · split
    · exact hf _
    · rfl

theorem retained_cmdStreamHold : (cmdStreamHold s).1.retained = s.retained :=
  s.retained_withArgSlot fun i => by split <;> rfl

theorem retained_cmdStreamUnhold : (cmdStreamUnhold s).1.retained = s.retained :=
  s.retained_withArgSlot fun i => by
    split
    · exact State.retained_settleSlot _ i
    · rfl

theorem retained_cmdStreamClose : (cmdStreamClose s).1.retained = s.retained :=
  s.retained_withArgSlot fun i => by
    split
    · exact s.retained_closeStream ..
    · rfl

theorem retained_cmdSetLowest : (cmdSetLowest s).1.retained = s.retained := s.retained_withArgSlot fun _ => rfl

theorem retained_cmdRotationMode : (cmdRotationMode s).1.retained = s.retained := by
  unfold cmdRotationMode
  split
  · rfl
  · split <;> rfl

theorem retained_cmdLaneReset : (cmdLaneReset s).1.retained = s.retained := by
  unfold cmdLaneReset
  split
  · exact s.retained_resetLane ..
  · rfl

theorem retained_cmdPathEnable : (cmdPathEnable s).1.retained = s.retained :=
  s.retained_withArgPath fun p => State.retained_followEnable _ p

theorem retained_cmdPathDisable : (cmdPathDisable s).1.retained = s.retained :=
  s.retained_withArgPath fun p => State.retained_followDisable _ p

theorem retained_cmdPathRestart : (cmdPathRestart s).1.retained = s.retained :=
  s.retained_withArgPath fun p => by
    split
    · rfl
    · exact s.retained_restartPath p

theorem retained_cmdPatternOpen : (cmdPatternOpen s).1.retained = s.retained := by
  unfold cmdPatternOpen
  split
  · rfl
  · dsimp only
    generalize ht : s.takeOpen _ _ _ _ _ = a
    have ha : a.1.retained = s.retained := by rw [← ht]; exact s.retained_takeOpen ..
    rcases a with ⟨u, e | r⟩
    · exact ha
    · exact ha

theorem retained_cmdPatternClose : (cmdPatternClose s).1.retained = s.retained := by
  unfold cmdPatternClose
  split
  · rfl
  · exact s.retained_closeStream ..

/-- No code byte moves the queue or a memory (R175). -/
@[simp] theorem State.retained_takeCommand (code : Byte) : (s.takeCommand code).retained = s.retained := by
  have ite {c : Prop} [Decidable c] {t u : State} (ht : t.retained = s.retained) (hu : u.retained = s.retained) :
      (if c then t else u).retained = s.retained := by split <;> assumption
  have done {a : CommandAnswer} (ha : a.1.retained = s.retained) :
      (State.finishCommand code a).retained = s.retained := by rwa [State.retained_finishCommand]
  exact ite rfl <| ite rfl <| ite (done s.retained_clearAll) <| ite rfl <| ite rfl
    <| ite (done (retained_cmdPathEnable s)) <| ite (done (retained_cmdPathDisable s))
    <| ite (done (retained_cmdPathRestart s)) <| ite (done (retained_cmdStreamHold s))
    <| ite (done (retained_cmdStreamUnhold s)) <| ite (done (retained_cmdStreamClose s))
    <| ite (done (retained_cmdSetLowest s)) <| ite (done (retained_cmdRotationMode s))
    <| ite (done (retained_cmdLaneReset s)) <| ite (done (retained_cmdPatternOpen s))
    <| ite (done (retained_cmdPatternClose s)) (done rfl)

/-! ## Parameter rows and reads -/

theorem IsItemTake.retained {take : State → Nat → ItemAnswer} (h : IsItemTake take) (v : Nat) :
    (take s v).1.retained = s.retained := by
  cases h with
  | param f => rfl
  | rate =>
    unfold takeRate
    split
    · rfl
    · split <;> rfl
  | reserve =>
    unfold takeReserve
    split <;> rfl
  | pulseSecond => rfl
  | quota o =>
    unfold takeQuotaItem
    split
    · rfl
    · split
      · rfl
      · cases o with
        | pattern => rfl
        | lane l => dsimp only; split <;> rfl
  | slotSelector =>
    unfold takeSlotSelector
    split <;> rfl
  | groupSelector =>
    unfold takeGroupSelector
    split <;> rfl

theorem IsItemRow.retained {w : List (Nat × Byte)} {items : List (State → ItemAnswer)} (h : IsItemRow w items) :
    (takeItems s items).1.retained = s.retained := by
  induction items generalizing s with
  | nil => rfl
  | cons f fs ih =>
    obtain ⟨⟨page, off, len, take, hk, rfl⟩, hfs⟩ := List.forall_mem_cons.mp h
    refine (ih _ hfs).trans ?_
    change (s.takeItem w page off len take).1.retained = s.retained
    unfold State.takeItem
    split
    · rfl
    · exact hk.retained s _

@[simp] theorem State.retained_readOne : s.readOne.retained = s.retained := by
  unfold State.readOne
  split <;> rfl

@[simp] theorem State.retained_readMany (n : Nat) : (s.readMany n).retained = s.retained := by
  induction n generalizing s with
  | zero => rfl
  | succ n ih => exact (ih _).trans s.retained_readOne

@[simp] theorem State.retained_hostRead (starts : Bool) (count : Nat) (ends : Bool) :
    (s.hostRead starts count ends).retained = s.retained := by
  unfold State.hostRead
  split
  · rfl
  · cases starts <;> cases ends <;> simp [State.beginRead, State.endRead]

/-- Power-on and a loss of power leave the queue and the memories as they are (R179; log entry 6). -/
theorem State.retained_powerUp : s.powerUp.retained = s.retained := rfl

end

/-! ## Every command keeps a law of them -/

namespace RetainedLaw

section

variable {P : Retained → Prop} (hP : RetainedLaw P) {s : State} (h : P s.retained)
include hP h

/-- An accepted packet writes its payload into the cells it takes, and moves nothing else of these (R90). -/
theorem accept (n : Nat) (i : Fin 16) (o : Owner) (f k : Nat) (b : List Byte) (x y w : Bool) :
    P (s.accept n i o f k b x y w).retained := by
  have hx : (s.accept n i o f k b x y w).retained =
      { s.retained with cellMem := writePayload s.cellMem (s.takeCells (cellsFor b.length)) b } := by
    simp [State.retained, State.accept_cellMem]
  exact hx ▸ hP.payload _ _ _ h

theorem applyVerdict (l : Fin 4) (i : Fin 16) (p : PacketRecord) (v : PacketVerdict) :
    P (s.applyVerdict l i p v).retained := by
  cases v with
  | accept n f => exact hP.accept (s := s.countLane l .accepted 1) h ..
  | _ => simpa [State.applyVerdict] using h

theorem dispatchPacket {l : Fin 4} {p : PacketRecord} {t : State} (ht : s.dispatchPacket l p = .next t) :
    P t.retained := by
  unfold State.dispatchPacket at ht
  dsimp only at ht
  split at ht
  · split at ht <;> cases ht
    exact hP.applyVerdict h ..
  · cases ht; exact h

theorem generateNext (i : Fin 16) : P (s.generateNext i).retained := by
  unfold State.generateNext
  dsimp only
  split
  · simpa using h
  · split
    · simpa using h
    · refine hP.accept ?_ ..
      simpa using h

theorem generate {i : Fin 16} {t : State} (ht : s.generate i = .next t) : P t.retained := by
  unfold State.generate at ht
  split at ht <;> cases ht
  exact hP.generateNext h i

omit h in
/-- The end of an event generates packets, if it has ended the last pause (R167). -/
theorem resumed {t : State} (ht : P t.retained) : P (s.resumed t).retained :=
  State.resumed_keeps (fun u => P u.retained) (fun i _ hu _ _ => hP.generateNext hu i) s t ht

/-- A data byte is written at its address of pattern memory, or moves nothing of these (R164, R175). -/
theorem putByte (b : Byte) : P (s.putByte b).retained := by
  refine hP.resumed ?_
  rw [State.retained_updPort]
  unfold State.byteEffect
  split
  · exact hP.byte _ _ _ h
  · split
    · rwa [State.retained_takeCommand]
    · split <;> exact h

theorem rowEvent (w : List (Nat × Byte)) (page row : Nat) : P (s.rowEvent w page row).retained := by
  unfold State.rowEvent
  split
  · rename_i items hi
    refine hP.resumed ?_
    rw [ItemAnswer.report, State.retained_updPort, (rowItems_isItemRow w page row items hi).retained]
    exact h
  · split
    · split <;> exact h
    · split
      · exact h
      · split
        · split <;> exact h
        · exact h

theorem acceptWrite (bytes : List Byte) : P (s.acceptWrite bytes).retained := by
  unfold State.acceptWrite
  split
  · exact h
  · exact h
  · rename_i p o data
    have pointed : P ((s.takePage p).takeOffset o).retained := h
    cases data with
    | nil => exact pointed
    | cons b bs =>
      exact hP.rowEvent (foldl_keeps (fun t => P t.retained) _ (fun _ b ht => hP.putByte ht b) _ _ pointed) ..

theorem hostWrite (bytes : List Byte) : P (s.hostWrite bytes).retained := by
  unfold State.hostWrite
  split
  · exact h
  · exact hP.acceptWrite (s := s.endRead) h bytes

theorem writeAt (page off : Nat) (data : List Byte) : P (s.writeAt page off data).retained := by
  unfold State.writeAt
  split
  · exact h
  · exact hP.hostWrite h _

omit hP in
/-- An event that leaves the queue and the memories alone. -/
theorem quiet {due : Bool} {f : State → State} {t : State} (ht : whenDue due f s = .next t)
    (hf : (f s).retained = s.retained) : P t.retained :=
  whenDue_keeps (fun u => P u.retained) h (fun _ _ => hf ▸ h) ht

/-- An event that leaves the queue and the memories alone, but for the packets generated at its end. -/
theorem quietResuming {due : Bool} {f : State → State} {t : State} (ht : whenDueResuming due f s = .next t)
    (hf : (f s).retained = s.retained) : P t.retained := by
  have hr : P (s.resumed (f s)).retained := hP.resumed (hf ▸ h)
  exact whenDue_keeps (fun u => P u.retained) h (fun _ _ => hr) ht

omit hP in
/-- A record of a lane, by its form, its sequence and what its dispatch does. -/
theorem record {l : Fin 4} {q : LaneSeq} {form : Bool} {f : State → Result} {t : State}
    (ht : s.takeRecord l form q f = .next t) (hf : ∀ u, P u.retained → f u = .next t → P t.retained) :
    P t.retained := by
  unfold State.takeRecord at ht
  split at ht
  · cases ht; exact h
  · split at ht
    · cases ht; exact h
    · split at ht
      · cases ht; exact h
      · rename_i u hu
        exact hf u (by rwa [State.retained_sequenced hu]) ht

/-- Every command keeps a law of the queue and the memories. -/
theorem exec {c : Instr} {t : State} (ht : exec c s = .next t) : P t.retained := by
  have now {u : State} (e : Host.Outcome.next u = (.next t : Result)) (hu : P u.retained) : P t.retained := by
    cases e; exact hu
  unfold Machine.exec at ht
  cases c with
  | powerOn => exact now ht (by split; exacts [h, s.retained_powerUp ▸ h])
  | powerOnLoad => exact now ht (by split; exacts [by rwa [State.retained_finishLoad], h])
  | powerFail => exact now ht (by split; exacts [(s.retained_powerUp ▸ h : P s.powerUp.retained), h])
  | openRecord l bytes => exact record h ht fun u hu e => now e (by rwa [State.retained_dispatchOpen])
  | packetRecord l bytes => exact record h ht fun u hu e => hP.dispatchPacket hu e
  | closeRecord l bytes =>
    exact record h ht fun u hu e => now e (hP.resumed (by rwa [State.retained_dispatchClose]))
  | laneResetRecord l bytes =>
    change Machine.exec (.laneResetRecord l bytes) s = _ at ht
    rw [exec_laneResetRecord] at ht
    refine now ht ?_
    split
    · exact h
    · split
      · exact h
      · exact hP.resumed (by rwa [State.retained_resetLane])
  | noticeSendBegin l ready =>
    refine quiet h ht ?_
    dsimp only
    split <;> simp
  | noticeSendComplete l => exact quiet h ht (by simp)
  | creditTimerExpiry l => exact quiet h ht (by simp)
  | creditBatch l => exact quiet h ht (by simp)
  | armingExpiry i => exact hP.quietResuming h ht (by simp)
  | eligibilityInstant i => exact hP.quietResuming h ht (by simp)
  | discardExpiry i => exact hP.quietResuming h ht (by simp)
  | frameClose i => exact hP.quietResuming h ht (by simp)
  | endOfService => exact hP.quietResuming h ht (by simp)
  | statusFrame p bytes => exact hP.quietResuming h ht (by simp)
  | silenceExpiry p => exact hP.quietResuming h ht (by simp)
  | holdoffExpiry p => exact quiet h ht (by simp)
  | repeatTimerExpiry p => exact hP.quietResuming h ht (by simp)
  | lineFrameEnd p => exact quiet h ht (by simp)
  | modulePoll p => exact quiet h ht (by simp)
  | moduleReadAnswer p indicator =>
    refine hP.quietResuming h ht ?_
    split <;> simp
  | moduleSettingsAnswer p => exact quiet h ht (by simp)
  | moduleClearAnswer p => exact quiet h ht (by simp)
  | pollUnanswered p => exact hP.quietResuming h ht (by simp)
  | referencePulse => exact hP.quietResuming h ht (by simp)
  | pulseMissExpiry => exact quiet h ht (by simp)
  | trimAdjustment => exact quiet h ht (by simp)
  | slewAdjustment => exact quiet h ht (by simp)
  | secondMarker => exact quiet h ht (by simp)
  | patternGeneration =>
    change execPatternGeneration s = _ at ht
    unfold execPatternGeneration at ht
    split at ht
    · exact now ht h
    · split at ht
      · exact hP.generate h ht
      · exact now ht h
  | storeEnd readsBack =>
    change execStoreEnd readsBack s = _ at ht
    unfold execStoreEnd at ht
    split at ht <;> exact now ht h
  | recallEnd =>
    change execRecallEnd s = _ at ht
    unfold execRecallEnd at ht
    split at ht
    · exact now ht (hP.resumed (by rwa [State.retained_finishRecall]))
    · exact now ht h
  | badCommand code => exact now ht (by split; exacts [hP.writeAt h .., h])
  | pathParameterWrite p x => cases x <;> exact now ht (hP.writeAt h ..)
  | repeatParameterWrite x => cases x <;> exact now ht (hP.writeAt h ..)
  | counterSelectorWrite page v => cases page <;> exact now ht (hP.writeAt h ..)
  | patternMemoryWrite v => exact now ht (by split; exacts [hP.putByte h v, h])
  | snapshotRead target starts count ends =>
    change execSnapshotRead target starts count ends s = _ at ht
    unfold execSnapshotRead at ht
    split at ht
    · exact now ht h
    · split at ht
      · exact now ht h
      · exact now ht (by rwa [State.retained_hostRead])
  | registerWrite target bytes =>
    change execRegisterWrite target bytes s = _ at ht
    unfold execRegisterWrite at ht
    split at ht
    · exact now ht h
    · split at ht
      · exact now ht (hP.hostWrite h bytes)
      · exact now ht h
  | _ => exact now ht (hP.writeAt h ..)

end

end RetainedLaw

/-! ## Canonical form -/

/-- Every write of either memory keeps its canonical form. -/
theorem retainedLaw_canonical : RetainedLaw fun x => memWf x.cellMem = true ∧ memWf x.patternMem = true where
  payload _ cells bytes h := ⟨writePayload_wf h.1 cells bytes, h.2⟩
  byte _ a b h := ⟨h.1, writeMem_wf h.2 a b⟩

/-- A step on an empty queue writes no byte of a memory. -/
theorem State.tick_memories (s : State) : s.tick.cellMem = s.cellMem ∧ s.tick.patternMem = s.patternMem := by
  rcases s.tick_cases with ⟨_, e⟩ | ⟨_, _, e⟩ | ⟨_, _, _, e⟩ <;> rw [e]
  · exact ⟨rfl, rfl⟩
  · have hr := s.retained_passNanosecond
    exact ⟨congrArg Retained.cellMem hr, congrArg Retained.patternMem hr⟩
  · exact ⟨rfl, rfl⟩

/-- Settles O4: memories change by writes of a payload or of a byte alone, and these keep the canonical form. -/
theorem stepKeepsMemoriesCanonical : Obligations.StepKeepsMemoriesCanonical := by
  intro s t hs ht
  unfold step at ht
  split at ht
  · cases ht
    obtain ⟨hc, hp⟩ := s.tick_memories
    rwa [State.memoriesCanonical, hc, hp]
  · rename_i c rest _
    exact retainedLaw_canonical.exec (s := { s with pending := rest }) hs ht

/-! ## What a command answers -/

/-- No command moves the queue. -/
theorem exec_pending {c : Instr} {s t : State} (ht : exec c s = .next t) : t.pending = s.pending :=
  RetainedLaw.exec (P := fun x => x.pending = s.pending) ⟨fun _ _ _ h => h, fun _ _ _ h => h⟩ rfl ht

/-- A record of a lane answers a next state, or what its dispatch answers after the sequence check. -/
theorem State.takeRecord_cases (s : State) (l : Fin 4) (form : Bool) (q : LaneSeq) (f : State → Result) :
    (∃ t, s.takeRecord l form q f = .next t)
      ∨ ∃ u, s.sequenced l q = some u ∧ s.takeRecord l form q f = f u := by
  unfold State.takeRecord
  split
  · exact .inl ⟨_, rfl⟩
  · split
    · exact .inl ⟨_, rfl⟩
    · split
      · exact .inl ⟨_, rfl⟩
      · rename_i u hu
        exact .inr ⟨u, hu, rfl⟩

/-- The dispatch of a packet answers a next state, or stops for want of cells (log entry 29). -/
theorem State.dispatchPacket_cases (s : State) (l : Fin 4) (p : PacketRecord) :
    (∃ t, s.dispatchPacket l p = .next t)
      ∨ s.freeCells < cellsFor p.payload.length ∧ ∃ f, s.dispatchPacket l p = .fault f := by
  unfold State.dispatchPacket
  split
  · dsimp only
    split
    · rename_i hc
      simp only [Bool.and_eq_true, decide_eq_true_eq] at hc
      exact .inr ⟨hc.2, _, rfl⟩
    · exact .inl ⟨_, rfl⟩
  · exact .inl ⟨_, rfl⟩

/-- The sequence check of a record frees and takes no cell. -/
theorem State.freeCells_sequenced {s u : State} {l : Fin 4} {q : LaneSeq} (h : s.sequenced l q = some u) :
    u.freeCells = s.freeCells := by
  rw [State.sequenced_frame h]
  rfl

/-- A stopped generation finds fewer cells free than its packet needs (log entry 29). -/
theorem State.freeCells_of_stuck {s : State} {i : Fin 16} (h : s.generationStuck i = true) :
    s.freeCells < cellsFor (max 6 (s.slot i).s) := by
  simp only [State.generationStuck, Bool.and_eq_true, decide_eq_true_eq] at h
  exact h.2

/-- A command answers a next state; but a packet, received or generated, stops where fewer cells are free than it
needs (R90; log entry 29). -/
inductive Answers (s : State) : Instr → Result → Prop where
  | next (c : Instr) (t : State) : Answers s c (.next t)
  | packet (l : Fin 4) (bytes : List Byte) (f : Fault)
      (cells : s.freeCells < cellsFor (parsePacket bytes).payload.length) : Answers s (.packetRecord l bytes) (.fault f)
  | generation (i : Fin 16) (f : Fault) (slot : s.pattern.slot = some i)
      (cells : s.freeCells < cellsFor (max 6 (s.slot i).s)) : Answers s .patternGeneration (.fault f)

theorem answers_packetRecord (l : Fin 4) (bytes : List Byte) (s : State) :
    Answers s (.packetRecord l bytes) (exec (.packetRecord l bytes) s) := by
  rw [exec_packetRecord]
  rcases s.takeRecord_cases l (packetForm bytes) (recordSeq bytes) fun u => u.dispatchPacket l (parsePacket bytes) with
    ⟨t, e⟩ | ⟨u, hu, e⟩
  · rw [e]; exact .next ..
  · rw [e]
    rcases u.dispatchPacket_cases l (parsePacket bytes) with ⟨t, e⟩ | ⟨hc, f, e⟩
    · rw [e]; exact .next ..
    · rw [e]; exact .packet l bytes f (State.freeCells_sequenced hu ▸ hc)

theorem answers_patternGeneration (s : State) : Answers s .patternGeneration (exec .patternGeneration s) := by
  change Answers s _ (execPatternGeneration s)
  unfold execPatternGeneration
  split
  · exact .next ..
  · rename_i i hi
    split
    · unfold State.generate
      split
      · rename_i hg
        exact .generation i _ hi (State.freeCells_of_stuck hg)
      · exact .next ..
    · exact .next ..

/-- What every command answers. -/
theorem answers_exec (c : Instr) (s : State) : Answers s c (exec c s) := by
  have record {c : Instr} {l : Fin 4} {form : Bool} {q : LaneSeq} (f : State → State)
      (hc : exec c s = s.takeRecord l form q fun u => .next (f u)) : Answers s c (exec c s) := by
    rw [hc]
    rcases s.takeRecord_cases l form q fun u => .next (f u) with ⟨t, e⟩ | ⟨u, _, e⟩ <;> rw [e] <;> exact .next ..
  cases c with
  | packetRecord l bytes => exact answers_packetRecord l bytes s
  | patternGeneration => exact answers_patternGeneration s
  | openRecord l bytes => exact record _ (exec_openRecord l bytes s)
  | closeRecord l bytes => exact record _ (exec_closeRecord l bytes s)
  | laneResetRecord l bytes => rw [exec_laneResetRecord]; exact .next ..
  | storeEnd readsBack =>
    change Answers s _ (execStoreEnd readsBack s)
    unfold execStoreEnd
    split <;> exact .next ..
  | recallEnd =>
    change Answers s _ (execRecallEnd s)
    unfold execRecallEnd
    split <;> exact .next ..
  | pathParameterWrite p x => cases x <;> exact .next ..
  | repeatParameterWrite x => cases x <;> exact .next ..
  | counterSelectorWrite page v => cases page <;> exact .next ..
  | snapshotRead target starts count ends =>
    change Answers s _ (execSnapshotRead target starts count ends s)
    unfold execSnapshotRead
    split
    · exact .next ..
    · split <;> exact .next ..
  | registerWrite target bytes =>
    change Answers s _ (execRegisterWrite target bytes s)
    unfold execRegisterWrite
    split
    · exact .next ..
    · split <;> exact .next ..
  | _ => exact .next ..

/-- Settles O3: the queue is under a law of its own, and every answer is a next state or a stop for want of cells. -/
theorem execLeavesTheQueueAndStopsOnlyWithoutCells : Obligations.ExecLeavesTheQueueAndStopsOnlyWithoutCells := by
  refine ⟨fun c s t => exec_pending, fun c s => ⟨fun r hr => ?_, fun hp hg => ?_⟩, fun l bytes s f hf => ?_,
    fun s f hf => ?_⟩
  · have ha := answers_exec c s
    rw [hr] at ha
    cases ha
  · have ha := answers_exec c s
    generalize exec c s = r at ha
    cases ha with
    | next _ t => exact ⟨t, rfl⟩
    | packet l bytes => exact absurd rfl (hp l bytes)
    | generation => exact absurd rfl hg
  · have ha := answers_exec (.packetRecord l bytes) s
    rw [hf] at ha
    cases ha with
    | packet _ _ _ cells => exact cells
  · have ha := answers_exec .patternGeneration s
    rw [hf] at ha
    cases ha with
    | generation i _ slot cells => exact ⟨i, slot, cells⟩

end Sys2Proof.Machine

/-!
PROOF. A clear STATUS in SENDING: what its acknowledgement retires, and how the backlog then drains (chapters 7 and 8):
O36.
-/

namespace Sys2Proof.Machine

open Sys2Proof

/-! ## Counters of a path -/

@[simp] theorem State.pathCount_updPath (s : State) (p q : PathId) (f : Path → Path) (c : PathCounter) :
    (s.updPath q f).pathCount p c = s.pathCount p c := by
  cases p <;> simp [State.pathCount]

@[simp] theorem State.pathCount_drain (s : State) (p q : PathId) (c : PathCounter) :
    (s.drain q).pathCount p c = s.pathCount p c := by
  cases p <;> simp [State.pathCount]

@[simp] theorem State.pathCount_countPart (s : State) (p : PathId) (c : PathCounter) (d : PartCounter) (n : Nat) :
    (s.countPart d n).pathCount p c = s.pathCount p c := by
  cases p <;> rfl

theorem State.pathCount_countPath_self (s : State) (p : PathId) (c : PathCounter) (n : Nat) :
    (s.countPath p c n).pathCount p c = capAdd (s.pathCount p c) n := by
  cases p <;> simp [State.pathCount, State.countPath, State.updActive]

theorem State.pathCount_countPath_ne (s : State) (p : PathId) {c d : PathCounter} (h : d.pos ≠ c.pos) (n : Nat) :
    (s.countPath p d n).pathCount p c = s.pathCount p c := by
  have hv : (d.pos : Nat) ≠ c.pos := fun e => h (Fin.ext e)
  cases p <;> simp [State.pathCount, State.countPath, State.updActive, hv]

/-- A freed entry is counted for the part, and for no path (R106). -/
theorem State.pathCount_dropHolder (s : State) (n : Nat) (x : Holder) (c : PartCounter) (p : PathId) (d : PathCounter) :
    (s.dropHolder n x c).pathCount p d = s.pathCount p d := by
  have freed (e : Entry) : (s.freeOne e c).pathCount p d = s.pathCount p d := by
    unfold State.freeOne
    rw [State.pathCount_countPart]
    cases p <;> simp [State.pathCount]
  rcases s.dropHolder_cases n x c with e | ⟨_, _, _, _, e⟩ | ⟨_, _, _, _, e⟩ <;> rw [e]
  · exact freed _
  · cases p <;> rfl

@[simp] theorem State.pathCount_dropAll (s : State) (x : Holder) (c : PartCounter) (ns : List Nat) (p : PathId)
    (d : PathCounter) : (s.dropAll x c ns).pathCount p d = s.pathCount p d := by
  induction ns generalizing s with
  | nil => rfl
  | cons n ns ih => exact (ih _).trans (s.pathCount_dropHolder ..)

/-! ## Entries with one holder (R99, R100) -/

/-- Dropping a holder renumbers no entry and fills none. -/
theorem State.number_of_mem_dropHolder {s : State} {n : Nat} {x : Holder} {c : PartCounter} {y : Entry}
    (hy : y ∈ (s.dropHolder n x c).entries) :
    ∃ z ∈ s.entries, z.number = y.number ∧ (y.number ≠ n → z = y) := by
  rcases s.dropHolder_cases n x c with e | ⟨z, _, _, _, e⟩ | ⟨z, _, _, _, e⟩ <;> rw [e] at hy
  · exact ⟨y, hy, rfl, fun _ => rfl⟩
  · rw [State.freeOne_entries] at hy
    exact ⟨y, List.mem_of_mem_filter hy, rfl, fun _ => rfl⟩
  · obtain ⟨w, hw, rfl⟩ := List.mem_map.mp hy
    by_cases hn : w.number = n
    · exact ⟨w, hw, by simp [hn], fun h => absurd (by simp [hn]) h⟩
    · exact ⟨w, hw, by simp [hn], fun _ => by simp [hn]⟩

theorem Holders.has_sole (x : Holder) : (Holders.nobody.put x true).has x = true := by
  rcases x with _ | _ | (_ | _) | (_ | _) <;> rfl

theorem Holders.sole_without (x : Holder) : ((Holders.nobody.put x true).put x false).isEmpty = true := by
  rcases x with _ | _ | (_ | _) | (_ | _) <;> rfl

/-- The live entries of number `n` carry the holder `x` alone. -/
def State.HeldOnlyBy (s : State) (n : Nat) (x : Holder) : Prop :=
  ∀ y ∈ s.entries, y.number = n → y.holders = Holders.nobody.put x true

/-- An entry that loses its only holder is freed (R100). -/
theorem State.dropHolder_frees {s : State} {n : Nat} {x : Holder} (h : s.HeldOnlyBy n x) (c : PartCounter) :
    ∀ y ∈ (s.dropHolder n x c).entries, y.number ≠ n := by
  intro y hy
  unfold State.dropHolder at hy
  split at hy
  · rename_i hnone
    simpa using List.find?_eq_none.mp hnone y hy
  · rename_i e he
    have hn : e.number = n := by simpa using List.find?_some he
    have hh : e.holders = Holders.nobody.put x true := h e (List.mem_of_find?_eq_some he) hn
    simp only [hh, Holders.has_sole, Holders.sole_without, if_true, State.freeOne_entries] at hy
    simpa [hn] using (List.mem_filter.mp hy).2

/-- No entry comes up under a number that is free, as holders are dropped. -/
theorem State.number_of_mem_dropAll {s : State} {x : Holder} {c : PartCounter} {ns : List Nat} {y : Entry}
    (hy : y ∈ (s.dropAll x c ns).entries) : ∃ z ∈ s.entries, z.number = y.number := by
  induction ns generalizing s with
  | nil => exact ⟨y, hy, rfl⟩
  | cons n ns ih =>
    obtain ⟨w, hw, hwy⟩ := ih hy
    obtain ⟨z, hz, hzw, -⟩ := State.number_of_mem_dropHolder hw
    exact ⟨z, hz, hzw.trans hwy⟩

/-- Dropping the only holder of an entry frees it, whatever other entries lose theirs (R99, R100). -/
theorem State.dropAll_frees {s : State} {n : Nat} {x : Holder} (h : s.HeldOnlyBy n x) (c : PartCounter) {ns : List Nat}
    (hn : n ∈ ns) : ∀ y ∈ (s.dropAll x c ns).entries, y.number ≠ n := by
  induction ns generalizing s with
  | nil => contradiction
  | cons m ms ih =>
    by_cases hm : n = m
    · subst hm
      intro y hy
      obtain ⟨z, hz, hzy⟩ := State.number_of_mem_dropAll (s := s.dropHolder n x c) hy
      exact hzy ▸ State.dropHolder_frees h c z hz
    · refine ih (fun y hy hyn => ?_) ((List.mem_cons.mp hn).resolve_left hm)
      obtain ⟨z, hz, -, hzy⟩ := State.number_of_mem_dropHolder hy
      exact h y (hzy (hyn ▸ hm) ▸ hz) hyn

/-- Entries that rise in number are told apart by it (R91). -/
theorem State.heldOnlyBy_of_rising {s : State} (h : s.entriesRising) {e : Entry} (he : e ∈ s.entries) {x : Holder}
    (hx : e.holders = Holders.nobody.put x true) : s.HeldOnlyBy e.number x := fun y hy hn => by
  have hnodup : (s.entries.map fun e => e.number).Nodup := h.1.imp Nat.ne_of_lt
  rw [List.inj_on_of_nodup_map hnodup hy he hn, hx]

/-! ## The drain of the backlog (R98, R113) -/

/-- The oldest place of a backlog stands at the tail of the window (R113). -/
theorem State.path_moveBacklog {s : State} {p : PathId} {b : BacklogPlace} {rest : List BacklogPlace}
    (h : (s.path p).backlog = b :: rest) :
    (s.moveBacklog p).path p =
      { s.path p with
        backlog := rest
        window := (s.path p).window ++ [⟨b.entry, (s.path p).nextSeq, b.tag, 0⟩]
        nextSeq := (s.path p).nextSeq + 1 } := by
  simp [State.moveBacklog, h]

theorem State.entries_moveBacklog {s : State} {p : PathId} {b : BacklogPlace} {rest : List BacklogPlace}
    (h : (s.path p).backlog = b :: rest) :
    (s.moveBacklog p).entries = s.entries.map fun e => e.movedBy p [b] := by
  simp [State.moveBacklog, h, State.updEntry, Entry.movedBy]

@[simp] theorem Entry.movedBy_nil (e : Entry) (p : PathId) : e.movedBy p [] = e := by simp [Entry.movedBy]

@[simp] theorem Entry.movedBy_number (e : Entry) (p : PathId) (bs : List BacklogPlace) :
    (e.movedBy p bs).number = e.number := by
  unfold Entry.movedBy
  split <;> rfl

/-- Moving some places is moving the first and then the others; an entry that stands in two of them moves once. -/
theorem Entry.movedBy_cons (e : Entry) (p : PathId) (b : BacklogPlace) (bs : List BacklogPlace) :
    e.movedBy p (b :: bs) = (e.movedBy p [b]).movedBy p bs := by
  have again (h : Holders) :
      (((h.put (.backlog p) false).put (.window p) true).put (.backlog p) false).put (.window p) true =
        (h.put (.backlog p) false).put (.window p) true := by
    cases p <;> rfl
  by_cases hb : e.number = b.entry
  · by_cases hbs : e.number ∈ bs.map (fun b => b.entry) <;> simp_all [Entry.movedBy]
  · simp [Entry.movedBy, hb]

/-- A backlog with no room before it does not move. -/
theorem Path.drained_of_full {x : Path} (h : 1024 ≤ x.window.length) : x.draining = [] ∧ x.drained = x := by
  have hroom : 1024 - x.window.length = 0 := by omega
  simp [Path.drained, Path.draining, hroom]

theorem Path.drained_of_empty {x : Path} (h : x.backlog = []) : x.draining = [] ∧ x.drained = x := by
  have hrest : x.backlog.drop (1024 - x.window.length) = x.backlog := by rw [h, List.drop_nil]
  have hd : x.draining = [] := by simp [Path.draining, h]
  exact ⟨hd, by simp [Path.drained, hd, hrest]⟩

/-- A backlog with room before it moves its oldest place, and drains on from there. -/
theorem Path.drained_cons {x y : Path} {b : BacklogPlace} {rest : List BacklogPlace} (hb : x.backlog = b :: rest)
    (hw : x.window.length < 1024)
    (hy : y =
      { x with backlog := rest, window := x.window ++ [⟨b.entry, x.nextSeq, b.tag, 0⟩], nextSeq := x.nextSeq + 1 }) :
    x.draining = b :: y.draining ∧ x.drained = y.drained := by
  have hroom : 1024 - x.window.length = 1024 - (x.window.length + 1) + 1 := by omega
  have hseq (j : Nat) : x.nextSeq + BitVec.ofNat 32 (j + 1) = x.nextSeq + 1 + BitVec.ofNat 32 j := by
    rw [Nat.add_comm, BitVec.ofNat_add, ← BitVec.add_assoc]
    rfl
  have hd : x.draining = b :: y.draining := by
    simp [hy, Path.draining, hb, hroom]
  refine ⟨hd, ?_⟩
  have hrest : x.backlog.drop (1024 - x.window.length) = rest.drop (1024 - (x.window.length + 1)) := by
    rw [hb, hroom, List.drop_succ_cons]
  simp only [Path.drained, hd, hrest, List.length_cons, List.mapIdx_cons, hseq]
  simp [hy]

/-- A drain moves the places the window has room for, each with its entry (R98, R113). -/
theorem State.drainMoves_eq {s : State} {p : PathId} {n : Nat} (h : (s.path p).backlog.length = n) :
    (s.drainMoves p n).path p = (s.path p).drained
      ∧ (s.drainMoves p n).entries = s.entries.map fun e => e.movedBy p (s.path p).draining := by
  induction n generalizing s with
  | zero =>
    obtain ⟨hd, hx⟩ := Path.drained_of_empty (List.length_eq_zero_iff.mp h)
    simp [State.drainMoves, hd, hx]
  | succ n ih =>
    obtain ⟨b, rest, hb⟩ := List.exists_cons_of_length_eq_add_one h
    have hlen : rest.length = n := by rw [hb] at h; exact Nat.succ.inj h
    unfold State.drainMoves
    split
    · rename_i hw
      have hpath := State.path_moveBacklog hb
      obtain ⟨hd, hx⟩ := Path.drained_cons hb hw.1 hpath
      obtain ⟨ihp, ihe⟩ := ih (s := s.moveBacklog p) (by rw [hpath]; exact hlen)
      refine ⟨ihp.trans hx.symm, ?_⟩
      rw [ihe, State.entries_moveBacklog hb, List.map_map, hd]
      exact List.map_congr_left fun e _ => (e.movedBy_cons p b _).symm
    · rename_i hw
      have hfull : 1024 ≤ (s.path p).window.length := by simpa [hb] using hw
      obtain ⟨hd, hx⟩ := Path.drained_of_full hfull
      simp [hd, hx]

theorem State.path_drain {s : State} {p : PathId} (h : (s.path p).state = .sending) :
    (s.drain p).path p = (s.path p).drained := by
  rw [State.drain, if_pos h]
  exact (State.drainMoves_eq rfl).1

theorem State.entries_drain {s : State} {p : PathId} (h : (s.path p).state = .sending) :
    (s.drain p).entries = s.entries.map fun e => e.movedBy p (s.path p).draining := by
  rw [State.drain, if_pos h]
  exact (State.drainMoves_eq rfl).2

/-! ## The acknowledgement (R108, R118) -/

/-- A sequence `k` steps after another is after it, unless `k` is 0, and that far from it (R108). -/
theorem seqAfter_add (y : PathSeq) {k : Nat} (hk : k < 2 ^ 31) :
    seqAfter (y + BitVec.ofNat 32 k) y = decide (0 < k) ∧ (y + BitVec.ofNat 32 k - y).toNat = k := by
  have hd : (y + BitVec.ofNat 32 k - y).toNat = k := by
    rw [BitVec.add_comm, BitVec.add_sub_cancel, BitVec.toNat_ofNat]
    omega
  refine ⟨?_, hd⟩
  rw [seqAfter, hd]
  rw [decide_eq_true hk, Bool.and_true]
  rfl

/-- An acknowledgement `k` steps on, with no retired frame on the line: `k` window places are retired (R118). -/
structure State.Acknowledges (s : State) (p : PathId) (a : PathSeq) (k : Nat) : Prop where
  ack : a = (s.path p).ackThrough + BitVec.ofNat 32 k
  near : k < 2 ^ 31
  kept : (s.path p).line.isOf (((s.path p).window.take k).map fun w => w.seq) = false

namespace State.Acknowledges

variable {s : State} {p : PathId} {a : PathSeq} {k : Nat} (h : s.Acknowledges p a k)
include h

/-- An acknowledgement of nothing new changes nothing. -/
theorem acknowledge_zero (hk : k = 0) : s.acknowledge p a = s := by
  have ha : a = (s.path p).ackThrough := by rw [h.ack, hk]; exact BitVec.add_zero _
  have hs : seqAfter a (s.path p).ackThrough = false := by rw [h.ack, (seqAfter_add _ h.near).1, hk]; rfl
  simp only [State.acknowledge, hs, Bool.false_eq_true, if_false, if_pos ha]

theorem acknowledge_pos (hk : 0 < k) :
    s.acknowledge p a =
      ((s.dropAll (.window p) .freedRetired (((s.path p).window.take k).map fun w => w.entry)).countPath p .retired
        ((s.path p).window.take k).length).updPath p fun x =>
          { x with
            window := x.window.drop (a - x.ackThrough).toNat
            ackThrough := a
            line := if x.line.isOf (((s.path p).window.take k).map fun w => w.seq) then .fill else x.line } := by
  obtain ⟨hs, hd⟩ := seqAfter_add (s.path p).ackThrough h.near
  rw [← h.ack] at hs hd
  have hpos : seqAfter a (s.path p).ackThrough = true := by rw [hs]; exact decide_eq_true hk
  simp only [State.acknowledge, hpos, if_true, hd]

theorem path_acknowledge :
    (s.acknowledge p a).path p = { s.path p with window := (s.path p).window.drop k, ackThrough := a } := by
  rcases Nat.eq_zero_or_pos k with hk | hk
  · have ha : a = (s.path p).ackThrough := by rw [h.ack, hk]; exact BitVec.add_zero _
    rw [h.acknowledge_zero hk, hk, ha, List.drop_zero]
  · have hd : (a - (s.path p).ackThrough).toNat = k := by rw [h.ack]; exact (seqAfter_add _ h.near).2
    rw [h.acknowledge_pos hk, State.path_updPath, State.path_countPath, State.path_dropAll, hd, h.kept]
    rfl

theorem entries_acknowledge :
    (s.acknowledge p a).entries =
      (s.dropAll (.window p) .freedRetired (((s.path p).window.take k).map fun w => w.entry)).entries := by
  rcases Nat.eq_zero_or_pos k with hk | hk
  · rw [h.acknowledge_zero hk, hk]; rfl
  · rw [h.acknowledge_pos hk]
    simp

theorem retired_acknowledge (hk : 0 < k) :
    (s.acknowledge p a).pathCount p .retired =
      capAdd (s.pathCount p .retired) ((s.path p).window.take k).length := by
  rw [h.acknowledge_pos hk, State.pathCount_updPath, State.pathCount_countPath_self, State.pathCount_dropAll]

end State.Acknowledges

/-! ## A STATUS leaves the streams alone -/

@[simp] theorem State.queue_acknowledge (s : State) (p : PathId) (a : PathSeq) (l : Fin 4) :
    ((s.acknowledge p a).lane l).queue = (s.lane l).queue := by
  unfold State.acknowledge
  dsimp only
  split
  · simp
  · split <;> simp

@[simp] theorem State.queue_sendingStatus (s : State) (p : PathId) (t : StatusRecord) (l : Fin 4) :
    ((s.sendingStatus p t).lane l).queue = (s.lane l).queue := by
  unfold State.sendingStatus
  dsimp only
  split
  · split <;> simp
  · simp

@[simp] theorem State.queue_repeatingStatus (s : State) (p : PathId) (t : StatusRecord) (l : Fin 4) :
    ((s.repeatingStatus p t).lane l).queue = (s.lane l).queue := by
  unfold State.repeatingStatus
  dsimp only
  split <;> simp

@[simp] theorem State.queue_takeStatus (s : State) (p : PathId) (bytes : List Byte) (l : Fin 4) :
    ((s.takeStatus p bytes).lane l).queue = (s.lane l).queue := by
  unfold State.takeStatus State.goodStatus
  dsimp only
  split
  · split
    · simp
    · split <;> simp
  · simp

/-- A STATUS reaches the lanes by the credit of the entries it frees alone, and the streams not at all (R100, R118). -/
theorem State.streamsSame_takeStatus (s : State) (p : PathId) (bytes : List Byte) :
    s.streamsSame (s.takeStatus p bytes) p := by
  simp [State.streamsSame, State.sameSetting]

/-! ## A clear STATUS in SENDING (R113, R116 to R119, R135) -/

/-- A path with a good STATUS recorded: reports lost and the STATUS counted, the reference and the latest status follow
(R116, R117). -/
def State.noted (s : State) (p : PathId) (t : StatusRecord) : State :=
  let counted := (s.countPath p .statusLost (reportsLost (s.path p).reportRef t.counter)).countPath p .statusGood 1
  counted.updPath p fun x => { x with reportRef := some t.counter, latest := some t }

theorem State.path_noted (s : State) (p : PathId) (t : StatusRecord) :
    (s.noted p t).path p = { s.path p with reportRef := some t.counter, latest := some t } := by
  simp [State.noted]

/-- In SENDING a good STATUS goes by its REPEAT flag (R134, R135). -/
theorem State.takeStatus_of_sending {s : State} {p : PathId} {bytes : List Byte} (hf : statusForm p bytes = true)
    (hb : seqAfter (parseStatus bytes).ack (s.path p).sentThrough = false) (hs : (s.path p).state = .sending) :
    s.takeStatus p bytes = (s.noted p (parseStatus bytes)).sendingStatus p (parseStatus bytes) := by
  have hn : ((s.noted p (parseStatus bytes)).path p).state = .sending := by rw [State.path_noted]; exact hs
  simp only [State.takeStatus, hf, hb, State.goodStatus, if_true, Bool.false_eq_true, if_false]
  unfold State.noted at hn ⊢
  rw [hn]

/-- The state once a good STATUS in SENDING is recorded, the silence timer started again (R117, R119). -/
def State.heardStatus (s : State) (p : PathId) (t : StatusRecord) : State := (s.noted p t).restartSilence p

theorem State.path_heardStatus (s : State) (p : PathId) (t : StatusRecord) :
    (s.heardStatus p t).path p =
      { s.path p with
        reportRef := some t.counter
        latest := some t
        silence := some (s.elapsed + (s.params.path p).silenceTime * 1000) } := by
  simp [State.heardStatus, State.restartSilence, State.noted]

@[simp] theorem State.entries_heardStatus (s : State) (p : PathId) (t : StatusRecord) :
    (s.heardStatus p t).entries = s.entries := by
  simp [State.heardStatus, State.restartSilence, State.noted]

theorem State.retired_heardStatus (s : State) (p : PathId) (t : StatusRecord) :
    (s.heardStatus p t).pathCount p .retired = s.pathCount p .retired := by
  simp only [State.heardStatus, State.restartSilence, State.noted, State.pathCount_updPath]
  rw [State.pathCount_countPath_ne _ _ (by decide), State.pathCount_countPath_ne _ _ (by decide)]

/-- The state with the repeat timer of a path stopped and its attempt count cleared (R135). -/
def State.stopRepeat (s : State) (p : PathId) : State :=
  s.updPath p fun x => { x with repeatTimer := none, attempts := 0 }

/-- The state in which a clear STATUS finds the backlog: recorded, its acknowledgement done, the repeat timer
stopped. -/
def State.cleared (s : State) (p : PathId) (t : StatusRecord) : State :=
  ((s.heardStatus p t).acknowledge p t.ack).stopRepeat p

/-- A good STATUS without REPEAT reaches path `p` in SENDING and acknowledges `k` places, with a frame on the line that
it does not retire. -/
structure State.HearsClear (s : State) (p : PathId) (bytes : List Byte) (k : Nat) : Prop where
  form : statusForm p bytes = true
  sent : seqAfter (parseStatus bytes).ack (s.path p).sentThrough = false
  sending : (s.path p).state = .sending
  clear : (parseStatus bytes).repeats = false
  busy : (s.path p).line ≠ .fill
  acks : s.Acknowledges p (parseStatus bytes).ack k

namespace State.HearsClear

variable {s : State} {p : PathId} {bytes : List Byte} {k : Nat} (h : s.HearsClear p bytes k)
include h

/-- The acknowledgement finds the window and the line as the STATUS found them. -/
theorem acknowledges : (s.heardStatus p (parseStatus bytes)).Acknowledges p (parseStatus bytes).ack k := by
  have hp := s.path_heardStatus p (parseStatus bytes)
  exact ⟨by rw [hp]; exact h.acks.ack, h.acks.near, by rw [hp]; exact h.acks.kept⟩

theorem path_cleared :
    (s.cleared p (parseStatus bytes)).path p =
      { (s.path p).heard (parseStatus bytes) k (s.elapsed + (s.params.path p).silenceTime * 1000) with
        repeatTimer := none, attempts := 0 } := by
  rw [State.cleared, State.stopRepeat, State.path_updPath, h.acknowledges.path_acknowledge, State.path_heardStatus]
  rfl

theorem entries_cleared :
    (s.cleared p (parseStatus bytes)).entries =
      ((s.heardStatus p (parseStatus bytes)).dropAll (.window p) .freedRetired
        (((s.path p).window.take k).map fun w => w.entry)).entries := by
  rw [State.cleared, State.stopRepeat, State.updPath_entries, h.acknowledges.entries_acknowledge,
    State.path_heardStatus]

theorem sending_cleared : ((s.cleared p (parseStatus bytes)).path p).state = .sending := by
  rw [h.path_cleared]
  exact h.sending

theorem path_drained :
    ((s.cleared p (parseStatus bytes)).drain p).path p =
      { ((s.path p).heard (parseStatus bytes) k (s.elapsed + (s.params.path p).silenceTime * 1000)).drained with
        repeatTimer := none, attempts := 0 } := by
  rw [State.path_drain h.sending_cleared, h.path_cleared]
  rfl

/-- A frame on the line keeps it from a first sending, so that the drain is the last of what the STATUS does. -/
theorem takeStatus_eq : s.takeStatus p bytes = (s.cleared p (parseStatus bytes)).drain p := by
  rw [State.takeStatus_of_sending h.form h.sent h.sending]
  simp only [State.sendingStatus, h.clear, Bool.false_eq_true, if_false]
  refine State.serveLine_busy _ p (?_ : (((s.cleared p (parseStatus bytes)).drain p).path p).line ≠ .fill)
  rw [h.path_drained]
  exact h.busy

theorem path_takeStatus :
    (s.takeStatus p bytes).path p =
      { ((s.path p).heard (parseStatus bytes) k (s.elapsed + (s.params.path p).silenceTime * 1000)).drained with
        repeatTimer := none, attempts := 0 } := by
  rw [h.takeStatus_eq, h.path_drained]

theorem entries_takeStatus :
    (s.takeStatus p bytes).entries =
      (s.cleared p (parseStatus bytes)).entries.map fun e =>
        e.movedBy p
          ((s.path p).heard (parseStatus bytes) k (s.elapsed + (s.params.path p).silenceTime * 1000)).draining := by
  rw [h.takeStatus_eq, State.entries_drain h.sending_cleared, h.path_cleared]
  rfl

theorem retired_takeStatus (hk : 0 < k) :
    (s.takeStatus p bytes).pathCount p .retired =
      capAdd (s.pathCount p .retired) ((s.path p).window.take k).length := by
  rw [h.takeStatus_eq, State.pathCount_drain, State.cleared, State.stopRepeat, State.pathCount_updPath,
    h.acknowledges.retired_acknowledge hk, State.retired_heardStatus, State.path_heardStatus]

/-- An entry that is not retired stays, and moves with its place in the backlog. -/
theorem mem_takeStatus {e : Entry} (he : e ∈ s.entries)
    (hn : e.number ∉ ((s.path p).window.take k).map fun w => w.entry) :
    e.movedBy p ((s.path p).heard (parseStatus bytes) k (s.elapsed + (s.params.path p).silenceTime * 1000)).draining ∈
      (s.takeStatus p bytes).entries := by
  rw [h.entries_takeStatus, h.entries_cleared]
  exact List.mem_map_of_mem (State.mem_dropAll _ _ _ _ (by simpa using he) hn)

/-- A retired entry that nothing else holds is freed (R100, R118). -/
theorem takeStatus_frees (hr : s.entriesRising) {e : Entry} (he : e ∈ s.entries)
    (hn : e.number ∈ ((s.path p).window.take k).map fun w => w.entry)
    (hh : e.holders = Holders.nobody.put (.window p) true) :
    ∀ y ∈ (s.takeStatus p bytes).entries, y.number ≠ e.number := by
  rw [h.entries_takeStatus, h.entries_cleared]
  intro y hy
  obtain ⟨z, hz, rfl⟩ := List.mem_map.mp hy
  rw [Entry.movedBy_number]
  refine State.dropAll_frees ?_ _ hn z hz
  have hsole := State.heldOnlyBy_of_rising hr he hh
  rwa [State.HeldOnlyBy, State.entries_heardStatus]

end State.HearsClear

/-- Settles O36: the STATUS is recorded, its acknowledgement retires the window, and the drain is the last of it. -/
theorem clearStatusRetiresTheWindow : Obligations.ClearStatusRetiresTheWindow := by
  intro s p bytes k hp hform st x gone heard hsent hsending hclear hbusy hkept hack hk
  have h : s.HearsClear p bytes k := ⟨hform, hsent, hsending, hclear, hbusy, ⟨hack, hk, hkept⟩⟩
  have htaken : exec (.statusFrame p bytes) s = .next (s.resumed (s.takeStatus p bytes)) :=
    whenDueResuming_taken (fun u => u.takeStatus p bytes) hp
  exact ⟨s.takeStatus p bytes, htaken, h.path_takeStatus, h.retired_takeStatus, fun e he hn => h.mem_takeStatus he hn,
    fun hr e he hn hh => h.takeStatus_frees hr he hn hh, s.streamsSame_takeStatus p bytes⟩

end Sys2Proof.Machine

/-!
PROOF. The end of the frame on a line: what each state of a path puts on its free line (chapters 7 and 8): O40.
-/

namespace Sys2Proof.Machine

open Sys2Proof

/-! ## Updates of one path, one after another -/

theorem State.updPath_updPath (s : State) (p : PathId) (f g : Path → Path) :
    (s.updPath p f).updPath p g = s.updPath p fun x => g (f x) := by cases p <;> rfl

theorem State.countPath_updPath (s : State) (p q : PathId) (f : Path → Path) (c : PathCounter) (n : Nat) :
    (s.updPath q f).countPath p c n = (s.countPath p c n).updPath q f := by cases q <;> rfl

theorem State.latchPath_updPath (s : State) (p q : PathId) (f : Path → Path) :
    (s.updPath q f).latchPath p = (s.latchPath p).updPath q f := by cases q <;> rfl

/-- An update counts by what it makes of the path as it stands. -/
theorem State.updPath_congr {s : State} {p : PathId} {f g : Path → Path} (h : f (s.path p) = g (s.path p)) :
    s.updPath p f = s.updPath p g := by
  cases p
  · exact congrArg (fun x => { s with pathA := x }) h
  · exact congrArg (fun x => { s with pathB := x }) h

theorem State.updPath_self {s : State} {p : PathId} {f : Path → Path} (h : f (s.path p) = s.path p) :
    s.updPath p f = s := by
  rw [State.updPath_congr (g := id) h]
  cases p <;> rfl

/-! ## The drain as one update (R98, R113) -/

/-- A drain touches the entries and its path alone. -/
theorem State.drain_frame (s : State) (p : PathId) :
    s.drain p = { s with pathA := (s.drain p).pathA, pathB := (s.drain p).pathB, entries := (s.drain p).entries } := by
  unfold State.drain
  split
  · refine State.drainMoves_keeps
      (fun t => t = { s with pathA := t.pathA, pathB := t.pathB, entries := t.entries }) p (fun t ht => ?_) _ s rfl
    unfold State.moveBacklog
    split
    · exact ht
    · cases p <;> rw [ht] <;> rfl
  · rfl

/-- In SENDING the places the window has room for move, each with its entry. -/
theorem State.drain_eq {s : State} {p : PathId} (h : (s.path p).state = .sending) :
    s.drain p =
      ({ s with entries := s.entries.map fun e => e.movedBy p (s.path p).draining } : State).updPath p
        fun _ => (s.path p).drained := by
  have hpath := State.path_drain h
  have hother : (s.drain p).path (otherPath p) = s.path (otherPath p) := s.drain_other p
  rw [s.drain_frame p, State.entries_drain h]
  cases p <;>
  · simp only [State.path, otherPath] at hpath hother
    rw [hpath, hother]
    rfl

/-- An entry that moves is found under its number as before, with its payload. -/
theorem State.payload_movedBy {s : State} {n : Nat} {e : Entry} (he : s.entry? n = some e) (p : PathId)
    (bs : List BacklogPlace) :
    ((({ s with entries := s.entries.map fun e => e.movedBy p bs } : State).entry? n).map fun e => e.payload) =
      some e.payload := by
  have hnumber : ((fun e : Entry => decide (e.number = n)) ∘ fun e : Entry => e.movedBy p bs) =
      fun e : Entry => decide (e.number = n) := by
    funext e
    simp
  have hpayload : (e.movedBy p bs).payload = e.payload := by
    unfold Entry.movedBy
    split <;> rfl
  rw [State.entry?] at he
  rw [State.entry?, List.find?_map, hnumber, he]
  exact congrArg some hpayload

/-! ## What a free line takes, by state (R109 to R111) -/

/-- The frame on a path's line has ended. -/
def State.lineFreed (s : State) (p : PathId) : State := s.updPath p fun x => { x with line := .fill }

theorem State.path_lineFreed (s : State) (p : PathId) :
    (s.lineFreed p).path p = { s.path p with line := .fill } := s.path_updPath p _

section

variable {s : State} {p : PathId} (hl : (s.path p).line = .fill)
include hl

theorem State.serveLine_of_probing (hs : (s.path p).state = .probing) : s.serveLine p = s.serveProbing p := by
  simp [State.serveLine, Path.idleLine, hl, hs]

theorem State.serveLine_of_sending (hs : (s.path p).state = .sending) : s.serveLine p = s.serveSending p := by
  simp [State.serveLine, Path.idleLine, hl, hs]

theorem State.serveLine_of_finishing (hs : (s.path p).state = .finishing) : s.serveLine p = s.enterMarking p := by
  simp [State.serveLine, Path.idleLine, hl, hs]

theorem State.serveLine_of_marking (hs : (s.path p).state = .marking) : s.serveLine p = s.serveMarking p := by
  simp [State.serveLine, Path.idleLine, hl, hs]

theorem State.serveLine_of_replaying (hs : (s.path p).state = .replaying) : s.serveLine p = s.serveReplaying p := by
  simp [State.serveLine, Path.idleLine, hl, hs]

end

/-- In PROBING the next MARK begins, with the next sequence (R111, R120). -/
theorem State.serveProbing_eq (s : State) (p : PathId) :
    s.serveProbing p =
      (s.countPath p .marksSent 1).updPath p fun x =>
        { x with
          markOrdinal := x.markOrdinal + 1
          line := .mark x.markOrdinal x.nextSeq (s.now % 2 ^ 32) (s.elapsed + markTime s.params.rate) } := by
  cases p <;> rfl

/-- In MARKING the next MARK of the burst begins (R137). -/
theorem State.serveMarking_marks {s : State} {p : PathId} (h : (s.path p).burstOrdinal < (s.path p).burstLength) :
    s.serveMarking p =
      (s.countPath p .marksSent 1).updPath p fun x =>
        { x with
          burstOrdinal := x.burstOrdinal + 1
          line := .mark (BitVec.ofNat 8 x.burstOrdinal) (x.ackThrough + 1) (s.now % 2 ^ 32)
            (s.elapsed + markTime s.params.rate) } := by
  rw [State.serveMarking, if_pos h]
  cases p <;> rfl

theorem State.serveMarking_ends {s : State} {p : PathId} (h : (s.path p).burstLength ≤ (s.path p).burstOrdinal) :
    s.serveMarking p = s.endBurst p := if_neg (Nat.not_lt.mpr h)

/-- Entry into MARKING begins the first MARK of a burst (R137). -/
theorem State.enterMarking_eq {s : State} (p : PathId) (h : 0 < s.params.nMark) :
    s.enterMarking p =
      (s.countPath p .marksSent 1).updPath p fun x =>
        { x with
          state := .marking
          repeatTimer := some (s.elapsed + s.params.repeatTime * 1000)
          burstOrdinal := 1, burstLength := s.params.nMark
          line := .mark 0 (x.ackThrough + 1) (s.now % 2 ^ 32) (s.elapsed + markTime s.params.rate) } := by
  rw [State.enterMarking, State.serveMarking_marks (by rw [State.path_updPath]; exact h)]
  cases p <;> rfl

/-- A first sending, or nothing where the window holds no entry behind sent-through (R110). -/
theorem State.serveSending_sends {s : State} {p : PathId} {w : WindowPlace} {len : Nat}
    (hw : (s.path p).window.find? (fun w => decide (w.seq = (s.path p).sentThrough + 1)) = some w)
    (hlen : ((s.entry? w.entry).map fun e => e.payload) = some len) :
    s.serveSending p =
      (s.countPath p .dataSent 1).updPath p fun x =>
        { x with sentThrough := x.sentThrough + 1, line := .data w (s.elapsed + wireTime s.params.rate len) } := by
  simp only [State.serveSending, hw]
  rw [State.countPath_updPath, State.beginData]
  simp only [State.entry_updPath, State.entry_countPath, hlen, State.updPath_elapsed, State.countPath_elapsed,
    State.updPath_params, State.countPath_params, Option.getD_some]
  exact State.updPath_updPath ..

theorem State.serveSending_rests {s : State} {p : PathId}
    (h : ∀ w ∈ (s.path p).window, w.seq ≠ (s.path p).sentThrough + 1) : s.serveSending p = s := by
  have hw : (s.path p).window.find? (fun w => decide (w.seq = (s.path p).sentThrough + 1)) = none :=
    List.find?_eq_none.mpr fun w hm => by simpa using h w hm
  simp only [State.serveSending, hw]

/-! ## Resends (R139) -/

/-- A path that resends the window place `w`: its repeat count is raised, and the replay cursor stands behind it. -/
def Path.resent (x : Path) (w : WindowPlace) (until_ : Nat) : Path :=
  { x with
    window := x.window.map fun y => if y.seq = w.seq then y.raised else y
    replayCursor := w.seq + 1
    line := .data w.raised until_ }

theorem State.serveReplaying_resends {s : State} {p : PathId} {w : WindowPlace} {e : Entry}
    (hend : seqAfter (s.path p).sought (s.path p).replayEnd = false)
    (hw : (s.path p).window.find? (fun y => decide (y.seq = (s.path p).sought)) = some w)
    (he : s.entry? w.entry = some e) :
    s.serveReplaying p =
      (s.countPath p .resent 1).updPath p fun x => x.resent w (s.elapsed + wireTime s.params.rate e.payload) := by
  have hseq : w.seq = (s.path p).sought := by simpa using List.find?_some hw
  simp only [State.serveReplaying, seqAtOrBefore, hend, Bool.not_false, if_true, hw]
  rw [State.countPath_updPath, State.beginData]
  simp only [State.entry_updPath, State.entry_countPath, WindowPlace.raised, he, State.updPath_elapsed,
    State.countPath_elapsed, State.updPath_params, State.countPath_params, Option.map_some, Option.getD_some]
  rw [State.updPath_updPath, ← hseq]
  rfl

theorem State.serveReplaying_returns {s : State} {p : PathId}
    (hend : seqAfter (s.path p).sought (s.path p).replayEnd = true) : s.serveReplaying p = s.returnToSending p := by
  simp [State.serveReplaying, seqAtOrBefore, hend]

theorem seqLater_self (a : PathSeq) : seqLater a a = a := by simp [seqLater]

/-- With a sequence acknowledged before sent-through, the one after it is at or before sent-through (R108). -/
theorem seqAfter_succ_of_after {x y : PathSeq} (h : seqAfter x y = true) : seqAfter (y + 1) x = false := by
  simp only [seqAfter, Bool.and_eq_true, decide_eq_true_eq] at h
  have hlt := h.2
  have hpos := h.1
  have hd : ¬ (1 ≤ (y + 1 - x).toNat ∧ (y + 1 - x).toNat < 2 ^ 31) := by bv_omega
  simpa [seqAfter] using hd

/-- The end of a burst with an entry to resend: REPLAYING begins with it (R138, R139). -/
theorem State.endBurst_resends {s : State} {p : PathId} {w : WindowPlace} {e : Entry}
    (hbehind : seqAfter (s.path p).sentThrough (s.path p).ackThrough = true)
    (hw : (s.path p).window.find? (fun y => decide (y.seq = (s.path p).ackThrough + 1)) = some w)
    (he : s.entry? w.entry = some e) :
    s.endBurst p =
      (s.countPath p .resent 1).updPath p fun x =>
        { x.resent w (s.elapsed + wireTime s.params.rate e.payload) with
          state := .replaying, replayEnd := x.sentThrough } := by
  rw [State.endBurst, if_pos hbehind]
  generalize hu : s.updPath p _ = u
  have hx : u.path p =
      { s.path p with
        state := .replaying, replayEnd := (s.path p).sentThrough, replayCursor := (s.path p).ackThrough + 1 } := by
    rw [← hu, State.path_updPath]
  have hsought : (u.path p).sought = (s.path p).ackThrough + 1 := by
    rw [hx]
    exact seqLater_self _
  rw [State.serveReplaying_resends (w := w) (e := e) (by rw [hsought, hx]; exact seqAfter_succ_of_after hbehind)
    (by rw [hsought, hx]; exact hw) (by rw [← hu, State.entry_updPath]; exact he), ← hu]
  rw [State.countPath_updPath, State.updPath_updPath, State.updPath_elapsed, State.updPath_params]
  rfl

theorem State.endBurst_returns {s : State} {p : PathId}
    (h : seqAfter (s.path p).sentThrough (s.path p).ackThrough = false) : s.endBurst p = s.returnToSending p := by
  simp [State.endBurst, h]

/-! ## The return to SENDING (R138, R140) -/

/-- A path back in SENDING, its backlog drained, before its line takes a frame. -/
def Path.returned (x : Path) : Path := { x.drained with state := .sending }

/-- The part as the return of path `p` to SENDING leaves it, but for what the line takes. -/
def State.backInSending (s : State) (p : PathId) : State :=
  ({ s with entries := s.entries.map fun e => e.movedBy p (s.path p).draining } : State).updPath p fun x => x.returned

theorem State.path_backInSending (s : State) (p : PathId) : (s.backInSending p).path p = (s.path p).returned := by
  cases p <;> rfl

theorem State.returnToSending_eq (s : State) (p : PathId) :
    s.returnToSending p = (s.backInSending p).serveSending p := by
  rw [State.returnToSending, State.drain_eq (by rw [State.path_updPath])]
  congr 1
  cases p <;> rfl

theorem State.returnToSending_rests {s : State} {p : PathId}
    (h : ∀ w ∈ (s.path p).returned.window, w.seq ≠ (s.path p).returned.sentThrough + 1) :
    s.returnToSending p = s.backInSending p := by
  rw [State.returnToSending_eq]
  exact State.serveSending_rests (by rw [State.path_backInSending]; exact h)

theorem State.returnToSending_sends {s : State} {p : PathId} {w : WindowPlace} {e : Entry}
    (hw : (s.path p).returned.window.find? (fun w => decide (w.seq = (s.path p).returned.sentThrough + 1)) = some w)
    (he : s.entry? w.entry = some e) :
    s.returnToSending p =
      ((s.backInSending p).countPath p .dataSent 1).updPath p fun x =>
        { x with sentThrough := x.sentThrough + 1, line := .data w (s.elapsed + wireTime s.params.rate e.payload) } := by
  have hlen : (((s.backInSending p).entry? w.entry).map fun e => e.payload) = some e.payload := by
    rw [State.backInSending, State.entry_updPath]
    exact State.payload_movedBy he p _
  rw [State.returnToSending_eq, State.serveSending_sends (by rw [State.path_backInSending]; exact hw) hlen]
  rw [State.backInSending, State.updPath_elapsed, State.updPath_params]

/-! ## The end of a frame -/

theorem State.expired_of_le {s : State} {u : Nat} (h : u ≤ s.elapsed) : s.expired (some u) = true := decide_eq_true h

/-- At the end of a frame the line is free, and takes what the state calls for (R109). -/
theorem exec_lineFrameEnd {s : State} {p : PathId} {u : Nat} (hp : s.power ≠ .off)
    (hu : (s.path p).line.endsAt = some u) (hle : u ≤ s.elapsed) :
    exec (.lineFrameEnd p) s = .next ((s.lineFreed p).serveLine p) := by
  have hdue : s.expired (s.path p).line.endsAt = true := by rw [hu]; exact State.expired_of_le hle
  change whenDue (s.expired (s.path p).line.endsAt) (fun s => (s.lineFreed p).serveLine p) s = _
  rw [hdue]
  exact whenDue_taken _ hp

/-- Settles O40: by the state of the path, what it puts on the line that its frame has left. -/
theorem lineFrameEndTakesWhatTheStateCallsFor : Obligations.LineFrameEndTakesWhatTheStateCallsFor := by
  intro s p u hp hu hle seek resends resent returned moved backToSending
  have hexec := exec_lineFrameEnd hp hu hle
  have hx := s.path_lineFreed p
  have hl : ((s.lineFreed p).path p).line = .fill := by rw [hx]
  have hstate : ((s.lineFreed p).path p).state = (s.path p).state := by rw [hx]
  have hback (h : (s.lineFreed p).serveLine p = (s.lineFreed p).returnToSending p) : backToSending := by
    refine ⟨fun hrest => ?rests, fun w e hw he => ?sends⟩
    case rests =>
      rw [hexec, h, State.returnToSending_rests (by rw [hx]; exact hrest)]
      cases p <;> rfl
    case sends =>
      rw [hexec, h, State.returnToSending_sends (e := e) (by rw [hx]; exact hw)
        (by rw [State.lineFreed, State.entry_updPath]; exact he)]
      cases p <;> rfl
  have hentry {n : Nat} {e : Entry} (he : s.entry? n = some e) : (s.lineFreed p).entry? n = some e := by
    rw [State.lineFreed, State.entry_updPath, he]
  refine ⟨fun w e hs hw he => ?first, fun hs hrest => ?fill, fun hs => ?down, fun hs => ?probing, fun hs hn => ?burst,
    fun hs hn => ?mark, fun w e hs hn hbehind hr => ?replay, fun hs hn hbehind => ?burstOver,
    fun w e hs hend hr => ?resend, fun hs hend => ?replayOver⟩
  case first =>
    rw [hexec, State.serveLine_of_sending hl (hstate.trans hs),
      State.serveSending_sends (len := e.payload) (by rw [hx]; exact hw) (by rw [hentry he]; rfl)]
    cases p <;> rfl
  case fill =>
    rw [hexec, State.serveLine_of_sending hl (hstate.trans hs), State.serveSending_rests (by rw [hx]; exact hrest)]
    rfl
  case down =>
    rw [hexec, State.serveLine_down _ p (by rw [hstate]; exact hs)]
    rfl
  case probing =>
    rw [hexec, State.serveLine_of_probing hl (hstate.trans hs), State.serveProbing_eq]
    cases p <;> rfl
  case burst =>
    rw [hexec, State.serveLine_of_finishing hl (hstate.trans hs),
      State.enterMarking_eq p (by rw [State.lineFreed, State.updPath_params]; exact hn)]
    cases p <;> rfl
  case mark =>
    rw [hexec, State.serveLine_of_marking hl (hstate.trans hs), State.serveMarking_marks (by rw [hx]; exact hn)]
    cases p <;> rfl
  case replay =>
    obtain ⟨hw, he⟩ := hr
    rw [hexec, State.serveLine_of_marking hl (hstate.trans hs), State.serveMarking_ends (by rw [hx]; exact hn),
      State.endBurst_resends (w := w) (by rw [hx]; exact hbehind) (by rw [hx]; exact hw) (hentry he)]
    cases p <;> rfl
  case burstOver =>
    refine hback ?_
    rw [State.serveLine_of_marking hl (hstate.trans hs), State.serveMarking_ends (by rw [hx]; exact hn),
      State.endBurst_returns (by rw [hx]; exact hbehind)]
  case resend =>
    obtain ⟨hw, he⟩ := hr
    rw [hexec, State.serveLine_of_replaying hl (hstate.trans hs),
      State.serveReplaying_resends (w := w) (by rw [hx]; exact hend) (by rw [hx]; exact hw) (hentry he)]
    cases p <;> rfl
  case replayOver =>
    refine hback ?_
    rw [State.serveLine_of_replaying hl (hstate.trans hs), State.serveReplaying_returns (by rw [hx]; exact hend)]

end Sys2Proof.Machine

/-!
PROOF. What a STATUS does where it retires nothing: discarded, only recorded, or counted in the good run of a PROBING
path (chapter 7): O34, O35.
-/

namespace Sys2Proof.Machine

open Sys2Proof

/-! ## A STATUS that is taken -/

theorem exec_statusFrame {s : State} (p : PathId) (bytes : List Byte) (hp : s.power ≠ .off) :
    exec (.statusFrame p bytes) s = .next (s.resumed (s.takeStatus p bytes)) :=
  whenDueResuming_taken (fun u => u.takeStatus p bytes) hp

/-- A STATUS that reaches no entry resumes no generation. -/
theorem exec_statusFrame_quiet {s t : State} {p : PathId} {bytes : List Byte} (hp : s.power ≠ .off)
    (ht : s.takeStatus p bytes = t) (hpattern : t.pattern = s.pattern) :
    exec (.statusFrame p bytes) s = .next t := by
  rw [exec_statusFrame p bytes hp, ht, State.resumed_same s t (by rw [← ht]; exact s.takeStatus_slots p bytes) hpattern]

/-! ## Discards (R114, R115) -/

theorem statusForm_eq_false {p : PathId} {bytes : List Byte}
    (h : bytes.length ≠ 32 ∨ byteAt bytes 0 ≠ 0x5A ∨ (byteAt bytes 1).toNat ≠ pathCode p ∨ checkGood bytes 28 = false) :
    statusForm p bytes = false := by
  rcases h with h | h | h | h
  case inr.inr.inr => rw [statusForm, h, Bool.and_false]
  all_goals simp only [statusForm, decide_eq_false h, Bool.and_false, Bool.false_and]

/-- A discarded STATUS breaks the good run of a PROBING path, and touches no other. -/
theorem State.breakRun_eq (s : State) (p : PathId) :
    s.breakRun p = s.updPath p fun x => { x with goodRun := if x.state = .probing then 0 else x.goodRun } := by
  unfold State.breakRun
  split
  · rename_i h
    exact State.updPath_congr (by simp only [h, if_true])
  · rename_i h
    exact (State.updPath_self (by simp only [h, if_false])).symm

theorem State.takeStatus_badForm {s : State} {p : PathId} {bytes : List Byte} (h : statusForm p bytes = false) :
    s.takeStatus p bytes = (s.countPath p .badStatus 1).breakRun p := by
  simp [State.takeStatus, h]

theorem State.takeStatus_beyond {s : State} {p : PathId} {bytes : List Byte} (hf : statusForm p bytes = true)
    (hb : seqAfter (parseStatus bytes).ack (s.path p).sentThrough = true) :
    s.takeStatus p bytes = (s.countPath p .ackBeyond 1).breakRun p := by
  simp [State.takeStatus, hf, hb]

/-! ## A good STATUS, by the state of the path (R116, R117) -/

/-- The distance between two report counters, as one number (R116). -/
theorem reportsLost_some (r c : Byte) : reportsLost (some r) c = (c.toNat + 512 - r.toNat - 1) % 256 := by
  simp only [reportsLost]
  bv_omega

/-- A good STATUS finds its path in this state. -/
structure State.HearsIn (s : State) (p : PathId) (bytes : List Byte) (state : PathState) : Prop where
  form : statusForm p bytes = true
  sent : seqAfter (parseStatus bytes).ack (s.path p).sentThrough = false
  state : (s.path p).state = state

namespace State.HearsIn

variable {s : State} {p : PathId} {bytes : List Byte}

theorem takeStatus_eq {x : PathState} (h : s.HearsIn p bytes x) :
    s.takeStatus p bytes = s.goodStatus p (parseStatus bytes) := by
  simp [State.takeStatus, h.form, h.sent]

theorem state_noted {x : PathState} (h : s.HearsIn p bytes x) : ((s.noted p (parseStatus bytes)).path p).state = x := by
  rw [State.path_noted]
  exact h.state

/-- In DISABLED and FAILED the STATUS is recorded, and that is all (R117). -/
theorem takeStatus_down (h : s.HearsIn p bytes .disabled ∨ s.HearsIn p bytes .failed) :
    s.takeStatus p bytes = s.noted p (parseStatus bytes) := by
  rcases h with h | h <;>
  · have hn := h.state_noted
    rw [h.takeStatus_eq, State.goodStatus]
    unfold State.noted at hn ⊢
    dsimp only
    rw [hn]

theorem takeStatus_probing (h : s.HearsIn p bytes .probing) :
    s.takeStatus p bytes =
      (s.noted p (parseStatus bytes)).probeStatus p (parseStatus bytes)
        (reportsLost (s.path p).reportRef (parseStatus bytes).counter) := by
  have hn := h.state_noted
  rw [h.takeStatus_eq, State.goodStatus]
  unfold State.noted at hn ⊢
  dsimp only
  rw [hn]

/-- In FINISHING, MARKING and REPLAYING the procedure goes on (R142). -/
theorem takeStatus_repeating
    (h : s.HearsIn p bytes .finishing ∨ s.HearsIn p bytes .marking ∨ s.HearsIn p bytes .replaying) :
    s.takeStatus p bytes = (s.noted p (parseStatus bytes)).repeatingStatus p (parseStatus bytes) := by
  rcases h with h | h | h <;>
  · have hn := h.state_noted
    rw [h.takeStatus_eq, State.goodStatus]
    unfold State.noted at hn ⊢
    dsimp only
    rw [hn]

end State.HearsIn

/-- Settles O34: a discard counts and breaks the good run, and a path that is down records a good STATUS. -/
theorem statusIsDiscardedOrOnlyRecorded : Obligations.StatusIsDiscardedOrOnlyRecorded := by
  refine ⟨fun s p bytes hp hform => ?badForm, fun s p bytes hp hform hsent => ?beyond,
    fun s p bytes hp hform hsent hdown => ?recorded⟩
  case badForm =>
    refine exec_statusFrame_quiet hp ?_ (by simp)
    rw [State.takeStatus_badForm (statusForm_eq_false hform), State.breakRun_eq]
  case beyond =>
    refine exec_statusFrame_quiet hp ?_ (by simp)
    rw [State.takeStatus_beyond hform hsent, State.breakRun_eq]
  case recorded =>
    intro counter lost
    have hlost : reportsLost (s.path p).reportRef counter = lost := by
      cases h : (s.path p).reportRef with
      | none => simp only [lost, h]; rfl
      | some r => simp only [lost, h]; exact reportsLost_some r counter
    refine exec_statusFrame_quiet hp ?_ (by simp)
    rw [State.HearsIn.takeStatus_down (hdown.imp (⟨hform, hsent, ·⟩) (⟨hform, hsent, ·⟩)), State.noted, hlost]

/-! ## The good run (R116, R120) -/

/-- A path whose good run is full enters SENDING with its silence timer started (R119, R120). -/
def Path.provenGood (x : Path) (run silence : Nat) : Path :=
  { x with goodRun := run, state := .sending, repeatTimer := none, attempts := 0, silence := some silence }

/-- A good STATUS in PROBING sets the good run. A run that is full takes the path to SENDING, where the MARK on the line
runs to its end; a STATUS with REPEAT never fills one (R120). -/
theorem State.probeStatus_full_or_short {s : State} {p : PathId} {t : StatusRecord} {lost run : Nat}
    (hrun : (if t.repeats then 0 else if 0 < lost then 1 else min ((s.path p).goodRun + 1) 15) = run)
    (hl : (s.path p).line ≠ .fill) :
    (t.repeats = false ∧ (s.params.path p).nGood ≤ run
        ∧ s.probeStatus p t lost =
          (s.latchPath p).updPath p fun x => x.provenGood run (s.elapsed + (s.params.path p).silenceTime * 1000))
      ∨ ((t.repeats = true ∨ run < (s.params.path p).nGood)
        ∧ s.probeStatus p t lost = s.updPath p fun x => { x with goodRun := run }) := by
  cases hr : t.repeats
  case true =>
    rw [hr, if_pos rfl] at hrun
    subst hrun
    exact .inr ⟨.inl rfl, by rw [State.probeStatus, if_pos hr]⟩
  case false =>
    rw [hr, if_neg Bool.false_ne_true] at hrun
    have hprobe : s.probeStatus p t lost =
        if (s.params.path p).nGood ≤ run then (s.updPath p fun x => { x with goodRun := run }).leaveProbing p
        else s.updPath p fun x => { x with goodRun := run } := by
      have hupd : s.updPath p (fun x => { x with goodRun := if 0 < lost then 1 else min (x.goodRun + 1) 15 }) =
          s.updPath p fun x => { x with goodRun := run } := State.updPath_congr (by rw [hrun])
      simp [State.probeStatus, hr, hupd]
    by_cases hfull : (s.params.path p).nGood ≤ run
    · refine .inl ⟨rfl, hfull, ?_⟩
      rw [hprobe, if_pos hfull, State.leaveProbing,
        State.serveLine_busy _ p (by simpa [State.restartSilence] using hl)]
      cases p <;> rfl
    · exact .inr ⟨.inr (Nat.lt_of_not_le hfull), by rw [hprobe, if_neg hfull]⟩

theorem State.noted_frame (s : State) (p : PathId) (t : StatusRecord) :
    (s.noted p t).entries = s.entries ∧ (s.noted p t).pattern = s.pattern ∧ (s.noted p t).port = s.port := by
  simp [State.noted]

/-- Settles O35: the run is broken by REPEAT, begins over behind lost reports, and goes on else; full, it takes the path
to SENDING. -/
theorem goodRunTakesThePathToSending : Obligations.GoodRunTakesThePathToSending := by
  intro s p bytes hp hform st x lost run hsent hstate hroom hline
  have h : s.HearsIn p bytes .probing := ⟨hform, hsent, hstate⟩
  have hlost : reportsLost x.reportRef st.counter = lost := by
    cases h : x.reportRef with
    | none => simp only [lost, h]; rfl
    | some r => simp only [lost, h]; exact reportsLost_some r st.counter
  have hactive : (s.noted p st).active = ((s.countPath p .statusLost lost).countPath p .statusGood 1).active := by
    rw [State.noted, hlost, State.updPath_active]
  have hpath : (s.noted p st).path p = { x with reportRef := some st.counter, latest := some st } := s.path_noted p st
  obtain ⟨hentries, hpattern, hport⟩ := s.noted_frame p st
  have htaken := h.takeStatus_probing
  have hstreams := s.streamsSame_takeStatus p bytes
  have hparams : (s.noted p st).params = s.params ∧ (s.noted p st).elapsed = s.elapsed := by simp [State.noted]
  rw [hlost] at htaken
  have hrun : (if st.repeats then 0 else if 0 < lost then 1 else min (((s.noted p st).path p).goodRun + 1) 15) =
      run := by
    rw [hpath, Nat.min_eq_left (by exact hroom)]
  rcases State.probeStatus_full_or_short hrun (by rw [hpath]; exact hline) with ⟨hrep, hfull, ht⟩ | ⟨hshort, ht⟩
  case inl =>
    have ht := htaken.trans ht
    rw [ht] at hstreams
    refine ⟨_, exec_statusFrame_quiet hp ht (by simpa using hpattern), ?_⟩
    simp only [State.path_updPath, State.updPath_active, State.updPath_entries, State.updPath_port,
      State.path_latchPath, hpath, State.latchPath_active, State.latchPath_entries, hparams]
    rw [hparams.1] at hfull
    refine ⟨hactive, rfl, rfl, rfl, rfl, rfl, rfl, by simpa only [hparams] using hstreams, hentries,
      fun _ _ => ⟨rfl, rfl, rfl, rfl, ?_⟩, fun hc => ?_⟩
    · rw [← hport]; rfl
    · rcases hc with hc | hc
      · rw [hrep] at hc; contradiction
      · omega
  case inr =>
    have ht := htaken.trans ht
    rw [ht] at hstreams
    refine ⟨_, exec_statusFrame_quiet hp ht (by simpa using hpattern), ?_⟩
    simp only [State.path_updPath, State.updPath_active, State.updPath_entries, State.updPath_port, hpath]
    refine ⟨hactive, trivial, trivial, trivial, trivial, trivial, trivial, hstreams, hentries, fun hrep hfull => ?_,
      fun _ => ⟨hstate, trivial, hport⟩⟩
    rw [hparams.1] at hshort
    rcases hshort with hc | hc
    · rw [hrep] at hc; contradiction
    · omega

end Sys2Proof.Machine

/-!
PROOF. A STATUS with REPEAT in SENDING, and any STATUS in the repeat procedure: what is retired, and how the procedure
starts or goes on (chapters 7 and 8): O37.
-/

namespace Sys2Proof.Machine

open Sys2Proof

/-! ## A frame that an acknowledgement cuts off (R141) -/

/-- Cell Memory drops holders whatever the path senders hold. -/
theorem State.dropHolder_updPath (s : State) (p : PathId) (f : Path → Path) (n : Nat) (x : Holder) (c : PartCounter) :
    (s.updPath p f).dropHolder n x c = (s.dropHolder n x c).updPath p f := by
  unfold State.dropHolder
  rw [State.entry_updPath]
  split
  · rfl
  · rename_i e _
    split
    · dsimp only
      split
      · unfold State.freeOne
        cases e.owner <;> cases p <;> rfl
      · cases p <;> rfl
    · rfl

theorem State.dropAll_updPath (s : State) (p : PathId) (f : Path → Path) (x : Holder) (c : PartCounter) (ns : List Nat) :
    (s.updPath p f).dropAll x c ns = (s.dropAll x c ns).updPath p f := by
  induction ns generalizing s with
  | nil => rfl
  | cons n ns ih => rw [State.dropAll, State.dropHolder_updPath, ih]; rfl

/-- An acknowledgement that retires the frame on the line does what it does with the line free (R118, R141). -/
theorem State.acknowledge_lineFreed {s : State} {p : PathId} {a : PathSeq} {k : Nat}
    (hack : a = (s.path p).ackThrough + BitVec.ofNat 32 k) (hk : k < 2 ^ 31)
    (hcut : (s.path p).line.isOf (((s.path p).window.take k).map fun w => w.seq) = true) :
    (s.lineFreed p).acknowledge p a = s.acknowledge p a := by
  have hfill (gone : List PathSeq) : Line.isOf .fill gone = false := rfl
  have hnothing (l : Line) : l.isOf [] = false := by cases l <;> rfl
  have hpos : 0 < k := by
    refine Nat.pos_of_ne_zero fun h => ?_
    rw [h, List.take_zero, List.map_nil, hnothing] at hcut
    contradiction
  obtain ⟨hafter, hd⟩ := seqAfter_add (s.path p).ackThrough hk
  rw [← hack] at hafter hd
  have hnew : seqAfter a (s.path p).ackThrough = true := by rw [hafter]; exact decide_eq_true hpos
  simp only [State.acknowledge, State.path_lineFreed, hnew, if_true, hd]
  rw [State.lineFreed, State.dropAll_updPath, State.countPath_updPath, State.updPath_updPath]
  refine State.updPath_congr ?_
  simp only [State.path_countPath, State.path_dropAll, hfill, hcut, if_true, Bool.false_eq_true, if_false]

/-! ## The acknowledgement of a recorded STATUS (R117 to R119) -/

/-- The part once a good STATUS is recorded, the silence timer started again, and its acknowledgement done. -/
def State.acked (s : State) (p : PathId) (t : StatusRecord) : State := (s.heardStatus p t).acknowledge p t.ack

theorem State.acked_lineFreed {s : State} {p : PathId} {t : StatusRecord} {k : Nat}
    (hack : t.ack = (s.path p).ackThrough + BitVec.ofNat 32 k) (hk : k < 2 ^ 31)
    (hcut : (s.path p).line.isOf (((s.path p).window.take k).map fun w => w.seq) = true) :
    (s.lineFreed p).acked p t = s.acked p t := by
  have hheard : (s.lineFreed p).heardStatus p t = (s.heardStatus p t).lineFreed p := by cases p <;> rfl
  have hx := s.path_heardStatus p t
  rw [State.acked, State.acked, hheard,
    State.acknowledge_lineFreed (by rw [hx]; exact hack) hk (by rw [hx]; exact hcut)]

/-- A counter that rises by `n`, or stays where `n` is 0. -/
def CountedBy (before after n : Nat) : Prop := if n = 0 then after = before else after = capAdd before n

theorem countedBy_zero {a b : Nat} (h : b = a) : CountedBy a b 0 := h

/-- What a good STATUS that acknowledges `k` window places leaves of the part: the path, the counters of the repeat
procedure and of the retired entries, the entries that stay, and the port. -/
structure State.TookStatus (s t : State) (p : PathId) (k : Nat) (after : Path) (repeats ignored : Nat)
    (moved : List BacklogPlace) : Prop where
  path : t.path p = after
  repeats : CountedBy (s.pathCount p .repeats) (t.pathCount p .repeats) repeats
  ignored : CountedBy (s.pathCount p .repeatIgnored) (t.pathCount p .repeatIgnored) ignored
  retired : 0 < k → t.pathCount p .retired = capAdd (s.pathCount p .retired) ((s.path p).window.take k).length
  entries : ∀ e ∈ s.entries, e.number ∉ ((s.path p).window.take k).map (fun w => w.entry) →
    e.movedBy p moved ∈ t.entries
  port : t.port = s.port

/-- The acknowledgement of a recorded STATUS, with no retired frame on the line. -/
theorem State.tookStatus_acked {s : State} {p : PathId} {t : StatusRecord} {k : Nat}
    (h : s.Acknowledges p t.ack k) :
    s.TookStatus (s.acked p t) p k
      ((s.path p).heard t k (s.elapsed + (s.params.path p).silenceTime * 1000)) 0 0 [] := by
  have hx := s.path_heardStatus p t
  have hu : (s.heardStatus p t).Acknowledges p t.ack k :=
    ⟨by rw [hx]; exact h.ack, h.near, by rw [hx]; exact h.kept⟩
  have hcount {c : PathCounter} (hl : PathCounter.statusLost.pos ≠ c.pos) (hg : PathCounter.statusGood.pos ≠ c.pos)
      (hr : PathCounter.retired.pos ≠ c.pos) : (s.acked p t).pathCount p c = s.pathCount p c := by
    have hheard : (s.heardStatus p t).pathCount p c = s.pathCount p c := by
      simp only [State.heardStatus, State.restartSilence, State.noted, State.pathCount_updPath]
      rw [State.pathCount_countPath_ne _ _ hg, State.pathCount_countPath_ne _ _ hl]
    rcases Nat.eq_zero_or_pos k with hk | hk
    · rw [State.acked, hu.acknowledge_zero hk, hheard]
    · rw [State.acked, hu.acknowledge_pos hk, State.pathCount_updPath, State.pathCount_countPath_ne _ _ hr,
        State.pathCount_dropAll, hheard]
  refine ⟨?path, countedBy_zero (hcount (by decide) (by decide) (by decide)),
    countedBy_zero (hcount (by decide) (by decide) (by decide)), fun hk => ?retired, fun e he hn => ?entries, ?port⟩
  case path =>
    rw [State.acked, hu.path_acknowledge, hx]
    rfl
  case retired =>
    rw [State.acked, hu.retired_acknowledge hk, State.retired_heardStatus, hx]
  case entries =>
    rw [Entry.movedBy_nil, State.acked, hu.entries_acknowledge, hx]
    exact State.mem_dropAll _ _ _ _ (by simpa using he) hn
  case port => simp [State.acked, State.heardStatus, State.noted]

/-! ## What follows the acknowledgement -/

namespace State.TookStatus

variable {s t : State} {p : PathId} {k r i : Nat} {x : Path} {moved : List BacklogPlace}

theorem updPath (h : s.TookStatus t p k x r i moved) (f : Path → Path) :
    s.TookStatus (t.updPath p f) p k (f x) r i moved where
  path := by rw [State.path_updPath, h.path]
  repeats := by rw [State.pathCount_updPath]; exact h.repeats
  ignored := by rw [State.pathCount_updPath]; exact h.ignored
  retired hk := by rw [State.pathCount_updPath]; exact h.retired hk
  entries e he hn := by rw [State.updPath_entries]; exact h.entries e he hn
  port := by rw [State.updPath_port]; exact h.port

theorem countRepeats (h : s.TookStatus t p k x 0 i moved) :
    s.TookStatus (t.countPath p .repeats 1) p k x 1 i moved where
  path := by rw [State.path_countPath]; exact h.path
  repeats := by rw [State.pathCount_countPath_self, h.repeats]; rfl
  ignored := by rw [State.pathCount_countPath_ne _ _ (by decide)]; exact h.ignored
  retired hk := by rw [State.pathCount_countPath_ne _ _ (by decide)]; exact h.retired hk
  entries := h.entries
  port := h.port

theorem countIgnored (h : s.TookStatus t p k x r 0 moved) :
    s.TookStatus (t.countPath p .repeatIgnored 1) p k x r 1 moved where
  path := by rw [State.path_countPath]; exact h.path
  repeats := by rw [State.pathCount_countPath_ne _ _ (by decide)]; exact h.repeats
  ignored := by rw [State.pathCount_countPath_self, h.ignored]; rfl
  retired hk := by rw [State.pathCount_countPath_ne _ _ (by decide)]; exact h.retired hk
  entries := h.entries
  port := h.port

theorem countMarks (h : s.TookStatus t p k x r i moved) :
    s.TookStatus (t.countPath p .marksSent 1) p k x r i moved where
  path := by rw [State.path_countPath]; exact h.path
  repeats := by rw [State.pathCount_countPath_ne _ _ (by decide)]; exact h.repeats
  ignored := by rw [State.pathCount_countPath_ne _ _ (by decide)]; exact h.ignored
  retired hk := by rw [State.pathCount_countPath_ne _ _ (by decide)]; exact h.retired hk
  entries := h.entries
  port := h.port

theorem drain (h : s.TookStatus t p k x r i []) (hs : x.state = .sending) :
    s.TookStatus (t.drain p) p k x.drained r i x.draining where
  path := by rw [State.path_drain (by rw [h.path]; exact hs), h.path]
  repeats := by rw [State.pathCount_drain]; exact h.repeats
  ignored := by rw [State.pathCount_drain]; exact h.ignored
  retired hk := by rw [State.pathCount_drain]; exact h.retired hk
  entries e he hn := by
    have hm := h.entries e he hn
    rw [Entry.movedBy_nil] at hm
    rw [State.entries_drain (by rw [h.path]; exact hs), h.path]
    exact List.mem_map_of_mem hm
  port := by rw [State.drain_port]; exact h.port

/-- A line that is freed first changes no more than the path. -/
theorem ofLineFreed (h : (s.lineFreed p).TookStatus t p k x r i moved) : s.TookStatus t p k x r i moved := by
  obtain ⟨hpath, hrepeats, hignored, hretired, hentries, hport⟩ := h
  rw [State.path_lineFreed] at hretired hentries
  rw [State.lineFreed] at hrepeats hignored hretired hentries hport
  rw [State.pathCount_updPath] at hrepeats hignored hretired
  rw [State.updPath_entries] at hentries
  rw [State.updPath_port] at hport
  exact ⟨hpath, hrepeats, hignored, hretired, hentries, hport⟩

end State.TookStatus

/-! ## The procedure (R134 to R137, R142) -/

/-- A path that starts the repeat procedure: one more attempt, FINISHING (R134, R136). -/
def Path.finishing (x : Path) : Path := { x with attempts := min (x.attempts + 1) 15, state := .finishing }

/-- A REPEAT with the repeat timer stopped starts the procedure behind its acknowledgement (R134). -/
theorem State.takeStatus_starts {s : State} {p : PathId} {bytes : List Byte} (h : s.HearsIn p bytes .sending)
    (hrep : (parseStatus bytes).repeats = true)
    (hstopped : ((s.acked p (parseStatus bytes)).path p).repeatTimer = none) :
    s.takeStatus p bytes =
      (((s.acked p (parseStatus bytes)).updPath p Path.finishing).countPath p .repeats 1).serveLine p := by
  rw [State.takeStatus_of_sending h.form h.sent h.state]
  unfold State.acked State.heardStatus at hstopped ⊢
  simp only [State.sendingStatus, hrep, if_true, hstopped]
  rfl

/-- A REPEAT with the repeat timer running is counted, and the backlog drains (R113, R135). -/
theorem State.takeStatus_ignores {s : State} {p : PathId} {bytes : List Byte} {u : Nat} (h : s.HearsIn p bytes .sending)
    (hrep : (parseStatus bytes).repeats = true)
    (hruns : ((s.acked p (parseStatus bytes)).path p).repeatTimer = some u) :
    s.takeStatus p bytes =
      (((s.acked p (parseStatus bytes)).countPath p .repeatIgnored 1).drain p).serveLine p := by
  rw [State.takeStatus_of_sending h.form h.sent h.state]
  unfold State.acked State.heardStatus at hruns ⊢
  simp only [State.sendingStatus, hrep, if_true, hruns]

/-- The path that a REPEAT takes to MARKING at once: the repeat timer started, the first MARK of the burst on the line
(R136, R137). -/
def State.markingAtOnce (s : State) (p : PathId) (t : StatusRecord) (k : Nat) : Path :=
  { (s.path p).heard t k (s.elapsed + (s.params.path p).silenceTime * 1000) with
    state := .marking, attempts := min ((s.path p).attempts + 1) 15
    repeatTimer := some (s.elapsed + s.params.repeatTime * 1000)
    burstOrdinal := 1, burstLength := s.params.nMark
    line := .mark 0 (t.ack + 1) (s.now % 2 ^ 32) (s.elapsed + markTime s.params.rate) }

/-- With a free line the path is MARKING at once. -/
theorem State.tookStatus_marking {s : State} {p : PathId} {bytes : List Byte} {k : Nat}
    (h : s.HearsIn p bytes .sending) (hrep : (parseStatus bytes).repeats = true)
    (hstopped : (s.path p).repeatTimer = none) (hacks : s.Acknowledges p (parseStatus bytes).ack k)
    (hfill : (s.path p).line = .fill) (hmarks : 0 < s.params.nMark) :
    s.TookStatus (s.takeStatus p bytes) p k (s.markingAtOnce p (parseStatus bytes) k) 1 0
      [] := by
  have hacked := State.tookStatus_acked hacks
  have hstarted := (hacked.updPath Path.finishing).countRepeats
  have hparams : (s.acked p (parseStatus bytes)).params = s.params ∧ (s.acked p (parseStatus bytes)).elapsed = s.elapsed
      ∧ (s.acked p (parseStatus bytes)).now = s.now := by
    simp [State.acked, State.heardStatus, State.noted]
  obtain ⟨hparams, helapsed, hnow⟩ := hparams
  rw [State.takeStatus_starts h hrep (by rw [hacked.path]; exact hstopped),
    State.serveLine_of_finishing (by rw [hstarted.path]; exact hfill) (by rw [hstarted.path]; rfl),
    State.enterMarking_eq p (by simpa [hparams] using hmarks)]
  simp only [State.countPath_elapsed, State.countPath_params, State.now_countPath, State.updPath_elapsed,
    State.updPath_params, State.now_updPath, hparams, helapsed, hnow]
  exact hstarted.countMarks.updPath _

/-- With its frame cut off by the acknowledgement the path is MARKING at once (R141). -/
theorem State.tookStatus_marking_cut {s : State} {p : PathId} {bytes : List Byte} {k : Nat}
    (h : s.HearsIn p bytes .sending) (hrep : (parseStatus bytes).repeats = true)
    (hstopped : (s.path p).repeatTimer = none)
    (hack : (parseStatus bytes).ack = (s.path p).ackThrough + BitVec.ofNat 32 k) (hk : k < 2 ^ 31)
    (hcut : (s.path p).line.isOf (((s.path p).window.take k).map fun w => w.seq) = true) (hmarks : 0 < s.params.nMark) :
    s.TookStatus (s.takeStatus p bytes) p k (s.markingAtOnce p (parseStatus bytes) k) 1 0 [] := by
  have hfreed := s.path_lineFreed p
  have hin : (s.lineFreed p).HearsIn p bytes .sending :=
    ⟨h.form, by rw [hfreed]; exact h.sent, by rw [hfreed]; exact h.state⟩
  have hacks : (s.lineFreed p).Acknowledges p (parseStatus bytes).ack k :=
    ⟨by rw [hfreed]; exact hack, hk, by rw [hfreed]; rfl⟩
  have hacked := State.acked_lineFreed hack hk hcut
  have htimer : (((s.lineFreed p).acked p (parseStatus bytes)).path p).repeatTimer = none := by
    rw [(State.tookStatus_acked hacks).path, hfreed]
    exact hstopped
  have hsame : (s.lineFreed p).takeStatus p bytes = s.takeStatus p bytes := by
    rw [State.takeStatus_starts hin hrep htimer, State.takeStatus_starts h hrep (by rw [← hacked]; exact htimer), hacked]
  have hmark : (s.lineFreed p).markingAtOnce p (parseStatus bytes) k = s.markingAtOnce p (parseStatus bytes) k := by
    cases p <;> rfl
  have hmarking := State.tookStatus_marking hin hrep (by rw [hfreed]; exact hstopped) hacks (by rw [hfreed])
    (by rw [State.lineFreed, State.updPath_params]; exact hmarks)
  rw [hsame, hmark] at hmarking
  exact hmarking.ofLineFreed

/-- Settles O37: behind its acknowledgement a STATUS goes by its REPEAT flag, the repeat timer and the line; a frame that
it retires is cut off, as if the line had been free. -/
theorem repeatStartsTheProcedure : Obligations.RepeatStartsTheProcedure := by
  intro s p bytes k hp hform st x gone heard runsOn taken hsent hack hk
  have conclude {after : Path} {r i : Nat} {moved : List BacklogPlace}
      (h : s.TookStatus (s.takeStatus p bytes) p k after r i moved) : taken after r i moved :=
    ⟨_, exec_statusFrame p bytes hp, h.path, h.repeats, h.ignored, h.retired, h.entries, h.port,
      s.streamsSame_takeStatus p bytes⟩
  have acked (hr : runsOn) : s.TookStatus (s.acked p st) p k heard 0 0 [] := State.tookStatus_acked ⟨hack, hk, hr.2⟩
  refine ⟨fun hs hrep hstopped => ⟨fun hr => conclude ?finishing, fun hfree hmarks => conclude ?marking⟩,
    fun u hs hrep hruns hr => conclude ?ignored, fun hs hr => conclude ?procedure⟩
  case finishing =>
    have hstarted := ((acked hr).updPath Path.finishing).countRepeats
    rw [State.takeStatus_starts ⟨hform, hsent, hs⟩ hrep (by rw [(acked hr).path]; exact hstopped),
      State.serveLine_busy _ p (by rw [hstarted.path]; exact hr.1)]
    exact hstarted
  case marking =>
    rcases hfree with hfill | hcut
    · refine State.tookStatus_marking ⟨hform, hsent, hs⟩ hrep hstopped ⟨hack, hk, ?_⟩ hfill hmarks
      rw [hfill]
      rfl
    · exact State.tookStatus_marking_cut ⟨hform, hsent, hs⟩ hrep hstopped hack hk hcut hmarks
  case ignored =>
    have hignored := (acked hr).countIgnored.drain (x := heard) hs
    rw [State.takeStatus_ignores (u := u) ⟨hform, hsent, hs⟩ hrep (by rw [(acked hr).path]; exact hruns),
      State.serveLine_busy _ p (by rw [hignored.path]; exact hr.1)]
    exact hignored
  case procedure =>
    have hin : s.HearsIn p bytes .finishing ∨ s.HearsIn p bytes .marking ∨ s.HearsIn p bytes .replaying :=
      hs.imp (⟨hform, hsent, ·⟩) (Or.imp (⟨hform, hsent, ·⟩) (⟨hform, hsent, ·⟩))
    have htaken : s.takeStatus p bytes =
        (if st.repeats then (s.acked p st).countPath p .repeatIgnored 1 else s.acked p st).serveLine p :=
      State.HearsIn.takeStatus_repeating hin
    have hbusy {t : State} {i : Nat} (h : s.TookStatus t p k heard 0 i []) : t.serveLine p = t :=
      t.serveLine_busy p (by rw [h.path]; exact hr.1)
    rw [htaken]
    cases hrep : st.repeats
    case true =>
      rw [if_pos rfl, hbusy (acked hr).countIgnored]
      exact (acked hr).countIgnored
    case false =>
      rw [if_neg Bool.false_ne_true, hbusy (acked hr)]
      exact acked hr

end Sys2Proof.Machine

/-!
PROOF. The failure of a path and the expiries of its timers: what a failure releases and counts, PROBING behind the
holdoff, the repeat timer below the attempt limit (chapters 7 and 8): O38, O39.
-/

namespace Sys2Proof.Machine

open Sys2Proof

/-! ## Frames and releases, as to counters, entries and streams -/

@[simp] theorem State.pathCount_latchPath (s : State) (p q : PathId) (c : PathCounter) :
    (s.latchPath q).pathCount p c = s.pathCount p c := by
  cases p <;> rfl

theorem PathCounter.pos_eq_ctorIdx (c : PathCounter) : (c.pos : Nat) = c.ctorIdx := by cases c <;> rfl

theorem PathCounter.pos_injective {c d : PathCounter} (h : c.pos = d.pos) : c = d := by
  have hidx : c.ctorIdx = d.ctorIdx := by rw [← c.pos_eq_ctorIdx, h, d.pos_eq_ctorIdx]
  rw [← PathCounter.ofNat_ctorIdx c, hidx, PathCounter.ofNat_ctorIdx]

/-- Counting moves one counter (R182). -/
theorem State.pathCount_countPath (s : State) (p : PathId) (c d : PathCounter) (n : Nat) :
    (s.countPath p c n).pathCount p d = if d = c then capAdd (s.pathCount p d) n else s.pathCount p d := by
  split
  · rename_i h
    rw [h, State.pathCount_countPath_self]
  · rename_i h
    exact State.pathCount_countPath_ne _ _ (fun e => h (PathCounter.pos_injective e).symm) _

@[simp] theorem State.queue_releasePath (s : State) (p : PathId) (l : Fin 4) :
    ((s.releasePath p).lane l).queue = (s.lane l).queue := by rw [State.lane_releasePath]

/-- A release counts the places it empties and nothing else of its path (R121). -/
theorem State.pathCount_releasePath (s : State) (p : PathId) (c : PathCounter) :
    (s.releasePath p).pathCount p c =
      if c = .pathReleased then
        capAdd (s.pathCount p c) ((s.path p).window.length + (s.path p).backlog.length)
      else s.pathCount p c := by
  simp only [State.releasePath, State.pathCount_updPath, State.pathCount_countPath, State.pathCount_dropAll]

theorem State.entries_releasePath (s : State) (p : PathId) :
    (s.releasePath p).entries =
      ((s.dropAll (.window p) .freedReleased ((s.path p).window.map fun w => w.entry)).dropAll (.backlog p)
        .freedReleased ((s.path p).backlog.map fun b => b.entry)).entries := by
  simp [State.releasePath]

/-- A release touches the entries of the window and the backlog alone. -/
theorem State.mem_releasePath {s : State} {p : PathId} {e : Entry} (he : e ∈ s.entries)
    (hw : e.number ∉ (s.path p).window.map fun w => w.entry)
    (hb : e.number ∉ (s.path p).backlog.map fun b => b.entry) : e ∈ (s.releasePath p).entries := by
  rw [State.entries_releasePath]
  exact State.mem_dropAll _ _ _ _ (State.mem_dropAll _ _ _ _ he hw) hb

/-- A release frees the window's entries that nothing else holds (R100, R121). -/
theorem State.releasePath_frees {s : State} (hr : s.entriesRising) {p : PathId} {e : Entry} (he : e ∈ s.entries)
    (hw : e.number ∈ (s.path p).window.map fun w => w.entry) (hh : e.holders = Holders.nobody.put (.window p) true) :
    ∀ y ∈ (s.releasePath p).entries, y.number ≠ e.number := by
  rw [State.entries_releasePath]
  intro y hy
  obtain ⟨z, hz, hzy⟩ := State.number_of_mem_dropAll hy
  exact hzy ▸ State.dropAll_frees (State.heldOnlyBy_of_rising hr he hh) _ hw z hz

/-! ## Entry into FAILED (R121) -/

theorem State.path_failPath (s : State) (p : PathId) (r : FailReason) :
    (s.path p).failedFrom ((s.failPath p r).path p) r (s.failHoldoff p) := by
  simp [Path.failedFrom, State.failPath, State.failHoldoff]

theorem State.pathCount_failPath (s : State) (p : PathId) (r : FailReason) (c : PathCounter) :
    (s.failPath p r).pathCount p c =
      if c = .failures then capAdd (s.pathCount p c) 1
      else if c = .pathReleased then
        capAdd (s.pathCount p c) ((s.path p).window.length + (s.path p).backlog.length)
      else s.pathCount p c := by
  simp only [State.failPath, State.pathCount_latchPath, State.pathCount_updPath, State.pathCount_releasePath,
    State.pathCount_countPath, State.path_countPath]
  cases c <;> rfl

theorem State.entries_failPath (s : State) (p : PathId) (r : FailReason) :
    (s.failPath p r).entries = ((s.countPath p .failures 1).releasePath p).entries := by
  simp [State.failPath]

theorem State.streamsSame_failPath (s : State) (p : PathId) (r : FailReason) : s.streamsSame (s.failPath p r) p := by
  simp [State.streamsSame, State.sameSetting, State.failPath]

/-- The part as a cause of failure leaves it just before path `p` fails: the path has become `before`, with its window
and its backlog kept, and the counter of the cause, if it has one, has risen. -/
structure State.FailsBy (s u : State) (p : PathId) (before : Path) (extra : Option PathCounter) : Prop where
  path : u.path p = before
  window : before.window = (s.path p).window
  backlog : before.backlog = (s.path p).backlog
  own : extra ≠ some .failures ∧ extra ≠ some .pathReleased
  counts : ∀ c, u.pathCount p c = if extra = some c then capAdd (s.pathCount p c) 1 else s.pathCount p c
  entries : u.entries = s.entries
  port : u.port = s.port
  streams : s.streamsSame u p

theorem State.failsBy_self (s : State) (p : PathId) : s.FailsBy s p (s.path p) none :=
  ⟨rfl, rfl, rfl, by decide, fun _ => rfl, rfl, rfl, by simp [State.streamsSame, State.sameSetting]⟩

theorem State.failsBy_counted {s : State} {p : PathId} {c : PathCounter} {f : Path → Path}
    (hw : (f (s.path p)).window = (s.path p).window) (hb : (f (s.path p)).backlog = (s.path p).backlog)
    (hc : c ≠ .failures ∧ c ≠ .pathReleased) :
    s.FailsBy ((s.countPath p c 1).updPath p f) p (f (s.path p)) (some c) where
  path := by rw [State.path_updPath, State.path_countPath]
  window := hw
  backlog := hb
  own := by simpa using hc
  counts d := by simp only [State.pathCount_updPath, State.pathCount_countPath, Option.some.injEq, eq_comm (a := c)]
  entries := by simp
  port := by simp
  streams := by simp [State.streamsSame, State.sameSetting]

theorem State.streamsSame.trans {s t u : State} {p : PathId} (h : s.streamsSame t p) (h' : t.streamsSame u p) :
    s.streamsSame u p := by
  simp only [State.streamsSame, State.sameSetting] at h h' ⊢
  simp only [h', h, and_self, implies_true]

namespace State.FailsBy

variable {s u : State} {p : PathId} {before : Path} {extra : Option PathCounter} (h : s.FailsBy u p before extra)
include h

theorem path_failPath (r : FailReason) : before.failedFrom ((u.failPath p r).path p) r (u.failHoldoff p) := by
  have hf := u.path_failPath p r
  rwa [h.path] at hf

theorem streams_failPath (r : FailReason) : s.streamsSame (u.failPath p r) p :=
  h.streams.trans (u.streamsSame_failPath p r)

theorem latches (r : FailReason) :
    (u.failPath p r).port.causes = s.port.causes ||| 0x02
      ∧ (u.failPath p r).port.pathDetail = s.port.pathDetail ||| (1#2 <<< pathCode p) := by
  have hport : (u.failPath p r).port =
      { s.port with
        causes := setBit s.port.causes Cause.pathChange.bit
        pathDetail := setBit s.port.pathDetail (pathCode p) } := by
    rw [State.failPath, State.latchPath, State.updPort_port, State.updPath_port, State.releasePath_port,
      State.countPath_port, h.port]
  rw [hport]
  exact ⟨rfl, rfl⟩

theorem counts_failPath (r : FailReason) (c : PathCounter) :
    (u.failPath p r).pathCount p c =
      if c = .failures ∨ extra = some c then capAdd (s.pathCount p c) 1
      else if c = .pathReleased then
        capAdd (s.pathCount p c) ((s.path p).window.length + (s.path p).backlog.length)
      else s.pathCount p c := by
  rw [State.pathCount_failPath, h.counts, h.path, h.window, h.backlog]
  obtain ⟨hfail, hrel⟩ := h.own
  by_cases hf : c = .failures
  · simp [hf, hfail]
  · by_cases hr : c = .pathReleased
    · simp [hr, hrel]
    · simp [hf, hr]

/-- The window's entries are freed where nothing else holds them; entries outside the path stay. -/
theorem entries_failPath (r : FailReason) (hr : s.entriesRising) {e : Entry} (he : e ∈ s.entries) :
    (e.number ∈ (s.path p).window.map (fun w => w.entry) → e.holders = Holders.nobody.put (.window p) true →
        ∀ y ∈ (u.failPath p r).entries, y.number ≠ e.number)
      ∧ (e.number ∉ (s.path p).window.map (fun w => w.entry) → e.number ∉ (s.path p).backlog.map (fun b => b.entry) →
        e ∈ (u.failPath p r).entries) := by
  have hentries : (u.countPath p .failures 1).entries = s.entries := h.entries
  have hpath : (u.countPath p .failures 1).path p = before := by rw [State.path_countPath, h.path]
  rw [State.entries_failPath, ← h.window, ← h.backlog, ← hpath]
  rw [← hentries] at he
  have hrising : (u.countPath p .failures 1).entriesRising := by rwa [State.entriesRising, hentries]
  exact ⟨fun hw hh => State.releasePath_frees hrising he hw hh, fun hw hb => State.mem_releasePath he hw hb⟩

end State.FailsBy

/-! ## Module answers and missed polls (R126, R127) -/

/-- The part once a read has found the indicator set: MODULE_RESTARTS counted, the settings write begun (R126). -/
def State.restartFound (s : State) (p : PathId) : State :=
  (s.countPath p .moduleRestarts 1).updPath p fun x =>
    { x with
      lastIndicator := true, unanswered := 0, moduleAbsent := false, holdoffOwed := x.owesHoldoff
      poll := .writing (s.params.path p).settings (s.elapsed + Config.pollWait) }

theorem State.path_restartFound (s : State) (p : PathId) :
    (s.restartFound p).path p =
      { s.path p with
        lastIndicator := true, unanswered := 0, moduleAbsent := false, holdoffOwed := (s.path p).owesHoldoff
        poll := .writing (s.params.path p).settings (s.elapsed + Config.pollWait) } := by
  rw [State.restartFound, State.path_updPath, State.path_countPath]

/-- A path in use whose module was present owes no holdoff. -/
theorem State.path_restartFound_inUse {s : State} {p : PathId} (hs : (s.path p).state.isSending = true)
    (habsent : (s.path p).moduleAbsent = false) :
    (s.restartFound p).path p =
      { s.path p with
        lastIndicator := true, unanswered := 0, holdoffOwed := false
        poll := .writing (s.params.path p).settings (s.elapsed + Config.pollWait) } := by
  have hnot : (s.path p).state ≠ .failed := fun h => by rw [h] at hs; contradiction
  have howes : (s.path p).owesHoldoff = false := by simp [Path.owesHoldoff, hnot]
  rw [State.path_restartFound, howes]
  simp only [habsent]

theorem State.failsBy_restartFound (s : State) (p : PathId) :
    s.FailsBy (s.restartFound p) p ((s.restartFound p).path p) (some .moduleRestarts) := by
  rw [State.path_restartFound]
  exact State.failsBy_counted rfl rfl (by decide)

/-- A set indicator fails a path in use and breaks the good run of a PROBING one (R126). -/
theorem State.moduleRestarted_answered (s : State) (p : PathId) :
    (s.moduleAnswered p true).moduleRestarted p =
      if (s.path p).state.isSending then (s.restartFound p).failPath p .moduleRestart
      else if (s.path p).state = .probing then (s.restartFound p).updPath p fun x => { x with goodRun := 0 }
      else s.restartFound p := by
  have hfound :
      ((s.moduleAnswered p true).countPath p .moduleRestarts 1).updPath p (fun x =>
        { x with
          poll := .writing ((s.moduleAnswered p true).params.path p).settings
            ((s.moduleAnswered p true).elapsed + Config.pollWait) }) = s.restartFound p := by
    cases p <;> rfl
  have hstate : ((s.restartFound p).path p).state = (s.path p).state := by rw [State.path_restartFound]
  rw [← hstate, ← hfound]
  rfl

/-- The part once a step of a poll has gone unanswered: counted, and the third makes the module absent (R127). -/
def State.pollMissed (s : State) (p : PathId) : State :=
  (s.countPath p .pollsUnanswered 1).updPath p fun x =>
    { x with
      poll := .idle, unanswered := min (x.unanswered + 1) 255
      moduleAbsent := x.moduleAbsent || decide (3 ≤ min (x.unanswered + 1) 255) }

theorem State.path_pollMissed (s : State) (p : PathId) :
    (s.pollMissed p).path p =
      { s.path p with
        poll := .idle, unanswered := min ((s.path p).unanswered + 1) 255
        moduleAbsent := (s.path p).moduleAbsent || decide (3 ≤ min ((s.path p).unanswered + 1) 255) } := by
  rw [State.pollMissed, State.path_updPath, State.path_countPath]

theorem State.failsBy_pollMissed (s : State) (p : PathId) :
    s.FailsBy (s.pollMissed p) p ((s.pollMissed p).path p) (some .pollsUnanswered) := by
  rw [State.path_pollMissed]
  exact State.failsBy_counted rfl rfl (by decide)

theorem State.unansweredPoll_eq (s : State) (p : PathId) :
    s.unansweredPoll p =
      if ((s.pollMissed p).path p).moduleAbsent then (s.pollMissed p).missModule p else s.pollMissed p := by
  rw [State.pollMissed, ← State.countPath_updPath]
  rfl

/-- The third unanswered poll in a row, and every one behind it, finds the module absent (R127). -/
theorem State.unansweredPoll_absent {s : State} {p : PathId} (h : 2 ≤ (s.path p).unanswered) :
    s.unansweredPoll p = (s.pollMissed p).missModule p := by
  have hthird : 3 ≤ min ((s.path p).unanswered + 1) 255 := by omega
  rw [State.unansweredPoll_eq, State.path_pollMissed, decide_eq_true hthird, Bool.or_true, if_pos rfl]

/-- A path that is neither DISABLED nor FAILED fails with its module absent (R127). -/
theorem State.missModule_fails {s : State} {p : PathId} (hd : (s.path p).state ≠ .disabled)
    (hf : (s.path p).state ≠ .failed) : s.missModule p = s.failPath p .moduleAbsent := by
  unfold State.missModule
  split
  · rename_i h; exact absurd h hd
  · rename_i h; exact absurd h hf
  · rfl

/-! ## The repeat timer (R143, R144) -/

/-- A repeat timer that expires at the attempt limit, with REPEAT in the latest status, fails the path (R143). -/
theorem State.expireRepeat_fails {s : State} {p : PathId} {st : StatusRecord} (hl : (s.path p).latest = some st)
    (hr : st.repeats = true) (ha : s.params.attemptLimit ≤ (s.path p).attempts) :
    s.expireRepeat p = s.failPath p .attempts := by
  simp [State.expireRepeat, Path.latestRepeats, hl, hr, ha]

/-- Below the attempt limit a new burst waits for the end of the frame on the line (R143). -/
theorem State.expireRepeat_remarks {s : State} {p : PathId} {st : StatusRecord} (hl : (s.path p).latest = some st)
    (hr : st.repeats = true) (ha : (s.path p).attempts < s.params.attemptLimit) (hline : (s.path p).line ≠ .fill) :
    s.expireRepeat p =
      (s.countPath p .remarks 1).updPath p fun x =>
        { x with attempts := min (x.attempts + 1) 15, repeatTimer := none, state := .finishing } := by
  have hrep : (s.path p).latestRepeats = true := by simp [Path.latestRepeats, hl, hr]
  rw [State.expireRepeat, if_pos hrep, if_neg (Nat.not_le.mpr ha), State.serveLine_busy _ p (by simpa using hline),
    State.countPath_updPath]

/-- Without REPEAT in the latest status the timer stops (R144). -/
theorem State.expireRepeat_stops {s : State} {p : PathId}
    (h : (s.path p).latest = none ∨ ∃ st, (s.path p).latest = some st ∧ st.repeats = false) :
    s.expireRepeat p = s.updPath p fun x => { x with repeatTimer := none } := by
  have hrep : (s.path p).latestRepeats = false := by
    rcases h with h | ⟨st, h, hr⟩
    · simp [Path.latestRepeats, h]
    · simp [Path.latestRepeats, h, hr]
  rw [State.expireRepeat, hrep, if_neg Bool.false_ne_true]

/-! ## The events -/

section

variable {s : State} {p : PathId} {u : Nat} (hp : s.power ≠ .off) (hle : u ≤ s.elapsed)
include hp hle

theorem exec_silenceExpiry (hu : (s.path p).silence = some u) :
    exec (.silenceExpiry p) s = .next (s.resumed (s.failPath p .silent)) := by
  change whenDueResuming (s.expired (s.path p).silence) (fun s => s.failPath p .silent) s = _
  rw [hu, State.expired_of_le hle]
  exact whenDueResuming_taken _ hp

theorem exec_repeatTimerExpiry (hu : (s.path p).repeatTimer = some u) :
    exec (.repeatTimerExpiry p) s = .next (s.resumed (s.expireRepeat p)) := by
  change whenDueResuming (s.expired (s.path p).repeatTimer) (fun s => s.expireRepeat p) s = _
  rw [hu, State.expired_of_le hle]
  exact whenDueResuming_taken _ hp

theorem exec_holdoffExpiry (hu : (s.path p).holdoff = some u) :
    exec (.holdoffExpiry p) s = .next (s.enterProbing p) := by
  change whenDue (s.expired (s.path p).holdoff) (fun s => s.enterProbing p) s = _
  rw [hu, State.expired_of_le hle]
  exact whenDue_taken _ hp

theorem exec_pollUnanswered (hu : (s.path p).poll.waitsUntil = some u) :
    exec (.pollUnanswered p) s = .next (s.resumed (s.unansweredPoll p)) := by
  change whenDueResuming (s.expired (s.path p).poll.waitsUntil) (fun s => s.unansweredPoll p) s = _
  rw [hu, State.expired_of_le hle]
  exact whenDueResuming_taken _ hp

end

theorem exec_moduleReadAnswer {s : State} {p : PathId} {u : Nat} (hp : s.power ≠ .off)
    (hu : (s.path p).poll = .reading u) (indicator : Bool) :
    exec (.moduleReadAnswer p indicator) s =
      .next (s.resumed
        (if indicator then (s.moduleAnswered p true).moduleRestarted p else s.moduleAnswered p false)) := by
  change whenDueResuming (s.path p).poll.isReading
    (fun s => if indicator then (s.moduleAnswered p true).moduleRestarted p else s.moduleAnswered p false) s = _
  rw [hu]
  exact whenDueResuming_taken _ hp

/-! ## The causes of failure -/

/-- Settles O38: each cause takes the path to the same release. -/
theorem pathFailureReleasesThePath : Obligations.PathFailureReleasesThePath := by
  intro s p hp x failedBy
  have fails {c : Instr} {u : State} {before : Path} {r : FailReason} {extra : Option PathCounter}
      (hexec : exec c s = .next (s.resumed (u.failPath p r))) (h : s.FailsBy u p before extra) :
      failedBy c before r (u.failHoldoff p) extra :=
    ⟨_, hexec, h.path_failPath r, h.streams_failPath r, (h.latches r).1, (h.latches r).2, h.counts_failPath r,
      fun hr e he => h.entries_failPath r hr he⟩
  refine ⟨fun u hu hle => ?silent, fun u st hu hle hl hr ha => ?attempts, fun u hu hs habsent => ?restart,
    fun u hu hle hthird hsmall hd hf => ?absent⟩
  case silent => exact fails (exec_silenceExpiry hp hle hu) (s.failsBy_self p)
  case attempts =>
    have hexec := exec_repeatTimerExpiry hp hle hu
    rw [State.expireRepeat_fails hl hr ha] at hexec
    exact fails hexec (s.failsBy_self p)
  case restart =>
    have hexec := exec_moduleReadAnswer hp hu true
    rw [if_pos rfl, State.moduleRestarted_answered, if_pos hs] at hexec
    have hfailed := fails hexec (s.failsBy_restartFound p)
    have hholdoff : (s.restartFound p).failHoldoff p = s.failHoldoff p := by
      have habsent : (s.path p).moduleAbsent = false := habsent
      simp [State.failHoldoff, State.restartFound, habsent]
    rw [hholdoff, State.path_restartFound_inUse hs habsent] at hfailed
    exact hfailed
  case absent =>
    have hexec := exec_pollUnanswered hp hle hu
    have hmissed := s.path_pollMissed p
    have hmin : min (x.unanswered + 1) 255 = x.unanswered + 1 := Nat.min_eq_left hsmall
    have hgone : 3 ≤ x.unanswered + 1 := Nat.succ_le_succ hthird
    rw [hmin, decide_eq_true hgone, Bool.or_true] at hmissed
    rw [State.unansweredPoll_absent hthird,
      State.missModule_fails (by rw [hmissed]; exact hd) (by rw [hmissed]; exact hf)] at hexec
    have hfailed := fails hexec (s.failsBy_pollMissed p)
    have hholdoff : (s.pollMissed p).failHoldoff p = none := by
      simp [State.failHoldoff, hmissed]
    rw [hholdoff, hmissed] at hfailed
    exact hfailed

/-- A FAILED path that enters PROBING begins its first MARK at once (R111, R120). -/
theorem State.enterProbing_of_ne {s : State} {p : PathId} (h : (s.path p).state ≠ .probing) :
    s.enterProbing p =
      ((s.countPath p .marksSent 1).latchPath p).updPath p fun x =>
        { x with
          state := .probing, silence := none, holdoff := none, holdoffOwed := false, goodRun := 0, markOrdinal := 1
          reportRef := none, ackThrough := x.nextSeq - 1, sentThrough := x.nextSeq - 1
          line := .mark 0 x.nextSeq (s.now % 2 ^ 32) (s.elapsed + markTime s.params.rate) } := by
  rw [State.enterProbing, State.startProbing,
    State.serveLine_of_probing (by rw [State.path_updPath]; exact if_neg h) (by rw [State.path_updPath]),
    State.serveProbing_eq]
  cases p <;> rfl

/-- Settles O39: PROBING begins its MARK frames at once, and the repeat timer goes by the latest status. -/
theorem holdoffAndRepeatTimersExpire : Obligations.HoldoffAndRepeatTimersExpire := by
  refine ⟨fun s p u hp hu hle hs => ?holdoff,
    fun s p u hp hu hle => ⟨fun h => ?stops, fun st hl hr ha hmax hline => ?remarks⟩⟩
  case holdoff =>
    rw [exec_holdoffExpiry hp hle hu, State.enterProbing_of_ne (by rw [hs]; decide)]
  case stops =>
    rw [exec_repeatTimerExpiry hp hle hu, State.expireRepeat_stops h, State.resumed_same _ _ (by simp) (by simp)]
  case remarks =>
    rw [exec_repeatTimerExpiry hp hle hu, State.expireRepeat_remarks hl hr ha hline,
      State.resumed_same _ _ (by simp) (by simp)]
    refine congrArg _ (State.updPath_congr ?_)
    rw [State.path_countPath, Nat.min_eq_left hmax]

end Sys2Proof.Machine

/-!
PROOF. A module poll step by step: its read, its settings write, its clear, and the steps that go unanswered (chapter 7):
O41.
-/

namespace Sys2Proof.Machine

open Sys2Proof

/-! ## The steps of a poll (R126) -/

section

variable {s : State} {p : PathId} (hp : s.power ≠ .off)
include hp

theorem exec_modulePoll (hnext : (s.path p).nextPoll ≤ s.elapsed) (hidle : (s.path p).poll = .idle) :
    exec (.modulePoll p) s =
      .next (s.updPath p fun x =>
        { x with poll := .reading (s.elapsed + Config.pollWait), nextPoll := x.nextPoll + Config.pollSpacing }) := by
  have hdue : (decide ((s.path p).nextPoll ≤ s.elapsed) && decide ((s.path p).poll = .idle)) = true := by
    rw [decide_eq_true hnext, decide_eq_true hidle]
    rfl
  change whenDue (decide ((s.path p).nextPoll ≤ s.elapsed) && decide ((s.path p).poll = .idle)) (fun s =>
    s.updPath p fun x =>
      { x with poll := .reading (s.elapsed + Config.pollWait), nextPoll := x.nextPoll + Config.pollSpacing }) s = _
  rw [hdue]
  exact whenDue_taken _ hp

theorem exec_moduleSettingsAnswer {block : Vector Byte 16} {u : Nat} (hu : (s.path p).poll = .writing block u) :
    exec (.moduleSettingsAnswer p) s =
      .next ((s.startOwed p).updPath p fun x => { x with poll := .clearing (s.elapsed + Config.pollWait) }) := by
  change whenDue (s.path p).poll.isWriting (fun s =>
    (s.startOwed p).updPath p fun x => { x with poll := .clearing (s.elapsed + Config.pollWait) }) s = _
  rw [hu]
  exact whenDue_taken _ hp

theorem exec_moduleClearAnswer {u : Nat} (hu : (s.path p).poll = .clearing u) :
    exec (.moduleClearAnswer p) s = .next (s.updPath p fun x => { x with poll := .idle }) := by
  change whenDue (s.path p).poll.isClearing (fun s => s.updPath p fun x => { x with poll := .idle }) s = _
  rw [hu]
  exact whenDue_taken _ hp

end

/-! ## The holdoff owed (R122, R127) -/

theorem Path.owesHoldoff_iff (x : Path) :
    x.owesHoldoff = true ↔ x.state = .failed ∧ (x.moduleAbsent = true ∨ x.holdoffOwed = true) := by
  simp [Path.owesHoldoff]

/-- The holdoff timer as the answer that starts an owed holdoff leaves it. -/
def State.owedStarted (s : State) (p : PathId) : Option Nat :=
  if ((s.path p).state = .failed ∧ ((s.path p).moduleAbsent = true ∨ (s.path p).holdoffOwed = true))
      ∧ 0 < (s.params.path p).holdoff then
    some (s.elapsed + (s.params.path p).holdoff * 1000000)
  else (s.path p).holdoff

theorem State.startOwed_eq (s : State) (p : PathId) :
    s.startOwed p = s.updPath p fun x => { x with holdoff := s.owedStarted p, holdoffOwed := false } := by
  have hstarted :
      (if (s.path p).owesHoldoff ∧ 0 < (s.params.path p).holdoff then
        some (s.elapsed + (s.params.path p).holdoff * 1000000) else (s.path p).holdoff) = s.owedStarted p :=
    if_congr (and_congr_left' (s.path p).owesHoldoff_iff) rfl rfl
  rw [State.startOwed, ← hstarted]
  exact State.updPath_congr rfl

/-- A read answered with the indicator clear ends the poll (R126, R127). -/
theorem State.moduleAnswered_clear (s : State) (p : PathId) :
    s.moduleAnswered p false =
      s.updPath p fun x =>
        { x with
          lastIndicator := false, unanswered := 0, moduleAbsent := false, poll := .idle, holdoff := s.owedStarted p
          holdoffOwed := false } := by
  rw [State.moduleAnswered, if_neg Bool.false_ne_true, State.startOwed_eq, State.updPath_updPath]

/-- In a path that is not in use a set indicator breaks the good run of PROBING, and the poll goes on (R126). -/
theorem State.moduleRestarted_notInUse {s : State} {p : PathId} (h : (s.path p).state.isSending = false) :
    (s.moduleAnswered p true).moduleRestarted p =
      (s.restartFound p).updPath p fun x => { x with goodRun := if x.state = .probing then 0 else x.goodRun } := by
  have hstate : ((s.restartFound p).path p).state = (s.path p).state := by rw [State.path_restartFound]
  rw [State.moduleRestarted_answered, h, if_neg Bool.false_ne_true]
  split
  · rename_i hprobing
    exact State.updPath_congr (by simp only [hstate, hprobing, if_true])
  · rename_i hnot
    have hnot : ((s.restartFound p).path p).state ≠ .probing := by rwa [hstate]
    exact (State.updPath_self (by simp only [hnot, if_false])).symm

/-! ## Unanswered polls (R127) -/

/-- Below the third an unanswered poll only counts. -/
theorem State.unansweredPoll_counts {s : State} {p : PathId} (hn : (s.path p).unanswered < 2)
    (ha : (s.path p).moduleAbsent = false) :
    s.unansweredPoll p =
      (s.countPath p .pollsUnanswered 1).updPath p fun x =>
        { x with poll := .idle, unanswered := x.unanswered + 1 } := by
  have hfew : ¬ 3 ≤ min ((s.path p).unanswered + 1) 255 := by omega
  have hmin : min ((s.path p).unanswered + 1) 255 = (s.path p).unanswered + 1 := by omega
  rw [State.unansweredPoll_eq, State.path_pollMissed, ha, decide_eq_false hfew, Bool.or_false,
    if_neg Bool.false_ne_true, State.pollMissed]
  refine State.updPath_congr ?_
  rw [State.path_countPath, decide_eq_false hfew, Bool.or_false, hmin]

/-- A FAILED path whose module is absent takes that reason and stops its holdoff; PATH_CHANGE is latched as the reason
changes (R127; log entry 37). -/
theorem State.missModule_failed {s : State} {p : PathId} (h : (s.path p).state = .failed) :
    s.missModule p =
      if (s.path p).failure = some .moduleAbsent then
        s.updPath p fun x => { x with failure := some .moduleAbsent, holdoff := none }
      else (s.updPath p fun x => { x with failure := some .moduleAbsent, holdoff := none }).latchPath p := by
  unfold State.missModule
  rw [h]
  by_cases hr : (s.path p).failure = some .moduleAbsent <;> simp [hr]

/-- The third unanswered poll of a FAILED path, but for what it latches. -/
theorem State.pollMissed_failed {s : State} {p : PathId} (h : 2 ≤ (s.path p).unanswered) :
    (s.pollMissed p).updPath p (fun x => { x with failure := some .moduleAbsent, holdoff := none }) =
      (s.countPath p .pollsUnanswered 1).updPath p fun x =>
        { x with
          poll := .idle, unanswered := min (x.unanswered + 1) 255, moduleAbsent := true
          failure := some .moduleAbsent, holdoff := none } := by
  have hthird : 3 ≤ min ((s.path p).unanswered + 1) 255 := by omega
  rw [State.pollMissed, State.updPath_updPath]
  refine State.updPath_congr ?_
  rw [State.path_countPath, decide_eq_true hthird, Bool.or_true]

/-- Settles O41: each step of the poll, by its answer and the state of the path. -/
theorem modulePollGoesStepByStep : Obligations.ModulePollGoesStepByStep := by
  intro s p u hp x owes started
  refine ⟨fun hnext hidle => exec_modulePoll hp hnext hidle, fun hu => ?clear, fun hu hs => ?set,
    fun block hu => ?settings, fun hu => exec_moduleClearAnswer hp hu, fun hu hle hn ha => ?unanswered,
    fun hu hle hn hs => ?third⟩
  case clear =>
    rw [exec_moduleReadAnswer hp hu false, if_neg Bool.false_ne_true, State.moduleAnswered_clear,
      State.resumed_same _ _ (by simp) (by simp)]
    rfl
  case set =>
    have hnot : (s.path p).state.isSending = false := by rcases hs with hs | hs | hs <;> rw [hs] <;> rfl
    have howes : (if owes then true else false) = (s.path p).owesHoldoff := by
      by_cases h : owes
      · rw [if_pos h, (s.path p).owesHoldoff_iff.mpr h]
      · rw [if_neg h, Bool.eq_false_iff.mpr fun ho => h ((s.path p).owesHoldoff_iff.mp ho)]
    rw [exec_moduleReadAnswer hp hu true, if_pos rfl, State.moduleRestarted_notInUse hnot,
      State.resumed_same _ _ (by simp [State.restartFound]) (by simp [State.restartFound]), howes, State.restartFound,
      State.updPath_updPath]
    refine congrArg _ (State.updPath_congr ?_)
    rw [State.path_countPath]
  case settings =>
    rw [exec_moduleSettingsAnswer hp hu, State.startOwed_eq, State.updPath_updPath]
    rfl
  case unanswered =>
    rw [exec_pollUnanswered hp hle hu, State.unansweredPoll_counts hn ha, State.resumed_same _ _ (by simp) (by simp)]
  case third =>
    have hpath := s.path_pollMissed p
    have hfailed : ((s.pollMissed p).path p).state = .failed := by rw [hpath]; exact hs
    have hreason : ((s.pollMissed p).path p).failure = x.failure := by rw [hpath]
    have hmissed := State.missModule_failed hfailed
    rw [hreason, State.pollMissed_failed hn] at hmissed
    rw [exec_pollUnanswered hp hle hu, State.unansweredPoll_absent hn, hmissed]
    by_cases hr : x.failure = some .moduleAbsent
    · rw [if_pos hr, State.resumed_same _ _ (by simp) (by simp)]
      exact ⟨_, rfl, rfl, fun _ => by simp, fun h => absurd hr h⟩
    · rw [if_neg hr, State.resumed_same _ _ (by simp) (by simp)]
      refine ⟨_, rfl, rfl, fun h => absurd h hr, fun _ => ?_⟩
      rw [State.latchPath, State.updPort_port, State.updPath_port, State.countPath_port]
      rfl

end Sys2Proof.Machine

/-!
PROOF. The host's path commands: PATH ENABLE, PATH DISABLE and PATH RESTART by the state of the path they name
(chapter 7): O53, O54.
-/

namespace Sys2Proof.Machine

open Sys2Proof

/-! ## The commands at the code byte (R175) -/

theorem isCommand_pathEnable : IsCommand 0x10 cmdPathEnable := fun s hb => by simp [State.takeCommand, hb]
theorem isCommand_pathDisable : IsCommand 0x11 cmdPathDisable := fun s hb => by simp [State.takeCommand, hb]
theorem isCommand_pathRestart : IsCommand 0x12 cmdPathRestart := fun s hb => by simp [State.takeCommand, hb]

/-- The part once a command that is DONE has answered: the result row, the pointer behind the code byte. -/
def State.answeredDone (t : State) (code : Byte) : State :=
  t.updPort fun q => { q with result := ⟨.done, none, code, none⟩, offset := 1 }

/-- A command that is DONE: the port answers behind what it does, and generation may resume. -/
theorem IsCommand.doneResuming {code : Byte} {cmd : State → CommandAnswer} (hcmd : IsCommand code cmd) {s t : State}
    (h : s.hostReady) (hc : cmd s.atCode = answerDone t) : s.writeCode code = s.resumed (t.answeredDone code) := by
  rw [State.writeCode_ready h, hcmd s.atCode h.2.1, hc]
  exact State.resumed_from s.atCode s _ rfl rfl

/-- The argument names a path. -/
theorem State.withArgPath_named {s : State} {p : PathId} (h : s.argIs (pathCode p)) (f : PathId → CommandAnswer) :
    s.withArgPath f = f p := by
  cases p with
  | a => exact if_pos h
  | b =>
    have hb : s.argByte = 1 := h
    rw [State.withArgPath, if_neg (by omega), if_pos hb]

/-- The argument names no path. -/
theorem State.withArgPath_none {s : State} (h : 1 < s.argByte) (f : PathId → CommandAnswer) :
    s.withArgPath f = answerRefused s .badParam := by
  rw [State.withArgPath, if_neg (by omega), if_neg (by omega)]

@[simp] theorem State.path_atCode (s : State) (p : PathId) : s.atCode.path p = s.path p := s.path_updPort _ p

section

variable {s : State} {p : PathId} (ha : s.argIs (pathCode p))
include ha

theorem cmdPathEnable_inUse (h : (s.path p).state ≠ .disabled) :
    cmdPathEnable s = answerDone (s.setEnable p true) := by
  have hstate : ((s.setEnable p true).path p).state ≠ .disabled := by rwa [State.setEnable, State.path_updParams]
  rw [cmdPathEnable, State.withArgPath_named ha, State.followEnable, if_neg hstate]

theorem cmdPathEnable_disabled (h : (s.path p).state = .disabled) :
    cmdPathEnable s = answerDone ((s.setEnable p true).enterProbing p) := by
  have hstate : ((s.setEnable p true).path p).state = .disabled := by rwa [State.setEnable, State.path_updParams]
  rw [cmdPathEnable, State.withArgPath_named ha, State.followEnable, if_pos hstate]

theorem cmdPathDisable_inUse (h : (s.path p).state ≠ .disabled) :
    cmdPathDisable s = answerDone ((s.setEnable p false).disablePath p) := by
  have hstate : ((s.setEnable p false).path p).state ≠ .disabled := by rwa [State.setEnable, State.path_updParams]
  rw [cmdPathDisable, State.withArgPath_named ha, State.followDisable, if_neg hstate]

theorem cmdPathDisable_disabled (h : (s.path p).state = .disabled) :
    cmdPathDisable s = answerDone (s.setEnable p false) := by
  have hstate : ((s.setEnable p false).path p).state = .disabled := by rwa [State.setEnable, State.path_updParams]
  rw [cmdPathDisable, State.withArgPath_named ha, State.followDisable, if_pos hstate]

theorem cmdPathRestart_inUse (h : (s.path p).state ≠ .disabled) : cmdPathRestart s = answerDone (s.restartPath p) := by
  rw [cmdPathRestart, State.withArgPath_named ha, if_neg h]

theorem cmdPathRestart_disabled (h : (s.path p).state = .disabled) :
    cmdPathRestart s = answerRefused s .pathDisabled := by
  rw [cmdPathRestart, State.withArgPath_named ha, if_pos h]

end

/-! ## Starts, restarts and disabling as the host finds them (R120, R123 to R125) -/

theorem State.streamsSame_enterProbing (s : State) (p : PathId) : s.streamsSame (s.enterProbing p) p := by
  simp [State.streamsSame, State.sameSetting]

theorem State.streamsSame_restartPath (s : State) (p : PathId) : s.streamsSame (s.restartPath p) p := by
  simp [State.streamsSame, State.sameSetting, State.restartPath]

theorem State.streamsSame_disablePath (s : State) (p : PathId) : s.streamsSame (s.disablePath p) p := by
  simp [State.streamsSame, State.sameSetting, State.disablePath]

/-- What a command leaves of the streams does not count by the port. -/
theorem State.streamsSame_answeredDone {s t : State} {p : PathId} (h : s.atCode.streamsSame t p) (code : Byte) :
    s.streamsSame (t.answeredDone code) p := by
  cases p <;> exact h

/-- Nor does it count by the parameters in use. -/
theorem State.streamsSame_setEnable {s t : State} {p : PathId} {v : Bool}
    (h : (s.atCode.setEnable p v).streamsSame t p) (code : Byte) :
    s.streamsSame { t.answeredDone code with params := s.params } p := by
  obtain ⟨hslots, hsumA, hsumB, hdue, hheld, hring, hlauncher, hother, hcells, ⟨-, hsetting⟩, hqueues⟩ := h
  cases p <;>
    exact ⟨hslots, hsumA, hsumB, hdue, hheld, hring, hlauncher, hother, hcells, ⟨rfl, hsetting⟩, hqueues⟩

theorem Params.enabled_updPath (q : Params) (p : PathId) (v : Bool) :
    ((q.updPath p fun x => { x with enabled := v }).path p).enabled = v := by cases p <;> rfl

theorem State.port_restartPath (s : State) (p : PathId) : (s.restartPath p).port = (s.latchPath p).port := by
  rw [State.restartPath, State.enterProbing, State.latchPath, State.updPort_port, State.startProbing_port,
    State.updPath_port, State.releasePath_port]
  rfl

/-- A PROBING path that restarts keeps the MARK on its line (R120, R125). -/
theorem State.enterProbing_runsOn {s : State} {p : PathId} (h : (s.path p).state = .probing)
    (hl : (s.path p).line ≠ .fill) :
    s.enterProbing p =
      (s.latchPath p).updPath p fun x =>
        { x with
          silence := none, holdoff := none, holdoffOwed := false, goodRun := 0, markOrdinal := 0, reportRef := none
          ackThrough := x.nextSeq - 1, sentThrough := x.nextSeq - 1 } := by
  rw [State.enterProbing, State.startProbing, State.serveLine_busy _ p (by simpa [h] using hl), State.latchPath_updPath]
  refine State.updPath_congr ?_
  simp only [State.path_latchPath, h, if_true]

/-- A restart of a PROBING path releases it, and leaves the MARK on its line (R120, R125). -/
theorem State.path_restartPath_runsOn {s : State} {p : PathId} (h : (s.path p).state = .probing)
    (hl : (s.path p).line ≠ .fill) :
    (s.restartPath p).path p =
      { s.path p with
        window := [], backlog := [], ackThrough := (s.path p).nextSeq - 1, sentThrough := (s.path p).nextSeq - 1
        silence := none, holdoff := none, holdoffOwed := false, repeatTimer := none, goodRun := 0, markOrdinal := 0
        reportRef := none } := by
  rw [State.restartPath, State.enterProbing_runsOn (by simpa using h) (by simpa using hl)]
  simp

/-- A restart from a state other than PROBING releases the path and begins its first MARK (R111, R125). -/
theorem State.path_restartPath_of_ne {s : State} {p : PathId} (h : (s.path p).state ≠ .probing) :
    (s.restartPath p).path p =
      { s.path p with
        state := .probing, window := [], backlog := [], ackThrough := (s.path p).nextSeq - 1
        sentThrough := (s.path p).nextSeq - 1, silence := none, holdoff := none, holdoffOwed := false
        repeatTimer := none, goodRun := 0, markOrdinal := 1, reportRef := none
        line := .mark 0 (s.path p).nextSeq (s.now % 2 ^ 32) (s.elapsed + markTime s.params.rate) } := by
  rw [State.restartPath, State.enterProbing_of_ne (by simpa using h)]
  simp

/-- Settles O53: what each command answers at the code byte, by its argument and the state of the path. -/
theorem pathEnableAndRestartStartProbing : Obligations.PathEnableAndRestartStartProbing := by
  refine ⟨fun s h => ⟨fun p ha hs => ?enabled, fun p ha hs => ?starts, fun ha => ?enableBad⟩,
    fun s h => ⟨fun p ha hd hpr => ?restarts, fun p ha hpr hl => ?runsOn, fun p ha hs => ?refused, fun ha => ?restartBad⟩⟩
  case enabled =>
    exact congrArg _ (isCommand_pathEnable.done h (cmdPathEnable_inUse (s := s.atCode) ha (by simpa using hs))
      (t := s.setEnable p true) rfl rfl rfl)
  case starts =>
    have hne : ((s.atCode.setEnable p true).path p).state ≠ .probing := by simp [State.setEnable, hs]
    have hstreams := State.streamsSame_setEnable ((s.atCode.setEnable p true).streamsSame_enterProbing p) 0x10
    have hexec := isCommand_pathEnable.doneResuming h (cmdPathEnable_disabled (s := s.atCode) ha (by simpa using hs))
    rw [State.enterProbing_of_ne hne] at hstreams hexec
    rw [State.resumed_same _ _ (by cases p <;> rfl) (by cases p <;> rfl)] at hexec
    refine ⟨_, congrArg Host.Outcome.next hexec, ?_, ?_, hstreams, ?_, ?_, ?_⟩ <;> cases p <;> rfl
  case enableBad =>
    exact congrArg _ (isCommand_pathEnable.refused h (State.withArgPath_none (s := s.atCode) ha _))
  case restarts =>
    have hexec := isCommand_pathRestart.doneResuming h (cmdPathRestart_inUse (s := s.atCode) ha (by simpa using hd))
    refine ⟨_, congrArg Host.Outcome.next hexec, ?path,
      State.streamsSame_answeredDone (s.atCode.streamsSame_restartPath p) 0x12, rfl, ?causes⟩
    case path =>
      rw [State.answeredDone, State.path_updPort, State.path_restartPath_of_ne (by simpa using hpr), State.path_atCode]
      rfl
    case causes => exact congrArg Port.causes (s.atCode.port_restartPath p)
  case runsOn =>
    have hd : (s.path p).state ≠ .disabled := by rw [hpr]; decide
    have hexec := isCommand_pathRestart.doneResuming h (cmdPathRestart_inUse (s := s.atCode) ha (by simpa using hd))
    refine ⟨_, congrArg Host.Outcome.next hexec, ?path,
      State.streamsSame_answeredDone (s.atCode.streamsSame_restartPath p) 0x12, rfl, ?causes⟩
    case path =>
      rw [State.answeredDone, State.path_updPort,
        State.path_restartPath_runsOn (by simpa using hpr) (by simpa using hl), State.path_atCode]
    case causes => exact congrArg Port.causes (s.atCode.port_restartPath p)
  case refused =>
    exact congrArg _ (isCommand_pathRestart.refused h (cmdPathRestart_disabled (s := s.atCode) ha (by simpa using hs)))
  case restartBad =>
    exact congrArg _ (isCommand_pathRestart.refused h (State.withArgPath_none (s := s.atCode) ha _))

/-- Settles O54: what the command answers at the code byte, by its argument and the state of the path. -/
theorem pathDisableReleasesThePath : Obligations.PathDisableReleasesThePath := by
  refine fun s h => ⟨fun p ha hs => ?disables, fun p ha hs => ?disabled, fun ha => ?bad⟩
  case disables =>
    have hexec := isCommand_pathDisable.doneResuming h (cmdPathDisable_inUse (s := s.atCode) ha (by simpa using hs))
    refine ⟨_, congrArg Host.Outcome.next hexec, ?enabled, ?path,
      State.streamsSame_setEnable ((s.atCode.setEnable p false).streamsSame_disablePath p) 0x11, ?entries, rfl, ?causes⟩
    case enabled =>
      rw [State.answeredDone, State.updPort_params, State.disablePath, State.latchPath_params, State.updPath_params,
        State.releasePath_params]
      exact s.params.enabled_updPath p false
    case path => simp [State.answeredDone, State.disablePath, State.setEnable]
    case entries =>
      intro e he hw hb
      rw [State.answeredDone, State.updPort_entries, State.disablePath, State.latchPath_entries, State.updPath_entries]
      have hpath : (s.atCode.setEnable p false).path p = s.path p := by simp [State.setEnable]
      exact State.mem_releasePath he (by rwa [hpath]) (by rwa [hpath])
    case causes =>
      have hport : ((s.atCode.setEnable p false).disablePath p).port = (s.atCode.latchPath p).port := by
        rw [State.disablePath, State.latchPath, State.updPort_port, State.updPath_port, State.releasePath_port]
        rfl
      exact congrArg Port.causes hport
  case disabled =>
    exact congrArg _ (isCommand_pathDisable.done h (cmdPathDisable_disabled (s := s.atCode) ha (by simpa using hs))
      (t := s.setEnable p false) rfl rfl rfl)
  case bad => exact congrArg _ (isCommand_pathDisable.refused h (State.withArgPath_none (s := s.atCode) ha _))

end Sys2Proof.Machine

/-!
PROOF. House Time: the nanosecond that passes, its adjustments, small errors of the reference pulse, missed pulses and
second markers (chapter 9): O2, O42, O44, O45, O46.
-/

namespace Sys2Proof.Machine

open Sys2Proof

/-! ## The advance of house time (R148, R160) -/

/-- Short of the end of its count, house time moves by `d`, and a second marker is raised where it reaches or passes a
whole second (R160). -/
theorem advanceHouse_house {d : Nat} {s : State} (h : s.house.time + d < 2 ^ 64) :
    (advanceHouse d s).house =
      { s.house with
        time := s.house.time + d
        markers := if s.house.time / 1000000000 < (s.house.time + d) / 1000000000 then
            s.house.markers ++ [(s.house.time + d) / 1000000000]
          else s.house.markers } := by
  simp only [advanceHouse, State.updHouse_house, if_pos h]

/-- One nanosecond reaches a whole second exactly where the time after it is one. -/
theorem second_reached_iff (x : Nat) : x / 1000000000 < (x + 1) / 1000000000 ↔ (x + 1) % 1000000000 = 0 := by omega

/-- A nanosecond of elapsed time moves the two times alone. -/
theorem passNanosecond_frame (s : State) :
    passNanosecond s = { s with elapsed := s.elapsed + 1, house := (passNanosecond s).house } := by
  unfold passNanosecond
  dsimp only
  split <;> rfl

/-- House time stands still for a −1 adjustment (R148). -/
theorem passNanosecond_house_withheld {s : State} (h : 0 < s.house.withheld) :
    (passNanosecond s).house = { s.house with withheld := s.house.withheld - 1 } := by
  simp only [passNanosecond, if_pos h, State.updHouse_house]

/-- With no −1 adjustment to work off, house time goes with elapsed time (R148). -/
theorem passNanosecond_house_moving {s : State} (h : s.house.withheld = 0) :
    (passNanosecond s).house = (advanceHouse 1 s).house := by
  simp only [passNanosecond, h, Nat.lt_irrefl, if_false]
  rfl

/-- A step on an empty queue, with power and with nothing due, passes a nanosecond (log entry 1). -/
theorem step_of_idle {s : State} (hq : s.pending = []) (hp : s.power ≠ .off) (hd : s.dueEvents = []) :
    step s = .next (passNanosecond s) := by
  have htick : s.tick = passNanosecond s := by
    obtain ⟨hoff, _⟩ | ⟨_, _, htick⟩ | ⟨_, c, hc, _⟩ := s.tick_cases
    · exact absurd hoff hp
    · exact htick
    · simp [hd] at hc
  rw [step, hq, ← htick]

/-- Settles O2: the nanosecond that passes, with a −1 adjustment to work off or with none. -/
theorem idleStepPassesOneNanosecond : Obligations.IdleStepPassesOneNanosecond := by
  intro s hq hp hd hend
  have hframe := passNanosecond_frame s
  refine ⟨_, step_of_idle hq hp hd, by rw [hframe], ?_, passNanosecond_house_withheld, fun hw => ?_⟩
  · rw [hframe]
  · rw [passNanosecond_house_moving hw, advanceHouse_house hend]
    simp only [second_reached_iff, and_self]

/-! ## Adjustments (R148, R150) -/

/-- One adjustment by one nanosecond, forward or back: it moves house time, or what house time is to be withheld, and
nothing else but the markers an advance raises. -/
structure State.Adjusted (s : State) (back : Bool) (t : State) : Prop where
  frame : t = { s with house := t.house }
  trim : t.house.trim = s.house.trim
  trimNext : t.house.trimNext = s.house.trimNext
  slew : t.house.slew = s.house.slew
  forward : back = false → t.house.time = s.house.time + 1 ∧ t.house.withheld = s.house.withheld
  backward : back = true → t.house.time = s.house.time ∧ t.house.withheld = s.house.withheld + 1

/-- An adjustment does as R148 says, short of the end of house time. -/
theorem State.adjusted_adjustHouse (back : Bool) {s : State} (h : s.house.time + 1 < 2 ^ 64) :
    s.Adjusted back (adjustHouse back s) := by
  cases back with
  | false =>
    have hhouse : (adjustHouse false s).house = _ := advanceHouse_house h
    constructor
    case frame => rfl
    case backward => exact nofun
    all_goals rw [hhouse]
    exact fun _ => ⟨rfl, rfl⟩
  | true => exact ⟨rfl, rfl, rfl, rfl, nofun, fun _ => ⟨rfl, rfl⟩⟩

/-- A trim adjustment whose instant is reached is taken. -/
theorem exec_trimAdjustment {s : State} {u : Nat} (hp : s.power ≠ .off) (hn : s.house.trimNext = some u)
    (hu : u ≤ s.elapsed) : exec .trimAdjustment s = .next s.takeTrim := by
  have hdue : s.trimDue = true := by simp [State.trimDue, hn, hu]
  change whenDue s.trimDue State.takeTrim s = _
  rw [hdue, whenDue_taken _ hp]

/-- A slew adjustment whose instant is reached is taken. -/
theorem exec_slewAdjustment {s : State} {u : Nat} (hp : s.power ≠ .off) (hn : s.house.slew.nextAt = some u)
    (hu : u ≤ s.elapsed) : exec .slewAdjustment s = .next s.takeSlew := by
  have hdue : s.slewDue = true := by simp [State.slewDue, hn, hu]
  change whenDue s.slewDue State.takeSlew s = _
  rw [hdue, whenDue_taken _ hp]

/-- A trim adjustment moves house time by the sign of the trim and sets the next one its spacing later (R148). -/
theorem State.takeTrim_eq {s : State} {u : Nat} (hn : s.house.trimNext = some u) (ht : s.house.trim ≠ 0) :
    s.takeTrim =
      adjustHouse (decide (s.house.trim < 0))
        (s.updHouse fun h => { h with trimNext := some (u + 1000000000 / h.trim.natAbs) }) := by
  simp only [State.takeTrim, State.updHouse, hn, trimSpacing, if_neg ht]

/-- While adjustments of an ordinary slew are left, `k` of them are made after `k` (R150). -/
theorem Slew.iterate_afterOne_of_lt (back : Bool) (start : Nat) {total k : Nat} (h : k < total) :
    Slew.afterOne^[k] (.ordinary back start total 0) = .ordinary back start total k := by
  induction k with
  | zero => rfl
  | succ k ih =>
    rw [Function.iterate_succ_apply', ih (Nat.lt_of_succ_lt h)]
    exact if_pos h

/-- An ordinary slew ends with its last adjustment (R150). -/
theorem Slew.iterate_afterOne_total (back : Bool) (start : Nat) {total : Nat} (h : 0 < total) :
    Slew.afterOne^[total] (.ordinary back start total 0) = .none := by
  obtain ⟨k, rfl⟩ : ∃ k, total = k + 1 := ⟨total - 1, by omega⟩
  rw [Function.iterate_succ_apply', Slew.iterate_afterOne_of_lt back start (Nat.lt_succ_self k)]
  exact if_neg (Nat.lt_irrefl _)

/-- The adjustments an ordinary slew has left, whatever its sign. -/
theorem Slew.natAbs_remaining_ordinary (back : Bool) (start total made : Nat) :
    (Slew.ordinary back start total made).remaining.natAbs = total - made := by
  cases back
  · exact Int.natAbs_natCast _
  · exact (Int.natAbs_neg _).trans (Int.natAbs_natCast _)

/-- An error other than 0 starts an ordinary slew of that many adjustments (R150). -/
theorem ordinarySlew_of_ne_zero (x : Nat) {e : Int} (h : e ≠ 0) :
    ordinarySlew x e = .ordinary (decide (e < 0)) x e.natAbs 0 := if_neg h

/-- Settles O45: a trim and a slew adjustment are one adjustment each of a state with its schedule moved on; the slew's
own schedule by induction on the adjustments made. -/
theorem adjustmentsMoveHouseTimeByOne : Obligations.AdjustmentsMoveHouseTimeByOne := by
  refine ⟨fun s hp hend => ⟨fun u hn hu ht => ?trim, fun u hn hu => ?slew⟩, fun start k e he => ?schedule⟩
  case trim =>
    refine ⟨_, exec_trimAdjustment hp hn hu, ?_⟩
    rw [State.takeTrim_eq hn ht]
    have h := State.adjusted_adjustHouse (decide (s.house.trim < 0))
      (s := s.updHouse fun h => { h with trimNext := some (u + 1000000000 / h.trim.natAbs) }) hend
    exact ⟨h.frame, h.trimNext, h.trim, h.slew, fun hpos => h.forward (decide_eq_false (Int.lt_asymm hpos)),
      fun hneg => h.backward (decide_eq_true hneg)⟩
  case slew =>
    have h := State.adjusted_adjustHouse s.house.slew.isBack
      (s := s.updHouse fun h => { h with slew := h.slew.afterOne }) hend
    exact ⟨_, exec_slewAdjustment hp hn hu, h.frame, h.slew, h.trim, h.forward, h.backward⟩
  case schedule =>
    dsimp only
    rw [ordinarySlew_of_ne_zero start he]
    refine ⟨fun hk => ?_, fun hk => ?_⟩
    · rw [Slew.iterate_afterOne_of_lt _ _ hk]
      exact ⟨rfl, Slew.natAbs_remaining_ordinary _ _ _ _, rfl⟩
    · rw [hk]
      exact Slew.iterate_afterOne_total _ _ (Int.natAbs_pos.mpr he)

/-! ## Small errors (R149 to R154) -/

/-- A pulse with a small error slews it out; in LOCKED it trims as well (R153, R154). -/
theorem pulseAction_small {h : House} {e : Int} (b : Bool) (he : e.natAbs ≤ 10000) :
    pulseAction h b e = .ordinary (decide (h.lock = .locked)) := if_pos he

/-- A small error is no big error (R155). -/
theorem countsBig_of_small (h : House) {e : Int} (he : e.natAbs ≤ 10000) : countsBig h e = false := by
  simp [countsBig, he]

/-- An ordinary slew has the whole error to make up (R150). -/
theorem ordinarySlew_remaining (x : Nat) (e : Int) : (ordinarySlew x e).remaining = e := by
  rcases lt_trichotomy e 0 with h | rfl | h
  · rw [ordinarySlew_of_ne_zero x h.ne, decide_eq_true h]
    change -((e.natAbs - 0 : Nat) : Int) = e
    omega
  · rfl
  · rw [ordinarySlew_of_ne_zero x h.ne', decide_eq_false (Int.lt_asymm h)]
    change ((e.natAbs - 0 : Nat) : Int) = e
    omega

/-- The first adjustment of an ordinary slew (R150). -/
theorem ordinarySlew_nextAt (x : Nat) {e : Int} (h : e ≠ 0) :
    (ordinarySlew x e).nextAt = some (x + 1000000000 / e.natAbs) := by
  rw [ordinarySlew_of_ne_zero x h, Slew.nextAt, Nat.zero_add, Nat.one_mul]

/-- A new trim falls due by its own spacing; one left as it was keeps its schedule (R149; log entry 25). -/
theorem House.setTrim_eq (h : House) (x : Nat) (t : Int) :
    h.setTrim x t =
      { h with trim := t, trimNext := if t = h.trim then h.trimNext else (trimSpacing t).map fun d => x + d } := by
  unfold House.setTrim
  split
  · rename_i ht; rw [ht]
  · rfl

/-- House Time after a small error in LOCKED: the slew of the error, and the trim by an eighth of it (R149, R154). -/
theorem State.pulsed_trimming_house (s : State) :
    (s.pulsed (.ordinary true)).house =
      { s.notePulse.house with
        lock := .locked
        slew := ordinarySlew s.elapsed s.pulseError
        bigErrors := 0
        trim := trimAfter s.house.trim s.pulseError
        trimNext := if trimAfter s.house.trim s.pulseError = s.house.trim then s.house.trimNext
          else (trimSpacing (trimAfter s.house.trim s.pulseError)).map fun d => s.elapsed + d
        pulseSecond := nextPulseSecond s.house.pulseSecond } := by
  rw [State.pulsed_house]
  simp only [State.applyPulse, State.updHouse_house, if_true, House.setTrim_eq]
  rfl

/-- House Time after a small error in FREE_RUN or HOLDOVER: the slew of the error, the trim kept (R153). -/
theorem State.pulsed_locking_house (s : State) :
    (s.pulsed (.ordinary false)).house =
      { s.notePulse.house with
        lock := .locked
        slew := ordinarySlew s.elapsed s.pulseError
        bigErrors := 0
        pulseSecond := nextPulseSecond s.house.pulseSecond } := by
  rw [State.pulsed_house]
  rfl

/-- A small error in LOCKED moves House Time and the pulse count alone. -/
theorem State.pulsed_small_frame {s : State} {b : Bool} (he : s.pulseError.natAbs ≤ 10000)
    (hl : s.house.lock = .locked) :
    s.pulsed (.ordinary b) =
      { s with house := (s.pulsed (.ordinary b)).house, active := (s.countPart .pulses 1).active } := by
  have hlock : (s.notePulse.applyPulse s.pulseError (.ordinary b)).lockOnPulse =
      s.notePulse.applyPulse s.pulseError (.ordinary b) := if_pos ((s.notePulse.applyPulse_lock _ _).trans hl)
  simp only [State.pulsed, countsBig_of_small _ he, Bool.false_eq_true, if_false, hlock]
  rfl

/-- No action of a pulse writes a parameter. -/
theorem State.applyPulse_params (s : State) (e : Int) (a : PulseAction) : (s.applyPulse e a).params = s.params := by
  cases a with
  | step => exact s.stepHouse_params e
  | withhold => exact s.withholdStep_params e
  | ordinary | countBig | retarget => rfl

/-- A pulse writes no parameter before its step moves the Pacer. -/
theorem State.pulsed_params (s : State) (a : PulseAction) : (s.pulsed a).params = s.params := by
  unfold State.pulsed
  dsimp only
  split <;>
    simp only [State.updHouse_params, State.lockOnPulse_params, State.countPart_params, State.applyPulse_params,
      State.notePulse_params]

/-- A taken pulse with a small error. -/
theorem State.TakesPulse.exec_of_small {s : State} (h : s.TakesPulse) (he : s.pulseError.natAbs ≤ 10000) :
    exec .referencePulse s = .next (s.pulsed (.ordinary (decide (s.house.lock = .locked)))) :=
  h.exec_of_ne_step (pulseAction_small _ he) nofun

/-- A pulse that is only counted. -/
theorem exec_referencePulse_counted {s : State} {c : PartCounter} (hp : s.power ≠ .off)
    (h : s.pulse = s.countPart c 1) : exec .referencePulse s = .next (s.countPart c 1) := by
  rw [exec_referencePulse hp, h, State.resumed_same s (s.countPart c 1) rfl rfl]

/-- A pulse before the host has labelled one (R152). -/
theorem State.pulse_of_unlabelled {s : State} (h : s.house.labelWritten = false) :
    s.pulse = s.countPart .pulsesUnlabelled 1 := by
  simp [State.pulse, h]

/-- A pulse within the early guard of a taken one (R152). -/
theorem State.pulse_of_early {s : State} {x : PulseRecord} (hl : s.house.labelWritten = true)
    (hx : s.house.lastPulse = some x) (hg : s.elapsed - x.elapsed < 500000000) :
    s.pulse = s.countPart .pulsesEarly 1 := by
  simp [State.pulse, State.pulseEarly, hl, hx, hg]

/-- Short of its greatest value the pulse second grows by one (R151). -/
theorem nextPulseSecond_of_lt {v : Nat} (h : v < 18446744072) : nextPulseSecond v = v + 1 := if_pos h

/-- Settles O42: an ignored pulse is only counted; a small error is the action of its lock state. -/
theorem smallErrorsAreSlewedOut : Obligations.SmallErrorsAreSlewedOut := by
  refine ⟨fun s hp => ⟨?unlabelled, ?early⟩, ?locked, ?unlocked⟩
  case unlabelled => exact fun hl => exec_referencePulse_counted hp (State.pulse_of_unlabelled hl)
  case early => exact fun x hl hx hg => exec_referencePulse_counted hp (State.pulse_of_early hl hx hg)
  case locked =>
    intro s hp hw hk hg e he
    change s.pulseError.natAbs ≤ 10000 at he
    have hexec := State.TakesPulse.exec_of_small ⟨hp, hw, hg⟩ he
    rw [decide_eq_true hk] at hexec
    refine ⟨_, hexec, State.pulsed_small_frame he hk, ?_⟩
    rw [State.pulsed_trimming_house]
    refine ⟨rfl, rfl, rfl, rfl, rfl, rfl, rfl, fun ht => if_pos ht, fun ht h0 => ?_, ordinarySlew_remaining _ _,
      fun h => if_pos h, ordinarySlew_nextAt _, nextPulseSecond_of_lt, rfl⟩
    dsimp only at ht h0 ⊢
    rw [if_neg ht, trimSpacing, if_neg h0]
    rfl
  case unlocked =>
    intro s hp hw hk hg e he
    change s.pulseError.natAbs ≤ 10000 at he
    have hexec := State.TakesPulse.exec_of_small ⟨hp, hw, hg⟩ he
    rw [decide_eq_false hk] at hexec
    refine ⟨_, hexec, ?_⟩
    rw [State.pulsed_locking_house, State.pulsed_port, if_neg hk]
    exact ⟨rfl, rfl, rfl, ordinarySlew_remaining _ _, rfl, rfl, (State.sameStreams_pulsed s _).slots,
      State.pulsed_params s _⟩

/-! ## Missed pulses (R158) -/

/-- A missed pulse that is counted, before its lock state is looked at (R151, R158). -/
def State.missCounted (s : State) : State :=
  (s.updHouse fun h =>
    { h with
      misses := min (h.misses + 1) 255
      pulseSecond := nextPulseSecond h.pulseSecond
      missExpiry := h.missExpiry.map fun x => x + 1000000000 }).countPart .pulsesMissed 1

/-- The third miss and every later one in LOCKED enters HOLDOVER; any other is only counted (R158). -/
theorem State.takeMiss_eq (s : State) :
    s.takeMiss =
      if s.house.lock = .locked ∧ 2 ≤ s.house.misses then
        (s.missCounted.updHouse fun h => { h with lock := .holdover, bigErrors := 0 }).latch .referenceChange
      else s.missCounted := by
  have hthird : s.house.lock = .locked ∧ 3 ≤ min (s.house.misses + 1) 255
      ↔ s.house.lock = .locked ∧ 2 ≤ s.house.misses := and_congr_right fun _ => by omega
  exact if_congr hthird rfl rfl

/-- House Time after a counted miss, short of the greatest miss count and pulse second. -/
theorem State.missCounted_house {s : State} {u : Nat} (hx : s.house.missExpiry = some u) (hm : s.house.misses < 255)
    (hv : s.house.pulseSecond < 18446744072) :
    s.missCounted.house =
      { s.house with
        misses := s.house.misses + 1
        pulseSecond := s.house.pulseSecond + 1
        missExpiry := some (u + 1000000000) } := by
  simp only [State.missCounted, State.countPart_house, State.updHouse_house, hx, nextPulseSecond_of_lt hv,
    Nat.min_eq_left (Nat.succ_le_of_lt hm), Option.map_some]

/-- A counted miss moves House Time and the miss count alone. -/
theorem State.missCounted_frame (s : State) :
    s.missCounted = { s with house := s.missCounted.house, active := (s.countPart .pulsesMissed 1).active } := rfl

/-- A miss expiry that is reached is taken. -/
theorem exec_pulseMissExpiry {s : State} {u : Nat} (hp : s.power ≠ .off) (hx : s.house.missExpiry = some u)
    (hu : u ≤ s.elapsed) : exec .pulseMissExpiry s = .next s.takeMiss := by
  have hdue : s.missDue = true := by simp [State.missDue, hx, hu]
  change whenDue s.missDue State.takeMiss s = _
  rw [hdue, whenDue_taken _ hp]

/-- Settles O44: a miss is counted, and from the third on in LOCKED it enters HOLDOVER. -/
theorem missedPulsesLeadToHoldover : Obligations.MissedPulsesLeadToHoldover := by
  intro s u hp hx hu hm hv counted
  have hhouse : s.missCounted.house = counted := State.missCounted_house hx hm hv
  rw [exec_pulseMissExpiry hp hx hu, State.takeMiss_eq, ← hhouse]
  refine ⟨fun hfew => ?_, fun hk hthird => ?_⟩
  · rw [if_neg fun h => Nat.not_le.mpr (hfew h.1) h.2, ← State.missCounted_frame]
  · rw [if_pos ⟨hk, hthird⟩]
    rfl

/-! ## Second markers (R160, R182) -/

/-- The oldest raised marker swaps the banks and labels the frozen one (R160, R182). -/
theorem State.takeMarker_cons {s : State} {second : Nat} {rest : List Nat} (h : s.house.markers = second :: rest) :
    s.takeMarker =
      { (s.updHouse fun x => { x with markers := rest }).latch .marker with
        frozen := s.active, active := Bank.zero, frozenLabel := some second } := by
  simp only [State.takeMarker, h]
  rfl

/-- A second marker that is raised is taken. -/
theorem exec_secondMarker {s : State} (hp : s.power ≠ .off) (h : s.house.markers ≠ []) :
    exec .secondMarker s = .next s.takeMarker := by
  have hdue : (!s.house.markers.isEmpty) = true := by simp [h]
  change whenDue (!s.house.markers.isEmpty) State.takeMarker s = _
  rw [hdue, whenDue_taken _ hp]

/-- Settles O46: the marker is raised, so it is taken; MARKER is bit 4 of the causes. -/
theorem secondMarkerSwapsTheBanks : Obligations.SecondMarkerSwapsTheBanks := by
  intro s second rest hp hm
  rw [exec_secondMarker hp (by simp [hm]), State.takeMarker_cons hm]
  rfl

end Sys2Proof.Machine

/-!
PROOF. The Pattern Source as the host sees it: the pattern memory with the payloads stamped from it, and PATTERN OPEN
(chapter 10): O47, O49.
-/

namespace Sys2Proof.Machine

open Sys2Proof

/-! ## The stamped payload (R168) -/

/-- The field of a number's bytes inside a run of bytes is the number, in so many bytes. -/
theorem field_append (pre post : List Byte) (n v : Nat) :
    field (pre ++ (leBytes n v ++ post)) pre.length n = v % 256 ^ n := by
  rw [field, List.drop_left, List.take_left' (leBytes_length n v), leNat_leBytes]

/-- A generated payload: the stamp of four bytes and two, and behind it the bytes of the region from position 6 on. -/
theorem patternPayload_eq (mem : List Host.Cell) (offset length size f index : Nat) :
    patternPayload mem offset length size f index =
      leBytes 4 f ++ (leBytes 2 index
        ++ ((List.range size).drop 6).map fun k => regionByte mem offset length (index * size + k)) :=
  List.append_assoc ..

section

variable (mem : List Host.Cell) (offset length f index : Nat) {size : Nat} (h : 6 ≤ size)

include h in
theorem patternPayload_length : (patternPayload mem offset length size f index).length = size := by
  simp [patternPayload]
  omega

theorem field_patternPayload_frame : field (patternPayload mem offset length size f index) 0 4 = f % 2 ^ 32 := by
  rw [patternPayload_eq]
  exact field_append [] _ 4 f

theorem field_patternPayload_index : field (patternPayload mem offset length size f index) 4 2 = index % 2 ^ 16 := by
  rw [patternPayload_eq]
  exact field_append (leBytes 4 f) _ 2 index

/-- Behind the stamp every byte is the region's at its place in the run of payloads (R168). -/
theorem byteAt_patternPayload {k : Nat} (hk : 6 ≤ k) (hs : k < size) :
    byteAt (patternPayload mem offset length size f index) k = regionByte mem offset length (index * size + k) := by
  have hstamp : (leBytes 4 f ++ leBytes 2 index).length = 6 := by simp
  have hplace : 6 + (k - 6) = k := by omega
  rw [byteAt, patternPayload, List.getD_append_right _ _ _ _ (by omega), hstamp,
    List.getD_eq_getElem _ _ (by simp; omega)]
  simp [hplace]

end

/-! ## The pattern memory (R164) -/

theorem isPatternPage_iff (page : Nat) : isPatternPage page = true ↔ 32 ≤ page ∧ page ≤ 287 := by
  simp [isPatternPage]

/-- A data byte taken at a pointer in the pattern memory is written at its address, and the pointer moves on in its
row. -/
theorem State.putByte_pattern {s : State} (h : isPatternPage s.port.page = true) (v : Byte) :
    s.putByte v =
      { s with
        patternMem := writeMem s.patternMem (patternAddress s.port.page s.port.offset) v
        port := { s.port with offset := nextInRow s.port.offset } } := by
  rw [State.putByte, State.byteEffect, if_pos h]
  exact State.resumed_same _ _ rfl rfl

theorem exec_patternMemoryWrite {s : State} (hp : s.power = .on) (hb : s.port.busy = none)
    (h : isPatternPage s.port.page = true) (v : Byte) : exec (.patternMemoryWrite v) s = .next (s.putByte v) := by
  have hsilent : s.silent = false := by simp [State.silent, State.up, hp, hb]
  change Host.Outcome.next (if !s.silent && isPatternPage s.port.page then s.putByte v else s) = _
  rw [hsilent, h]
  rfl

/-- Settles O47: the stamp and the region of a payload, and the one address a byte is written at. -/
theorem patternMemoryGivesTheStampedPayload : Obligations.PatternMemoryGivesTheStampedPayload := by
  refine ⟨fun mem offset length size f index hsize => ?payload, fun s v hp hb hlow hhigh => ?write⟩
  case payload =>
    exact ⟨patternPayload_length mem offset length f index hsize, field_patternPayload_frame ..,
      field_patternPayload_index .., fun k hk hs => byteAt_patternPayload mem offset length f index hk hs⟩
  case write =>
    have hpage := (isPatternPage_iff s.port.page).mpr ⟨hlow, hhigh⟩
    rw [exec_patternMemoryWrite hp hb hpage, State.putByte_pattern hpage]
    exact ⟨_, rfl, rfl,
      fun ⟨_, hmem⟩ => ⟨readMem_writeMem_self hmem _ v, fun b hne => readMem_writeMem_ne hmem hne v⟩⟩

/-! ## PATTERN OPEN (R165) -/

theorem isCommand_patternOpen : IsCommand 0x40 cmdPatternOpen := fun s hb => by simp [State.takeCommand, hb]

section

variable {s : State} {own : Owner} {o : OpenParams} {req : Option Nat} {reg : Option (Nat × Nat)} {bad : Bool}

/-- An OPEN that the Stream Table refuses changes nothing, and the first test that fails gives its code (R2, R3, R9). -/
theorem State.takeOpen_noSlot (h : s.lowestFree = none) : s.takeOpen own o req reg bad = (s, .error .noSlot) := by
  rw [State.takeOpen, h]

theorem State.takeOpen_badParam (h : s.lowestFree ≠ none) (hb : (badOpen o || bad) = true) :
    s.takeOpen own o req reg bad = (s, .error .badParam) := by
  obtain ⟨i, hi⟩ := Option.ne_none_iff_exists'.mp h
  rw [State.takeOpen, hi]
  exact if_pos hb

theorem State.takeOpen_capacity (h : s.lowestFree ≠ none) (hb : (badOpen o || bad) = false)
    (ha : s.admits o.pathSet (openLoad s.params.rate o) = false) :
    s.takeOpen own o req reg bad = (s, .error .capacity) := by
  obtain ⟨i, hi⟩ := Option.ne_none_iff_exists'.mp h
  simp [State.takeOpen, hi, hb, ha]

/-- An OPEN that passes arms the lowest FREE slot and adds its loads to the sums (R5, R9). -/
theorem State.takeOpen_passes {i : Fin 16} (h : s.lowestFree = some i) (hb : (badOpen o || bad) = false)
    (ha : s.admits o.pathSet (openLoad s.params.rate o) = true) :
    s.takeOpen own o req reg bad =
      let t := openedSlot own o req reg (openLoad s.params.rate o) (chooseStart o req s.now)
      ({ s with slots := s.slots.set i t, sumA := s.sumA + t.loadA, sumB := s.sumB + t.loadB },
        .ok ⟨i, chooseStart o req s.now, t.loadA, t.loadB⟩) := by
  simp only [State.takeOpen, h, hb, ha]
  rfl

end

section

variable {s : State}

/-- The Stream Table takes the OPEN that stands in the argument rows, with the length of its region as a further test
(R165). -/
def State.takePatternOpen (s : State) : State × Except OpenRefusal OpenResult :=
  s.takeOpen .pattern (parseOpen s.port.args.toList) (patternStart (parseOpen s.port.args.toList))
    (some (patternArgs s.port.args.toList))
    (decide ((patternArgs s.port.args.toList).2 < (parseOpen s.port.args.toList).s)
      || decide (patternSize < (patternArgs s.port.args.toList).2))

theorem cmdPatternOpen_busy (h : s.patternSlot ≠ none) : cmdPatternOpen s = answerRefused s .patternBusy := by
  obtain ⟨i, hi⟩ := Option.ne_none_iff_exists'.mp h
  rw [cmdPatternOpen, hi]

/-- With no pattern stream open, a PATTERN OPEN answers as the Stream Table does. -/
theorem cmdPatternOpen_refused {e : OpenRefusal} (h : s.patternSlot = none) (he : s.takePatternOpen = (s, .error e)) :
    cmdPatternOpen s = answerRefused s (openRefusal e) := by
  simp only [State.takePatternOpen] at he
  simp only [cmdPatternOpen, h, he]

theorem cmdPatternOpen_accepted {t : State} {r : OpenResult} (h : s.patternSlot = none)
    (hr : s.takePatternOpen = (t, .ok r)) :
    cmdPatternOpen s =
      (t.updPattern fun p =>
        { p with slot := some r.slot, nextFrame := r.start, nextIndex := 0, waitEntry := false, offered := false },
        .ok (some r)) := by
  simp only [State.takePatternOpen] at hr
  simp only [cmdPatternOpen, h, hr]

/-- An event that ends with the Pattern Source at another slot than the one it was paused at resumes no generation. -/
theorem State.resumed_of_moved {t : State} (h : ∀ i, s.isPaused i = true → t.pattern.slot ≠ some i) :
    s.resumed t = t := by
  rcases s.resumed_cases t with e | ⟨i, hi, ht, -⟩
  · exact e
  · exact absurd ht (h i hi)

/-- A paused slot takes packets, so it is not FREE. -/
theorem State.isPaused_ne_lowestFree {i j : Fin 16} (hi : s.isPaused i = true) (hj : s.lowestFree = some j) :
    j ≠ i := by
  rintro rfl
  simp [State.isPaused, State.lowestFree_free hj, SlotState.takesPackets] at hi

/-- An accepted PATTERN OPEN at the code byte: the port answers with the result row, and nothing is generated in it. -/
theorem writeCode_patternOpen {t : State} {r : OpenResult} (h : s.hostReady) (hn : s.patternSlot = none)
    (hf : s.lowestFree = some r.slot) (hr : s.atCode.takePatternOpen = (t, .ok r)) :
    s.writeCode 0x40 =
      (t.updPattern fun p =>
        { p with
          slot := some r.slot, nextFrame := r.start, nextIndex := 0, waitEntry := false, offered := false }).updPort
        fun q => { q with result := ⟨.done, none, 0x40, some r⟩, offset := 1 } := by
  rw [State.writeCode_ready h, isCommand_patternOpen s.atCode h.2.1, cmdPatternOpen_accepted (s := s.atCode) hn hr]
  refine State.resumed_of_moved fun i hi ht => ?_
  exact State.isPaused_ne_lowestFree hi hf (Option.some.inj ht)

end

/-- Settles O49: what the command answers at the code byte, by the first test that fails. -/
theorem patternOpenIsJudgedInOrder : Obligations.PatternOpenIsJudgedInOrder := by
  intro s h
  dsimp only
  refine ⟨fun hb => ?busy, fun hn hf => ?noSlot, fun hn hf hbad => ?badParam, fun hn hf hgood ha => ?capacity,
    fun i hn hf hgood ha => ?accepted⟩
  case busy => exact congrArg _ (isCommand_patternOpen.refused h (cmdPatternOpen_busy (s := s.atCode) hb))
  case noSlot =>
    exact congrArg _ (isCommand_patternOpen.refused h
      (cmdPatternOpen_refused (s := s.atCode) hn (State.takeOpen_noSlot hf)))
  case badParam =>
    rw [Bool.or_assoc] at hbad
    exact congrArg _ (isCommand_patternOpen.refused h
      (cmdPatternOpen_refused (s := s.atCode) hn (State.takeOpen_badParam hf hbad)))
  case capacity =>
    rw [Bool.or_assoc] at hgood
    exact congrArg _ (isCommand_patternOpen.refused h
      (cmdPatternOpen_refused (s := s.atCode) hn (State.takeOpen_capacity hf hgood ha)))
  case accepted =>
    rw [Bool.or_assoc] at hgood
    have htake := State.takeOpen_passes (s := s.atCode) (own := .pattern)
      (req := patternStart (parseOpen s.port.args.toList)) (reg := some (patternArgs s.port.args.toList)) hf hgood ha
    exact congrArg Host.Outcome.next (writeCode_patternOpen h hn hf htake)

end Sys2Proof.Machine

/-!
PROOF. The generation of packets: what one generation does, and how generation runs on to the next pause (chapter 10):
O48.
-/

namespace Sys2Proof.Machine

open Sys2Proof

/-! ## The conditions of a generation (R167) -/

section

variable {s : State} {i : Fin 16}

/-- What it takes to generate a packet of the stream in slot `i`. -/
theorem State.canGenerate_iff (hi : s.pattern.slot = some i) :
    s.canGenerate = true ↔
      (s.slot i).state.takesPackets = true ∧ cellsFor (s.slot i).s ≤ s.pattern.outstanding
        ∧ (s.slot i).queue.length < 512 ∧ s.pattern.nextFrame ≤ (s.slot i).fc + 1 ∧ s.pattern.waitEntry = false := by
  simp [State.canGenerate, State.pauses, Pauses.none, hi]

/-- While the next packet waits for an entry nothing is generated (R169). -/
theorem State.canGenerate_of_waiting (h : s.pattern.waitEntry = true) : s.canGenerate = false := by
  cases hi : s.pattern.slot with
  | none => simp [State.canGenerate, hi]
  | some i => simp [State.canGenerate, State.pauses, Pauses.none, hi, h]

theorem State.canGenerate_of_no_stream (h : s.pattern.slot = none) : s.canGenerate = false := by
  simp [State.canGenerate, h]

/-- A next packet whose frame is still to close stands as it is (R167). -/
theorem State.nextPacket_of_le (h : (s.slot i).fc ≤ s.pattern.nextFrame) :
    s.nextPacket i = (s.pattern.nextFrame, s.pattern.nextIndex, 0) := if_neg (Nat.not_lt.mpr h)

theorem State.nextPacket_of_lt (h : s.pattern.nextFrame < (s.slot i).fc) :
    s.nextPacket i = ((s.slot i).fc, 0, (s.slot i).fc - s.pattern.nextFrame) := if_pos h

/-- A next packet of frame fc or fc + 1 is placed at its own frame (R78, R79). -/
theorem judgePacket_generated {t : Slot} {f index : Nat} (hlow : t.fc ≤ f) (hhigh : f ≤ t.fc + 1) (hk : index < t.k)
    (hafter : afterLast t.intake.lastAccepted f index = true) : judgePacket t (f % 65536) index = .ok f := by
  have hf : extendFrame t.fc (f % 65536) = f :=
    (eq_extendFrame (Nat.mod_lt _ (by decide)) (by omega) (by omega) (by omega)).symm
  rw [judgePacket_placed (by omega) (by omega) hk, hf, Int.toNat_natCast, hafter]
  rfl

theorem exec_patternGeneration (hp : s.power ≠ .off) (hi : s.pattern.slot = some i) (hg : s.canGenerate = true)
    (hs : s.generationStuck i = false) : exec .patternGeneration s = .next (s.generateNext i) := by
  change execPatternGeneration s = _
  simp [execPatternGeneration, hi, hg, State.powered, hp, State.generate, hs]

/-- A generation that does not occur changes nothing. -/
theorem exec_patternGeneration_paused (hg : s.canGenerate = false) : exec .patternGeneration s = .next s := by
  change execPatternGeneration s = _
  unfold execPatternGeneration
  split
  · rfl
  · simp [hg]

end

/-! ## What one generation does (R167 to R169) -/

section

variable {s : State} {i : Fin 16} {f index skipped : Nat} (hnext : s.nextPacket i = (f, index, skipped))

/-- The next packet is settled, and the frames it skips are counted. -/
def State.atPacket (s : State) (f index skipped : Nat) : State :=
  (s.updPattern fun p => { p with nextFrame := f, nextIndex := index }).countPart .framesSkipped skipped

/-- The packet has been offered and the next one follows it. -/
def State.pastPacket (s : State) (i : Fin 16) (f index skipped : Nat) : State :=
  (s.atPacket f index skipped).updPattern fun p => { p.advance (s.slot i).k f index with offered := false }

include hnext

theorem State.generateNext_waits (hn : s.freeEntry = none) :
    s.generateNext i =
      ((s.atPacket f index skipped).updPattern fun p => { p with offered := true, waitEntry := true }).countPart
        .noEntry 1 := by
  have hfree : (s.atPacket f index skipped).freeEntry = none := hn
  simp only [State.atPacket] at hfree
  simp only [State.generateNext, hnext, hfree]
  rfl

theorem State.generateNext_refused {n : Nat} {e : IntakeDrop} (hn : s.freeEntry = some n)
    (hj : judgePacket (s.slot i) (f % 65536) index = .error e) :
    s.generateNext i = (s.pastPacket i f index skipped).countSlot i (intakeDropCounter e) 1 := by
  have hfree : (s.atPacket f index skipped).freeEntry = some n := hn
  simp only [State.atPacket] at hfree
  simp only [State.generateNext, hnext, hfree, hj]
  rfl

theorem State.generateNext_accepts {n full : Nat} (hn : s.freeEntry = some n)
    (hj : judgePacket (s.slot i) (f % 65536) index = .ok full) :
    s.generateNext i =
      ((s.pastPacket i f index skipped).countPart .generated 1).accept n i .pattern full index
        (patternPayload s.patternMem ((s.slot i).patternRegion.getD (0, 0)).1
          ((s.slot i).patternRegion.getD (0, 0)).2 (s.slot i).s f index)
        (decide (index = 0)) (decide (index + 1 = (s.slot i).k)) false := by
  have hfree : (s.atPacket f index skipped).freeEntry = some n := hn
  simp only [State.atPacket] at hfree
  simp only [State.generateNext, hnext, hfree, hj]
  rfl

end

/-! ## A packet accepted behind others (R80, R92) -/

section

variable (s : State) (n : Nat) (i : Fin 16) (f index : Nat) (b : List Byte)

/-- The entry of a generated packet. -/
def State.generatedEntry (g : ConditionFlags) : Entry :=
  { number := n, slot := i, owner := .pattern, frame := f, index := index, payload := b.length,
    cells := s.takeCells (cellsFor b.length), flags := g, stamp := none,
    holders := Holders.nobody.put .queued true }

/-- A filling's entry, queue and charge; no lane is charged. -/
theorem State.fill_pattern (g : ConditionFlags) :
    (s.fill n i .pattern f index b g).entries = insertEntry (s.generatedEntry n i f index b g) s.entries
      ∧ (s.fill n i .pattern f index b g).slots = (s.updSlot i fun t => { t with queue := t.queue ++ [n] }).slots
      ∧ (s.fill n i .pattern f index b g).pattern =
          { s.pattern with outstanding := s.pattern.outstanding - cellsFor b.length }
      ∧ (s.fill n i .pattern f index b g).lanes = s.lanes :=
  ⟨rfl, rfl, rfl, rfl⟩

variable {s n i f index b}
variable {x y z : Bool} (h : (s.slot i).queue ≠ [])
include h

/-- A packet accepted behind others leaves the head of its queue and the launcher alone. -/
theorem State.accept_behind (o : Owner) :
    s.accept n i o f index b x y z =
      ((s.fill n i o f index b (acceptFlags (s.slot i) f index x y z)).updSlot i fun t =>
        { t with
          intake := acceptRecord t.intake f index y
          arrived := if f = t.fc then t.arrived + 1 else t.arrived }).countFlags i
        (acceptFlags (s.slot i) f index x y z) := if_neg h

theorem State.queue_accept_pattern :
    ((s.accept n i .pattern f index b x y z).slot i).queue = (s.slot i).queue ++ [n] := by
  obtain ⟨-, hslots, -, -⟩ := s.fill_pattern n i f index b (acceptFlags (s.slot i) f index x y z)
  have hslot : (s.fill n i .pattern f index b (acceptFlags (s.slot i) f index x y z)).slot i =
      { s.slot i with queue := (s.slot i).queue ++ [n] } :=
    (congrArg (fun v : Vector Slot 16 => v[i]) hslots).trans (s.slot_updSlot i _)
  rw [State.accept_behind h, State.slot_countFlags, State.slot_updSlot, hslot]

theorem State.otherSlotsSame_accept_pattern : s.otherSlotsSame (s.accept n i .pattern f index b x y z) i := by
  obtain ⟨-, hslots, -, -⟩ := s.fill_pattern n i f index b (acceptFlags (s.slot i) f index x y z)
  intro j hj
  rw [State.accept_behind h, State.slot_countFlags, State.slot_updSlot_ne _ _ _ _ hj]
  exact (congrArg (fun v : Vector Slot 16 => v[j]) hslots).trans (s.slot_updSlot_ne i j _ hj)

theorem State.entries_accept_pattern :
    (s.accept n i .pattern f index b x y z).entries =
      insertEntry (s.generatedEntry n i f index b (acceptFlags (s.slot i) f index x y z)) s.entries := by
  obtain ⟨hentries, -, -, -⟩ := s.fill_pattern n i f index b (acceptFlags (s.slot i) f index x y z)
  rw [State.accept_behind h, State.countFlags_entries, State.updSlot_entries, hentries]

/-- The entry of a pattern packet accepted behind others, and what its cells hold (R90, R92). -/
theorem State.entry_accept_pattern (hcells : cellsFor b.length ≤ s.freeCells) :
    ∃ e ∈ (s.accept n i .pattern f index b x y z).entries,
      e.number = n ∧ e.slot = i ∧ e.owner = .pattern ∧ e.frame = f ∧ e.index = index ∧ e.payload = b.length
        ∧ e.queuedOnly ∧ e.cells.length = cellsFor b.length
        ∧ (s.memoriesCanonical →
            payloadFrom (s.accept n i .pattern f index b x y z).cellMem e.cells e.payload = b)
        ∧ e.flags = acceptFlags (s.slot i) f index x y z := by
  have hentries := State.entries_accept_pattern (n := n) (f := f) (index := index) (b := b) (x := x) (y := y) (z := z) h
  exact ⟨s.generatedEntry n i f index b _, hentries ▸ (mem_insertEntry ..).mpr (.inl rfl), rfl, rfl, rfl, rfl, rfl, rfl,
    rfl, State.takeCells_length hcells, fun hmem => State.payloadFrom_accept hmem hcells .., rfl⟩

theorem State.mem_accept_pattern {e : Entry} (he : e ∈ s.entries) :
    e ∈ (s.accept n i .pattern f index b x y z).entries := by
  rw [State.entries_accept_pattern h]
  exact (mem_insertEntry ..).mpr (.inr he)

theorem State.pattern_accept_pattern :
    (s.accept n i .pattern f index b x y z).pattern =
      { s.pattern with outstanding := s.pattern.outstanding - cellsFor b.length } := by
  obtain ⟨-, -, hpattern, -⟩ := s.fill_pattern n i f index b (acceptFlags (s.slot i) f index x y z)
  rw [State.accept_behind h, State.countFlags_pattern, State.updSlot_pattern, hpattern]

theorem State.lanes_accept_pattern : (s.accept n i .pattern f index b x y z).lanes = s.lanes := by
  obtain ⟨-, -, -, hlanes⟩ := s.fill_pattern n i f index b (acceptFlags (s.slot i) f index x y z)
  rw [State.accept_behind h, State.countFlags_lanes, State.updSlot_lanes, hlanes]

end

/-! ## A generation that accepts its packet behind others (R167 to R170) -/

theorem PatternSource.advance_eq (p : PatternSource) (k f index : Nat) :
    p.advance k f index =
      { p with
        nextFrame := if index + 1 < k then f else f + 1
        nextIndex := if index + 1 < k then index + 1 else 0 } := by
  unfold PatternSource.advance
  split <;> rfl

section

variable {s : State} {i : Fin 16}

/-- Past a packet the next one follows it; nothing is charged yet. -/
theorem State.pastPacket_pattern (f index skipped : Nat) :
    (s.pastPacket i f index skipped).pattern =
      { s.pattern with
        offered := false
        nextFrame := if index + 1 < (s.slot i).k then f else f + 1
        nextIndex := if index + 1 < (s.slot i).k then index + 1 else 0 } := by
  simp [State.pastPacket, State.atPacket, PatternSource.advance_eq]

/-- With cells enough for a payload of the stream's size no generation stops the part. -/
theorem State.generationStuck_of_cells (hsize : 6 ≤ (s.slot i).s) (hcells : cellsFor (s.slot i).s ≤ s.freeCells) :
    s.generationStuck i = false := by
  simp [State.generationStuck, Nat.max_eq_right hsize, hcells]

/-- Without a free entry no generation stops the part. -/
theorem State.generationStuck_of_no_entry (hn : s.freeEntry = none) : s.generationStuck i = false := by
  simp [State.generationStuck, hn]

/-- A generation whose packet is taken: Intake accepts its stamped payload in a state that is past the packet, with the
next one behind it (R167, R168). -/
theorem State.generateNext_taken {n f index skipped offset length : Nat} (hnext : s.nextPacket i = (f, index, skipped))
    (hn : s.freeEntry = some n) (hj : judgePacket (s.slot i) (f % 65536) index = .ok f)
    (hreg : (s.slot i).patternRegion = some (offset, length)) :
    ∃ u : State,
      s.generateNext i =
          u.accept n i .pattern f index (patternPayload s.patternMem offset length (s.slot i).s f index)
            (decide (index = 0)) (decide (index + 1 = (s.slot i).k)) false
        ∧ u.pattern =
            { s.pattern with
              offered := false
              nextFrame := if index + 1 < (s.slot i).k then f else f + 1
              nextIndex := if index + 1 < (s.slot i).k then index + 1 else 0 }
        ∧ u.slot = s.slot ∧ u.entries = s.entries ∧ u.cellMem = s.cellMem ∧ u.patternMem = s.patternMem
        ∧ u.lanes = s.lanes := by
  rw [State.generateNext_accepts hnext hn hj, hreg]
  exact ⟨_, rfl, State.pastPacket_pattern f index skipped, rfl, rfl, rfl, rfl, rfl⟩

end

/-! ## How long generation can run on (R167) -/

/-- A bound on the packets from packet `index` of frame `f` to the end of frame fc + 1, in frames of `k` packets; an
index at or above `k`, which no accepted packet has, ends its frame too. -/
def packetsToPause (fc k f index : Nat) : Nat := (fc + 2 - f) * (k + 1) - min index k

theorem packetsToPause_pos {fc k f : Nat} (index : Nat) (h : f ≤ fc + 1) : 0 < packetsToPause fc k f index := by
  have hle : k + 1 ≤ (fc + 2 - f) * (k + 1) := Nat.le_mul_of_pos_left _ (by omega)
  unfold packetsToPause
  omega

theorem packetsToPause_le {fc f : Nat} (k index : Nat) (h : fc ≤ f) : packetsToPause fc k f index ≤ 2 * k + 2 :=
  calc
    packetsToPause fc k f index ≤ (fc + 2 - f) * (k + 1) := Nat.sub_le _ _
    _ ≤ 2 * (k + 1) := Nat.mul_le_mul_right _ (by omega)
    _ = 2 * k + 2 := by omega

/-- The next index of a frame leaves fewer packets. -/
theorem packetsToPause_next_index {fc k f index : Nat} (h : f ≤ fc + 1) (hk : index + 1 < k) :
    packetsToPause fc k f (index + 1) < packetsToPause fc k f index := by
  have hle : k + 1 ≤ (fc + 2 - f) * (k + 1) := Nat.le_mul_of_pos_left _ (by omega)
  unfold packetsToPause
  omega

/-- The next frame leaves fewer packets. -/
theorem packetsToPause_next_frame {fc k f : Nat} (index : Nat) (h : f ≤ fc + 1) :
    packetsToPause fc k (f + 1) 0 < packetsToPause fc k f index := by
  have hframe : (fc + 2 - f) * (k + 1) = (fc + 2 - (f + 1)) * (k + 1) + (k + 1) := by
    rw [← Nat.succ_mul]
    congr 1
    omega
  unfold packetsToPause
  omega

/-- A bound on the packets that the pattern stream of slot `i` can generate before it is ahead (R167). -/
def State.packetsLeft (s : State) (i : Fin 16) : Nat :=
  packetsToPause (s.slot i).fc (s.slot i).k (s.nextPacket i).1 (s.nextPacket i).2.1

/-! ## What an acceptance leaves of the Pattern Source -/

/-- Every stream keeps its frame fc and its packets per frame, and the Pattern Source its next packet, unless the
pattern stream has closed. -/
structure State.KeepsPlace (s t : State) : Prop where
  frames : ∀ j, (t.slot j).fc = (s.slot j).fc ∧ (t.slot j).k = (s.slot j).k
  next : t.pattern.slot = none
    ∨ (t.pattern.slot = s.pattern.slot ∧ t.pattern.nextFrame = s.pattern.nextFrame
        ∧ t.pattern.nextIndex = s.pattern.nextIndex)

namespace State.KeepsPlace

variable {s t u : State}

theorem refl (s : State) : s.KeepsPlace s := ⟨fun _ => ⟨rfl, rfl⟩, .inr ⟨rfl, rfl, rfl⟩⟩

theorem trans (h : s.KeepsPlace t) (k : t.KeepsPlace u) : s.KeepsPlace u where
  frames j := ⟨(k.frames j).1.trans (h.frames j).1, (k.frames j).2.trans (h.frames j).2⟩
  next := by
    rcases k.next with hn | ⟨hslot, hframe, hindex⟩
    · exact .inl hn
    · rw [hslot, hframe, hindex]
      exact h.next

/-- An operation that leaves the Pattern Source, every slot but one, and fc and K of that one. -/
theorem ofSlot (i : Fin 16) (hne : ∀ j, j ≠ i → t.slot j = s.slot j)
    (hself : (t.slot i).fc = (s.slot i).fc ∧ (t.slot i).k = (s.slot i).k) (hpattern : t.pattern = s.pattern) :
    s.KeepsPlace t where
  frames j := by
    rcases eq_or_ne j i with rfl | hj
    · exact hself
    · simp [hne j hj]
  next := by simp [hpattern]

theorem ofSame (hslot : ∀ j, t.slot j = s.slot j) (hpattern : t.pattern = s.pattern) : s.KeepsPlace t where
  frames j := by simp [hslot j]
  next := by simp [hpattern]

theorem formHead (s : State) (i : Fin 16) : s.KeepsPlace (s.formHead i) := by
  obtain ⟨a, b, c, hd, hslot⟩ := s.formHead_slot_rest i
  exact ofSlot i (fun j hj => s.slot_formHead_ne i j hj) (by simp [hslot]) (by simp)

theorem refreshDue (s : State) (i : Fin 16) : s.KeepsPlace (s.refreshDue i) := ofSame (by simp) (by simp)

/-- A closure of a stream with nothing queued leaves the Pattern Source, or stops it (R11, R166). -/
theorem closeStream {i : Fin 16} (hq : (s.slot i).queue = []) (r : ClosureReason) (b : Bool) :
    s.KeepsPlace (s.closeStream i r b) where
  frames j := by
    rcases eq_or_ne j i with rfl | hj
    · simp [State.slot_closeStream, closedSlot]
    · simp [State.slot_closeStream_ne s i j r b hj]
  next := by
    have hlatch : (s.closeStream i r b).pattern = (s.closeCore i r).pattern := by
      rw [State.closeStream_eq]
      split <;> simp
    rw [hlatch, State.closeCore, hq]
    cases (s.slot i).owner with
    | lane l =>
      refine .inr ?_
      dsimp only
      split <;> simp [State.dropAll]
    | pattern => exact .inl rfl

theorem closeIfDrained (s : State) (i : Fin 16) : s.KeepsPlace (s.closeIfDrained i) := by
  rcases s.closeIfDrained_cases i with e | ⟨-, hq, e⟩ <;> rw [e]
  · exact refl s
  · exact closeStream hq ..

theorem grantCore (s : State) (i : Fin 16) (n : Nat) (rest : List Nat) (e : Entry) (hd : Head) :
    s.KeepsPlace (s.grantCore i n rest e hd) :=
  ofSlot i (fun j hj => s.slot_grantCore_ne i j n rest e hd hj)
    (by simp [State.grantCore, State.slot, State.updSlot, State.updEntry, Slot.granted]) (by simp)

theorem grant (s : State) (i : Fin 16) (urgent : Bool) : s.KeepsPlace (s.grant i urgent) := by
  rcases s.grant_cases i urgent with e | ⟨n, rest, e, hd, -, -, -, hg⟩
  · rw [e]; exact refl s
  · rw [hg]
    have counted (t : State) (x y w : Bool) : t.KeepsPlace (t.grantCounts i x y w) := ofSame (by simp) (by simp)
    exact ((((grantCore ..).trans (counted ..)).trans (formHead ..)).trans (refreshDue ..)).trans (closeIfDrained ..)

theorem choice (s : State) : s.KeepsPlace s.choice := by
  rcases s.choice_cases with e | ⟨i, -, -, -, -, e⟩ | ⟨i, -, -, -, -, e⟩ <;> rw [e]
  · exact refl s
  · exact grant ..
  · exact grant ..

theorem fill_pattern (s : State) (n : Nat) (i : Fin 16) (f index : Nat) (b : List Byte) (g : ConditionFlags) :
    s.KeepsPlace (s.fill n i .pattern f index b g) := by
  obtain ⟨-, hslots, hpattern, -⟩ := s.fill_pattern n i f index b g
  have hqueued : s.KeepsPlace (s.updSlot i fun t => { t with queue := t.queue ++ [n] }) :=
    ofSlot i (fun j hj => s.slot_updSlot_ne i j _ hj) (by simp) (by simp)
  exact ⟨fun j => by simpa only [State.slot, hslots] using hqueued.frames j, by simp [hpattern]⟩

/-- A packet that the Pattern Source offers may go into service at once, and the stream it is granted from may close. -/
theorem accept_pattern (s : State) (n : Nat) (i : Fin 16) (f index : Nat) (b : List Byte) (x y z : Bool) :
    s.KeepsPlace (s.accept n i .pattern f index b x y z) := by
  have recorded (t : State) (r : IntakeRecord → IntakeRecord) (a : Slot → Nat) :
      t.KeepsPlace (t.updSlot i fun c => { c with intake := r c.intake, arrived := a c }) :=
    ofSlot i (fun j hj => t.slot_updSlot_ne i j _ hj) (by simp) (by simp)
  have flagged (t : State) (g : ConditionFlags) : t.KeepsPlace (t.countFlags i g) := ofSame (by simp) (by simp)
  have filed := ((fill_pattern s n i f index b (acceptFlags (s.slot i) f index x y z)).trans
    (recorded _ (fun r => acceptRecord r f index y) fun c => if f = c.fc then c.arrived + 1 else c.arrived)).trans
    (flagged _ (acceptFlags (s.slot i) f index x y z))
  unfold State.accept
  dsimp only
  split
  · exact ((filed.trans (formHead ..)).trans (refreshDue ..)).trans (choice ..)
  · exact filed

end State.KeepsPlace

/-! ## A run of generations (R167) -/

section

variable {s : State} {i : Fin 16}

/-- Where generation can go on, the next packet stands in frame fc or fc + 1. -/
theorem State.nextPacket_frame (hi : s.pattern.slot = some i) (hg : s.canGenerate = true) :
    (s.slot i).fc ≤ (s.nextPacket i).1 ∧ (s.nextPacket i).1 ≤ (s.slot i).fc + 1 := by
  obtain ⟨-, -, -, hframe, -⟩ := (State.canGenerate_iff hi).mp hg
  rcases Nat.lt_or_ge s.pattern.nextFrame (s.slot i).fc with hlt | hle
  · rw [State.nextPacket_of_lt hlt]
    exact ⟨Nat.le_refl _, Nat.le_succ _⟩
  · rw [State.nextPacket_of_le hle]
    exact ⟨hle, hframe⟩

theorem State.packetsLeft_pos (hi : s.pattern.slot = some i) (hg : s.canGenerate = true) : 0 < s.packetsLeft i :=
  packetsToPause_pos _ (State.nextPacket_frame hi hg).2

theorem State.packetsLeft_le_fuel (hi : s.pattern.slot = some i) (hg : s.canGenerate = true) :
    s.packetsLeft i ≤ s.generateFuel i :=
  packetsToPause_le _ _ (State.nextPacket_frame hi hg).1

/-- Past its packet a stream has fewer packets left. -/
theorem State.packetsLeft_past {t : State} {f index skipped : Nat} (hnext : s.nextPacket i = (f, index, skipped))
    (hlow : (s.slot i).fc ≤ f) (hhigh : f ≤ (s.slot i).fc + 1) (hk : (s.pastPacket i f index skipped).KeepsPlace t)
    (ht : t.pattern.slot ≠ none) :
    t.pattern.slot = s.pattern.slot ∧ t.packetsLeft i < s.packetsLeft i := by
  obtain ⟨hslot, hframe, hindex⟩ := hk.next.resolve_left ht
  obtain ⟨hfc, hlen⟩ : (t.slot i).fc = (s.slot i).fc ∧ (t.slot i).k = (s.slot i).k := hk.frames i
  rw [State.pastPacket_pattern] at hslot hframe hindex
  simp only at hframe hindex
  have hle : (t.slot i).fc ≤ t.pattern.nextFrame := by
    rw [hfc, hframe]
    split <;> omega
  refine ⟨hslot, ?_⟩
  rw [State.packetsLeft, State.packetsLeft, hnext, State.nextPacket_of_le hle, hfc, hlen, hframe, hindex]
  split
  · next hi => exact packetsToPause_next_index hhigh hi
  · exact packetsToPause_next_frame index hhigh

/-- After one generation nothing more can be generated, or fewer packets are left. -/
theorem State.generateNext_progress (hi : s.pattern.slot = some i) (hg : s.canGenerate = true)
    (hnow : (s.generateNext i).canGenerate = true) :
    (s.generateNext i).pattern.slot = some i ∧ (s.generateNext i).packetsLeft i < s.packetsLeft i := by
  obtain ⟨hlow, hhigh⟩ := State.nextPacket_frame hi hg
  have hopen : (s.generateNext i).pattern.slot ≠ none := fun hn => by
    simp [State.canGenerate_of_no_stream hn] at hnow
  rcases hnext : s.nextPacket i with ⟨f, index, skipped⟩
  have past : (s.pastPacket i f index skipped).KeepsPlace (s.generateNext i) →
      (s.generateNext i).pattern.slot = some i ∧ (s.generateNext i).packetsLeft i < s.packetsLeft i := fun hk =>
    hi ▸ State.packetsLeft_past hnext (by simpa [hnext] using hlow) (by simpa [hnext] using hhigh) hk hopen
  cases hn : s.freeEntry with
  | none =>
    have hwait : (s.generateNext i).pattern.waitEntry = true := by
      rw [State.generateNext_waits hnext hn]
      rfl
    simp [State.canGenerate_of_waiting hwait] at hnow
  | some n =>
    cases hj : judgePacket (s.slot i) (f % 65536) index with
    | error e =>
      rw [State.generateNext_refused hnext hn hj] at past ⊢
      exact past (.ofSame (by simp) (by simp))
    | ok full =>
      rw [State.generateNext_accepts hnext hn hj] at past ⊢
      exact past ((State.KeepsPlace.ofSame (by simp) (by simp)).trans (.accept_pattern ..))

/-- An event that leaves the Pattern Source at the slot it was paused at ends with a run of generations. -/
theorem State.resumed_of_ended {t : State} (h : s.isPaused i = true) (ht : t.pattern.slot = some i) :
    s.resumed t = t.generateRun i (t.generateFuel i) := by
  have hi : s.pattern.slot = some i := by
    simp only [State.isPaused, Bool.and_eq_true, decide_eq_true_eq] at h
    obtain ⟨⟨hi, -⟩, -⟩ := h
    exact hi
  simp [State.resumed, hi, h, ht]

/-- Packet after packet is generated until a condition fails, or the next packet would find too few cells. -/
theorem State.generateRun_runs (fuel : Nat) (s : State)
    (h : s.canGenerate = true → s.pattern.slot = some i ∧ s.packetsLeft i ≤ fuel) :
    ∃ n, s.generateRun i fuel = Nat.iterate (fun u => u.generateNext i) n s
      ∧ (∀ k, k < n → (Nat.iterate (fun u => u.generateNext i) k s).canGenerate = true)
      ∧ ((s.generateRun i fuel).canGenerate = false ∨ (s.generateRun i fuel).generationStuck i = true) := by
  induction fuel generalizing s with
  | zero =>
    refine ⟨0, rfl, fun k hk => absurd hk (Nat.not_lt_zero k), .inl (Bool.eq_false_iff.mpr fun hg => ?_)⟩
    obtain ⟨hi, hleft⟩ := h hg
    exact absurd hleft (Nat.not_le.mpr (State.packetsLeft_pos hi hg))
  | succ fuel ih =>
    rw [State.generateRun]
    split
    · next hgo =>
      obtain ⟨hg, -⟩ := (Bool.and_eq_true ..).mp hgo
      obtain ⟨hi, hleft⟩ := h hg
      obtain ⟨n, hrun, hall, hend⟩ := ih (s.generateNext i) fun hnow => by
        obtain ⟨hslot, hless⟩ := State.generateNext_progress hi hg hnow
        exact ⟨hslot, by omega⟩
      refine ⟨n + 1, hrun, fun k hk => ?_, hend⟩
      cases k with
      | zero => exact hg
      | succ k => exact hall k (by omega)
    · next hstop =>
      refine ⟨0, rfl, fun k hk => absurd hk (Nat.not_lt_zero k), ?_⟩
      cases hg : s.canGenerate with
      | false => exact .inl rfl
      | true => exact .inr (by simpa [hg] using hstop)

end

/-- Settles O48: what Intake makes of the packet that one generation offers it, and how a run of them ends at the next
pause: each leaves fewer packets up to the end of frame fc + 1. -/
theorem patternGenerationAcceptsTheNextPacket : Obligations.PatternGenerationAcceptsTheNextPacket := by
  refine ⟨fun s i n offset length hp hi => ?accepts, fun s i hp hi hg hlow hn => ?waits, fun s i hp hi hg hs => ?goes,
    fun s t i hpaused ht hg => ?runs, fun s t h => ?ends⟩
  case accepts =>
    dsimp only
    intro hst hreg hsize hk hlow hhigh hcredit hq hlen hw hn hcells ha
    have hg : s.canGenerate = true := (State.canGenerate_iff hi).mpr ⟨hst, hcredit, hlen, hhigh, hw⟩
    have hexec := exec_patternGeneration hp hi hg (State.generationStuck_of_cells hsize hcells)
    obtain ⟨u, hgen, hpattern, hslot, hentries, hcellMem, hpatternMem, hlanes⟩ :=
      State.generateNext_taken (State.nextPacket_of_le hlow) hn (judgePacket_generated hlow hhigh hk ha) hreg
    have hlength := patternPayload_length s.patternMem offset length s.pattern.nextFrame s.pattern.nextIndex hsize
    generalize patternPayload s.patternMem offset length (s.slot i).s s.pattern.nextFrame s.pattern.nextIndex = b
      at hgen hlength ⊢
    have hbehind : (u.slot i).queue ≠ [] := by rwa [hslot]
    have hfree : cellsFor b.length ≤ u.freeCells := by
      rw [hlength]
      simpa [State.freeCells, State.heldCells, hentries] using hcells
    refine ⟨_, hexec, ?queue, ?entry, ?pattern, ?kept, ?others, ?lanes, s.generateNext_pathA i, s.generateNext_pathB i,
      by simp [State.sameSetting]⟩
    all_goals rw [hgen]
    case queue => rw [State.queue_accept_pattern hbehind, hslot]
    case entry =>
      have hentry := State.entry_accept_pattern (n := n) (f := s.pattern.nextFrame) (index := s.pattern.nextIndex)
        (x := decide (s.pattern.nextIndex = 0)) (y := decide (s.pattern.nextIndex + 1 = (s.slot i).k)) (z := false)
        hbehind hfree
      rwa [hlength, hslot, State.memoriesCanonical, hcellMem, hpatternMem] at hentry
    case pattern => rw [State.pattern_accept_pattern hbehind, hpattern, hlength]
    case kept => exact fun e he => State.mem_accept_pattern hbehind (hentries ▸ he)
    case others =>
      exact fun j hj => (State.otherSlotsSame_accept_pattern hbehind j hj).trans (congrFun hslot j)
    case lanes => exact (State.lanes_accept_pattern hbehind).trans hlanes
  case waits =>
    have hexec := exec_patternGeneration hp hi hg (State.generationStuck_of_no_entry hn)
    rw [State.generateNext_waits (State.nextPacket_of_le hlow) hn] at hexec
    exact ⟨_, hexec, rfl, exec_patternGeneration_paused (State.canGenerate_of_waiting rfl)⟩
  case goes => exact exec_patternGeneration hp hi hg hs
  case runs =>
    rw [State.resumed_of_ended hpaused ht]
    exact t.generateRun_runs _ fun _ => ⟨ht, State.packetsLeft_le_fuel ht hg⟩
  case ends =>
    rcases h with hnone | hg
    · exact State.resumed_of_moved fun i hi => absurd hi (by simp [hnone i])
    · exact s.resumed_of_paused t hg

end Sys2Proof.Machine

/-!
PROOF. What any command can do to the counter banks and to the trim, and the bounds that every step keeps (chapters 9
and 11): O8.
-/

namespace Sys2Proof.Machine

open Sys2Proof

/-! ## A counter within its bound (R182) -/

theorem capAdd_le (a n : Nat) : capAdd a n ≤ Config.counterMax := Nat.min_le_right ..

/-- A counter set within the bound leaves all counters within it. -/
theorem counters_set_le {n : Nat} {v : Vector Nat n} {x : Nat} (hv : ∀ c : Fin n, v[c] ≤ Config.counterMax) (k : Fin n)
    (hx : x ≤ Config.counterMax) (c : Fin n) : (v.set k x)[c] ≤ Config.counterMax := by
  rw [Fin.getElem_fin, Vector.getElem_set]
  split
  · exact hx
  · exact hv c

/-- The counters of one of several rows, set within the bound, leave every row within it. -/
theorem rows_set_le {m n : Nat} {v : Vector (Vector Nat n) m} {w : Vector Nat n}
    (hv : ∀ (i : Fin m) (c : Fin n), (v[i])[c] ≤ Config.counterMax) (i : Fin m)
    (hw : ∀ c : Fin n, w[c] ≤ Config.counterMax) (j : Fin m) (c : Fin n) : ((v.set i w)[j])[c] ≤ Config.counterMax := by
  have hrow : (v.set i w)[j] = if i.val = j.val then w else v[j] := by
    rw [Fin.getElem_fin, Vector.getElem_set]
    rfl
  rw [hrow]
  split
  · exact hw c
  · exact hv j c

theorem Bank.zero_bounded : Bank.zero.bounded := by
  refine ⟨fun i c => ?_, fun l c => ?_, fun c => ?_, fun c => ?_, fun c => ?_⟩ <;> simp [Bank.zero]

/-! ## The bounds from one state to another -/

/-- What R149 and R182 bound: the two counter banks and the trim. -/
structure Meters where
  active : Bank
  frozen : Bank
  trim : Int

def State.meters (s : State) : Meters := ⟨s.active, s.frozen, s.house.trim⟩

/-- From `s` to `t` the counters stay within their bound, and so does the trim. -/
structure State.KeepsMeters (s t : State) : Prop where
  counters : s.countersBounded → t.countersBounded
  trim : s.trimBounded → t.trimBounded

namespace State.KeepsMeters

theorem refl (s : State) : s.KeepsMeters s := ⟨id, id⟩

theorem ite {s t u : State} {c : Prop} [Decidable c] (ht : s.KeepsMeters t) (hu : s.KeepsMeters u) :
    s.KeepsMeters (if c then t else u) := by
  split
  · exact ht
  · exact hu

section

variable {s t : State} (h : s.KeepsMeters t)
include h

/-- A change that leaves the banks and the trim alone. -/
theorem same {u : State} (hu : u.meters = t.meters) : s.KeepsMeters u := by
  obtain ⟨hactive, hfrozen, htrim⟩ := Meters.mk.inj hu
  exact ⟨fun hs => by rw [State.countersBounded, hactive, hfrozen]; exact h.counters hs,
    fun hs => by rw [State.trimBounded, htrim]; exact h.trim hs⟩

/-- A change of the active bank that keeps it within its bound. -/
theorem updActive {f : Bank → Bank} (hf : ∀ b, b.bounded → (f b).bounded) : s.KeepsMeters (t.updActive f) :=
  ⟨fun hs => ⟨hf _ (h.counters hs).1, (h.counters hs).2⟩, h.trim⟩

/-- A change of House Time that keeps the trim within its bound. -/
theorem updHouse {f : House → House} (hf : t.trimBounded → (t.updHouse f).trimBounded) :
    s.KeepsMeters (t.updHouse f) := ⟨h.counters, fun hs => hf (h.trim hs)⟩

/-- A change of House Time that leaves the trim alone. -/
theorem touchHouse (f : House → House) (hf : (f t.house).trim = t.house.trim) : s.KeepsMeters (t.updHouse f) :=
  h.same (congrArg (Meters.mk t.active t.frozen) hf)

theorem countSlot (i : Fin 16) (c : SlotCounter) (n : Nat) : s.KeepsMeters (t.countSlot i c n) :=
  h.updActive fun _ ⟨hs, rest⟩ => ⟨rows_set_le hs i (counters_set_le (hs i) _ (capAdd_le ..)), rest⟩

theorem countLane (l : Fin 4) (c : LaneCounter) (n : Nat) : s.KeepsMeters (t.countLane l c n) :=
  h.updActive fun _ ⟨hs, hl, rest⟩ => ⟨hs, rows_set_le hl l (counters_set_le (hl l) _ (capAdd_le ..)), rest⟩

theorem countPath (p : PathId) (c : PathCounter) (n : Nat) : s.KeepsMeters (t.countPath p c n) :=
  h.updActive fun _ ⟨hs, hl, ha, hb, hp⟩ => by
    cases p with
    | a => exact ⟨hs, hl, counters_set_le ha _ (capAdd_le ..), hb, hp⟩
    | b => exact ⟨hs, hl, ha, counters_set_le hb _ (capAdd_le ..), hp⟩

theorem countPart (c : PartCounter) (n : Nat) : s.KeepsMeters (t.countPart c n) :=
  h.updActive fun _ ⟨hs, hl, ha, hb, hp⟩ => ⟨hs, hl, ha, hb, counters_set_le hp _ (capAdd_le ..)⟩

theorem peakPart (c : PartCounter) (v : Nat) : s.KeepsMeters (t.peakPart c v) :=
  h.updActive fun _ ⟨hs, hl, ha, hb, hp⟩ => ⟨hs, hl, ha, hb, counters_set_le hp _ (Nat.min_le_right ..)⟩

theorem updSlot (i : Fin 16) (f : Slot → Slot) : s.KeepsMeters (t.updSlot i f) := h.same rfl

theorem updLane (l : Fin 4) (f : Lane → Lane) : s.KeepsMeters (t.updLane l f) := h.same rfl

theorem updPath (p : PathId) (f : Path → Path) : s.KeepsMeters (t.updPath p f) := h.same (by simp [State.meters])

theorem updPort (f : Port → Port) : s.KeepsMeters (t.updPort f) := h.same rfl

theorem updPattern (f : PatternSource → PatternSource) : s.KeepsMeters (t.updPattern f) := h.same rfl

theorem updParams (f : Params → Params) : s.KeepsMeters (t.updParams f) := h.same rfl

theorem latch (c : Cause) : s.KeepsMeters (t.latch c) := h.same rfl

theorem latchPath (p : PathId) : s.KeepsMeters (t.latchPath p) := h.same rfl

/-! ## Entries, streams and the arbiter -/

theorem freeOne (e : Entry) (c : PartCounter) : s.KeepsMeters (t.freeOne e c) := by
  have returned : s.KeepsMeters
      (({ t with entries := t.entries.filter fun x => decide (x.number ≠ e.number) } : State).returnCells e.owner
        e.cells.length) := h.same (by simp [State.meters])
  exact (returned.updPattern _).countPart c 1

theorem dropHolder (n : Nat) (x : Holder) (c : PartCounter) : s.KeepsMeters (t.dropHolder n x c) := by
  unfold State.dropHolder
  split
  · exact h
  · split
    · exact ite (h.freeOne ..) (h.same rfl)
    · exact h

omit h in
theorem dropAll (x : Holder) (c : PartCounter) (ns : List Nat) {t : State} (h : s.KeepsMeters t) :
    s.KeepsMeters (t.dropAll x c ns) := by
  induction ns generalizing t with
  | nil => exact h
  | cons n ns ih => exact ih (h.dropHolder n x c)

theorem offerClosed (l : Fin 4) (x : Notice) : s.KeepsMeters (t.offerClosed l x) :=
  ite (h.updLane l _) (((h.updLane l _).countLane l ..).same rfl)

theorem closeStream (i : Fin 16) (r : ClosureReason) (b : Bool) : s.KeepsMeters (t.closeStream i r b) := by
  have freed := dropAll .queued .freedUnlaunched (t.slot i).queue h
  unfold State.closeStream
  dsimp only
  refine ite (State.KeepsMeters.updPort ?_ _) ?_ <;>
  · split
    · refine ite (freed.same rfl) (State.KeepsMeters.offerClosed ?_ ..)
      exact freed.same rfl
    · exact freed.same rfl

theorem closeIfDrained (i : Fin 16) : s.KeepsMeters (t.closeIfDrained i) := ite (h.closeStream ..) h

theorem closeTests (i : Fin 16) (testIdle : Bool) : s.KeepsMeters (t.closeTests i testIdle) :=
  ite (h.closeStream ..) (ite (h.closeStream ..) h)

theorem formHead (i : Fin 16) : s.KeepsMeters (t.formHead i) := h.updSlot i _

theorem refreshDue (i : Fin 16) : s.KeepsMeters (t.refreshDue i) := h.same rfl

theorem refreshAll : s.KeepsMeters t.refreshAll := foldl_keeps s.KeepsMeters _ (fun _ i hu => hu.refreshDue i) allSlots t h

theorem discardHead (i : Fin 16) : s.KeepsMeters (t.discardHead i) := by
  unfold State.discardHead
  split
  · exact h
  · exact (((h.dropHolder ..).updSlot i _).countSlot i ..).formHead i

theorem closeFrame (i : Fin 16) : s.KeepsMeters (t.closeFrame i) :=
  (((((dropAll _ _ _ h).updSlot i _).countSlot i ..).countSlot i ..).countSlot i ..).formHead i

theorem arm (i : Fin 16) : s.KeepsMeters (t.arm i) := (h.updSlot i _).formHead i

theorem grantCounts (i : Fin 16) (late urgent skipped : Bool) : s.KeepsMeters (t.grantCounts i late urgent skipped) := by
  have released := (h.countSlot i .released 1).countPart .launches 1
  have lateToo := ite (c := late) (released.countSlot i .late 1) released
  have urgentToo := ite (c := urgent) (lateToo.countSlot i .urgent 1) lateToo
  exact ite (urgentToo.countSlot i .skipped 1) urgentToo

theorem grant (i : Fin 16) (urgent : Bool) : s.KeepsMeters (t.grant i urgent) := by
  rcases t.grant_cases i urgent with e | ⟨n, rest, e, hd, _, _, _, hg⟩
  · rw [e]; exact h
  · have core : s.KeepsMeters (t.grantCore i n rest e hd) := h.same rfl
    rw [hg]
    exact (((core.grantCounts ..).formHead i).refreshDue i).closeIfDrained i

theorem choice : s.KeepsMeters t.choice := by
  rcases t.choice_cases with e | ⟨i, _, _, _, _, e⟩ | ⟨i, _, _, _, _, e⟩ <;> rw [e]
  · exact h
  · exact h.grant ..
  · exact h.grant ..

theorem settleSlot (i : Fin 16) : s.KeepsMeters (t.settleSlot i) := (h.refreshDue i).choice

theorem discardRun (i : Fin 16) (n : Nat) : s.KeepsMeters (t.discardRun i n) :=
  State.discardRun_keeps s.KeepsMeters i (fun _ hu => hu.discardHead i) n t h

theorem closeRun (i : Fin 16) (n : Nat) : s.KeepsMeters (t.closeRun i n) :=
  State.closeRun_keeps s.KeepsMeters i (fun _ hu => (hu.discardHead i).closeIfDrained i)
    (fun _ hu => (hu.closeFrame i).closeTests i true) n t h

theorem takePassed (i : Fin 16) : s.KeepsMeters (t.takePassed i) :=
  ite (h.arm i) (ite ((h.discardHead i).closeIfDrained i) ((h.closeFrame i).closeTests i false))

theorem passRun (n : Nat) : s.KeepsMeters (t.passRun n) :=
  State.passRun_keeps s.KeepsMeters (fun _ i hu => hu.takePassed i) n t h

/-! ## Path senders -/

theorem beginData (p : PathId) (w : WindowPlace) : s.KeepsMeters (t.beginData p w) := by
  unfold State.beginData
  exact h.updPath p _

theorem beginMark (p : PathId) (o : Byte) (r : PathSeq) : s.KeepsMeters (t.beginMark p o r) :=
  (h.updPath p _).countPath p .marksSent 1

theorem drain (p : PathId) : s.KeepsMeters (t.drain p) := h.same (by simp [State.meters])

theorem serveSending (p : PathId) : s.KeepsMeters (t.serveSending p) := by
  unfold State.serveSending
  split
  · exact h
  · exact ((h.updPath p _).countPath p ..).beginData p _

theorem returnToSending (p : PathId) : s.KeepsMeters (t.returnToSending p) :=
  ((h.updPath p _).drain p).serveSending p

theorem serveReplaying (p : PathId) : s.KeepsMeters (t.serveReplaying p) := by
  unfold State.serveReplaying
  dsimp only
  split
  · split
    · exact h
    · exact ((h.updPath p _).countPath p ..).beginData p _
  · exact h.returnToSending p

theorem endBurst (p : PathId) : s.KeepsMeters (t.endBurst p) :=
  ite ((h.updPath p _).serveReplaying p) (h.returnToSending p)

theorem serveMarking (p : PathId) : s.KeepsMeters (t.serveMarking p) :=
  ite ((h.updPath p _).beginMark p ..) (h.endBurst p)

theorem enterMarking (p : PathId) : s.KeepsMeters (t.enterMarking p) := (h.updPath p _).serveMarking p

theorem serveProbing (p : PathId) : s.KeepsMeters (t.serveProbing p) := (h.updPath p _).beginMark p ..

theorem serveLine (p : PathId) : s.KeepsMeters (t.serveLine p) := by
  unfold State.serveLine
  split
  · split
    case h_1 | h_2 => exact h
    case h_3 => exact h.serveProbing p
    case h_4 => exact h.serveSending p
    case h_5 => exact h.enterMarking p
    case h_6 => exact h.serveMarking p
    case h_7 => exact h.serveReplaying p
  · exact h

theorem releasePath (p : PathId) : s.KeepsMeters (t.releasePath p) := by
  unfold State.releasePath
  exact ((dropAll _ _ _ (dropAll _ _ _ h)).countPath p ..).updPath p _

theorem startProbing (p : PathId) : s.KeepsMeters (t.startProbing p) := (h.updPath p _).serveLine p

theorem enterProbing (p : PathId) : s.KeepsMeters (t.enterProbing p) := (h.startProbing p).latchPath p

theorem failPath (p : PathId) (r : FailReason) : s.KeepsMeters (t.failPath p r) :=
  (((h.countPath p .failures 1).releasePath p).updPath p _).latchPath p

theorem disablePath (p : PathId) : s.KeepsMeters (t.disablePath p) := ((h.releasePath p).updPath p _).latchPath p

theorem restartPath (p : PathId) : s.KeepsMeters (t.restartPath p) := ((h.releasePath p).updPath p _).enterProbing p

theorem takeEntry (p : PathId) (n tag : Nat) : s.KeepsMeters (t.takeEntry p n tag).1 := by
  rcases t.takeEntry_cases p n tag with ⟨_, _, _, e⟩ | ⟨_, _, e⟩ | ⟨_, _, e⟩ | ⟨_, e⟩ <;> rw [e] <;> dsimp only
  · exact h.updPath p _
  · exact h.updPath p _
  · exact h.countPath ..
  · exact h.countPath ..

theorem handTo (p : PathId) (fan : PathSet) (n tag : Nat) : s.KeepsMeters (t.handTo p fan n tag).1 := by
  unfold State.handTo
  split
  · exact h.takeEntry ..
  · exact h

theorem replaceService (n : Nat) (x y : Option Holder) : s.KeepsMeters (t.replaceService n x y) := by
  unfold State.replaceService
  split
  · exact h
  · exact ite (h.freeOne ..) (h.same rfl)

theorem goOn (p : PathId) (fan : PathSet) : s.KeepsMeters (t.goOn p fan) := ite ((h.drain p).serveLine p) h

theorem fanOut (v : Service) : s.KeepsMeters (t.fanOut v) := by
  unfold State.fanOut
  refine State.KeepsMeters.goOn (State.KeepsMeters.goOn ?_ .a v.fanOut) .b v.fanOut
  exact State.KeepsMeters.same (((h.handTo ..).handTo ..).replaceService ..) rfl

theorem endService : s.KeepsMeters t.endService := by
  unfold State.endService
  split
  · exact h
  · exact (h.fanOut _).choice

/-! ## STATUS frames, timers and polls -/

theorem acknowledge (p : PathId) (a : PathSeq) : s.KeepsMeters (t.acknowledge p a) :=
  ite (((dropAll _ _ _ h).countPath p ..).updPath p _) (ite h (h.countPath ..))

theorem breakRun (p : PathId) : s.KeepsMeters (t.breakRun p) := ite (h.updPath p _) h

theorem restartSilence (p : PathId) : s.KeepsMeters (t.restartSilence p) := h.updPath p _

theorem leaveProbing (p : PathId) : s.KeepsMeters (t.leaveProbing p) :=
  (((h.updPath p _).restartSilence p).latchPath p).serveLine p

theorem probeStatus (p : PathId) (r : StatusRecord) (lost : Nat) : s.KeepsMeters (t.probeStatus p r lost) :=
  ite (h.updPath p _) (ite ((h.updPath p _).leaveProbing p) (h.updPath p _))

theorem sendingStatus (p : PathId) (r : StatusRecord) : s.KeepsMeters (t.sendingStatus p r) := by
  have heard := (h.restartSilence p).acknowledge p r.ack
  unfold State.sendingStatus
  dsimp only
  split
  · split
    · exact ((heard.updPath p _).countPath p ..).serveLine p
    · exact ((heard.countPath p ..).drain p).serveLine p
  · exact ((heard.updPath p _).drain p).serveLine p

theorem repeatingStatus (p : PathId) (r : StatusRecord) : s.KeepsMeters (t.repeatingStatus p r) := by
  have heard := (h.restartSilence p).acknowledge p r.ack
  exact (ite (heard.countPath p ..) heard).serveLine p

theorem goodStatus (p : PathId) (r : StatusRecord) : s.KeepsMeters (t.goodStatus p r) := by
  have noted := ((h.countPath p .statusLost (reportsLost (t.path p).reportRef r.counter)).countPath p .statusGood 1).updPath
    p fun x => { x with reportRef := some r.counter, latest := some r }
  unfold State.goodStatus
  dsimp only
  split
  case h_1 | h_2 => exact noted
  case h_3 => exact noted.probeStatus ..
  case h_4 => exact noted.sendingStatus ..
  case h_5 | h_6 | h_7 => exact noted.repeatingStatus ..

theorem takeStatus (p : PathId) (bytes : List Byte) : s.KeepsMeters (t.takeStatus p bytes) :=
  ite (ite ((h.countPath ..).breakRun p) (h.goodStatus ..)) ((h.countPath ..).breakRun p)

theorem expireRepeat (p : PathId) : s.KeepsMeters (t.expireRepeat p) :=
  ite (ite (h.failPath ..) (((h.updPath p _).countPath p ..).serveLine p)) (h.updPath p _)

theorem startOwed (p : PathId) : s.KeepsMeters (t.startOwed p) := by
  unfold State.startOwed
  exact h.updPath p _

theorem moduleAnswered (p : PathId) (indicator : Bool) : s.KeepsMeters (t.moduleAnswered p indicator) :=
  (ite (h.updPath p _) (h.startOwed p)).updPath p _

theorem moduleRestarted (p : PathId) : s.KeepsMeters (t.moduleRestarted p) := by
  have wrote := (h.countPath p .moduleRestarts 1).updPath p fun x =>
    { x with poll := .writing (t.params.path p).settings (t.elapsed + Config.pollWait) }
  exact ite (wrote.failPath ..) (ite (wrote.updPath p _) wrote)

theorem missModule (p : PathId) : s.KeepsMeters (t.missModule p) := by
  unfold State.missModule
  split
  · exact h
  · exact ite ((h.updPath p _).latchPath p) (h.updPath p _)
  · exact h.failPath ..

theorem unansweredPoll (p : PathId) : s.KeepsMeters (t.unansweredPoll p) := by
  have missed := (h.updPath p fun x =>
    { x with
      poll := .idle
      unanswered := min (x.unanswered + 1) 255
      moduleAbsent := x.moduleAbsent || decide (3 ≤ min (x.unanswered + 1) 255) }).countPath p .pollsUnanswered 1
  exact ite (missed.missModule p) missed

/-! ## House Time -/

theorem stepEvent : s.KeepsMeters t.stepEvent := h.same rfl

theorem afterForward : s.KeepsMeters t.afterForward := by
  have moved := (h.passRun t.passFuel).stepEvent.refreshAll
  exact ite moved.endService moved.choice

theorem afterBackward : s.KeepsMeters t.afterBackward := h.stepEvent.refreshAll

/-- A small pulse in LOCKED moves the trim, which is clamped to its bound (R149); no other action of a pulse does. -/
theorem applyPulse (e : Int) (a : PulseAction) : s.KeepsMeters (t.applyPulse e a) := by
  unfold State.applyPulse
  cases a with
  | ordinary trimToo =>
    refine h.updHouse fun ht => ?_
    cases trimToo with
    | false => exact ht
    | true =>
      have clamped (x : Int) : -Config.trimMax ≤ trimAfter x e ∧ trimAfter x e ≤ Config.trimMax :=
        ⟨Int.le_max_left .., Int.max_le.mpr ⟨by decide, Int.min_le_left ..⟩⟩
      simp only [State.trimBounded, State.updHouse_house, House.setTrim, if_true]
      split
      · exact ht
      · exact clamped _
  | countBig => exact h.touchHouse _ rfl
  | retarget => exact h.touchHouse _ rfl
  | step => exact (State.KeepsMeters.countPart (h.touchHouse _ (by rfl)) ..).latch _
  | withhold => exact (State.KeepsMeters.countPart (h.touchHouse _ (by rfl)) ..).latch _

theorem lockOnPulse : s.KeepsMeters t.lockOnPulse := ite h (h.same rfl)

theorem pulsed (a : PulseAction) : s.KeepsMeters (t.pulsed a) := by
  have noted : s.KeepsMeters t.notePulse := (h.touchHouse _ rfl).countPart .pulses 1
  have acted := noted.applyPulse t.pulseError a
  have counted := ite (c := countsBig t.house t.pulseError) (acted.countPart .bigErrors 1) acted
  unfold State.pulsed
  exact counted.lockOnPulse.touchHouse _ rfl

theorem takePulse : s.KeepsMeters t.takePulse := by
  by_cases ha : pulseAction t.house t.params.stepEnable t.pulseError = .step
  · rw [State.takePulse_of_step ha]
    exact ite (h.pulsed .step).afterForward (h.pulsed .step).afterBackward
  · rw [State.takePulse_of_ne_step rfl ha]
    exact h.pulsed _

theorem pulse : s.KeepsMeters t.pulse := ite (h.countPart ..) (ite (h.countPart ..) h.takePulse)

theorem takeMiss : s.KeepsMeters t.takeMiss := by
  have missed := State.KeepsMeters.countPart
    (h.touchHouse
      (fun x =>
        { x with
          misses := min (x.misses + 1) 255
          pulseSecond := nextPulseSecond x.pulseSecond
          missExpiry := x.missExpiry.map fun x => x + Config.nextMiss }) rfl) .pulsesMissed 1
  exact ite (missed.same rfl) missed

theorem adjustHouse (back : Bool) : s.KeepsMeters (Machine.adjustHouse back t) := by
  cases back <;> exact h.same rfl

theorem takeTrim : s.KeepsMeters t.takeTrim := State.KeepsMeters.adjustHouse (h.touchHouse _ rfl) _

theorem takeSlew : s.KeepsMeters t.takeSlew := State.KeepsMeters.adjustHouse (h.touchHouse _ rfl) _

theorem passNanosecond : s.KeepsMeters (Machine.passNanosecond t) := ite (h.same rfl) (h.same rfl)

/-- A marker freezes the active bank and starts a zeroed one (R182). -/
theorem takeMarker : s.KeepsMeters t.takeMarker := by
  unfold State.takeMarker
  split
  · exact h
  · exact ⟨fun hs => ⟨Bank.zero_bounded, (h.counters hs).1⟩, h.trim⟩

/-! ## Lanes -/

theorem badRecord (l : Fin 4) : s.KeepsMeters (t.badRecord l) := ((h.updLane l _).countLane l ..).same rfl

theorem sequenced {u : State} {l : Fin 4} {q : LaneSeq} (hu : t.sequenced l q = some u) : s.KeepsMeters u := by
  have noted : s.KeepsMeters (t.noteTaken l q) := (h.updLane l _).countLane l ..
  rcases t.sequenced_cases l q with ⟨_, e⟩ | ⟨_, _, _, _, e⟩ | ⟨_, _, _, e⟩ <;> rw [e] at hu <;> cases hu
  · exact noted
  · exact noted.countLane l ..

theorem refund (l : Fin 4) (c : Nat) : s.KeepsMeters (t.refund l c) := ite (h.updLane l _) h

theorem dropPacket (l : Fin 4) (c : Nat) (k : LaneCounter) : s.KeepsMeters (t.dropPacket l c k) :=
  (h.countLane l k 1).refund l c

theorem markTailFull (i : Fin 16) : s.KeepsMeters (t.markTailFull i) := by
  unfold State.markTailFull
  split
  · exact h
  · split
    · exact h
    · refine ite h (State.KeepsMeters.countSlot ?_ i ..)
      exact h.same rfl

theorem takeOpen (own : Owner) (o : OpenParams) (req : Option Nat) (reg : Option (Nat × Nat)) (bad : Bool) :
    s.KeepsMeters (t.takeOpen own o req reg bad).1 := by
  rcases t.takeOpen_cases own o req reg bad with ⟨_, e⟩ | ⟨_, _, _, e⟩ | ⟨_, _, _, _, e⟩ | ⟨_, _, _, _, _, _, e⟩ <;> rw [e]
  · exact h
  · exact h
  · exact h
  · exact h.same rfl

theorem dispatchOpen (l : Fin 4) (o : OpenParams) : s.KeepsMeters (t.dispatchOpen l o) :=
  ite ((h.takeOpen ..).updLane l _) (h.countLane ..)

theorem takeClose (i : Fin 16) (now : Bool) : s.KeepsMeters (t.takeClose i now) := by
  unfold State.takeClose
  split
  · exact h
  · exact h.closeStream ..
  · exact ite (h.closeStream ..) ((h.updSlot i _).closeIfDrained i)
  · exact ite (h.closeStream ..) h

theorem dispatchClose (l : Fin 4) (c : CloseRecord) : s.KeepsMeters (t.dispatchClose l c) := by
  refine ite ?_ (h.countLane ..)
  split
  · exact ite (h.takeClose ..) (h.countLane ..)
  · exact h

theorem fill (n : Nat) (i : Fin 16) (o : Owner) (f k : Nat) (b : List Byte) (g : ConditionFlags) :
    s.KeepsMeters (t.fill n i o f k b g) := by
  unfold State.fill
  refine State.KeepsMeters.peakPart (State.KeepsMeters.peakPart (State.KeepsMeters.countPart ?_ ..) ..) ..
  cases o <;> exact h.same rfl

theorem countIf (i : Fin 16) (flag : Bool) (c : SlotCounter) : s.KeepsMeters (t.countIf i flag c) :=
  ite (h.countSlot ..) h

theorem countFlags (i : Fin 16) (g : ConditionFlags) : s.KeepsMeters (t.countFlags i g) :=
  ((((h.countIf i _ _).countIf i _ _).countIf i _ _).countIf i _ _).countIf i _ _

theorem accept (n : Nat) (i : Fin 16) (o : Owner) (f k : Nat) (b : List Byte) (x y w : Bool) :
    s.KeepsMeters (t.accept n i o f k b x y w) := by
  have filed := ((h.fill n i o f k b (acceptFlags (t.slot i) f k x y w)).updSlot i fun u =>
    { u with
      intake := acceptRecord u.intake f k y
      arrived := if f = u.fc then u.arrived + 1 else u.arrived }).countFlags i (acceptFlags (t.slot i) f k x y w)
  exact ite ((filed.formHead i).settleSlot i) filed

theorem applyVerdict (l : Fin 4) (i : Fin 16) (p : PacketRecord) (v : PacketVerdict) :
    s.KeepsMeters (t.applyVerdict l i p v) := by
  cases v with
  | drop c => exact h.dropPacket ..
  | noCredit => exact h.countLane ..
  | queueFull => exact (h.dropPacket ..).markTailFull i
  | intake e => exact (h.countSlot ..).refund ..
  | accept n f => exact (h.countLane ..).accept ..

theorem dispatchPacket {l : Fin 4} {p : PacketRecord} {u : State} (hu : t.dispatchPacket l p = .next u) :
    s.KeepsMeters u := by
  unfold State.dispatchPacket at hu
  dsimp only at hu
  split at hu
  · split at hu <;> cases hu
    exact h.applyVerdict ..
  · cases hu; exact h

theorem closeLaneStreams (l : Fin 4) (b : Bool) : s.KeepsMeters (t.closeLaneStreams l b) :=
  foldl_keeps s.KeepsMeters _ (fun _ i hu => by
    split
    · exact hu.closeStream i .laneReset b
    · exact hu) allSlots t h

theorem queueLaneReady (l : Fin 4) (n : Nat) : s.KeepsMeters (t.queueLaneReady l n) := h.same rfl

theorem resetLane (l : Fin 4) (b : Bool) : s.KeepsMeters (t.resetLane l b) :=
  ((h.closeLaneStreams l b).updLane l _).queueLaneReady l _

theorem takeBatch (l : Fin 4) : s.KeepsMeters (t.takeBatch l) := (h.updLane l _).countLane l ..

theorem beginSend (l : Fin 4) : s.KeepsMeters (t.beginSend l) := h.same (by simp [State.meters])

theorem driveReady (l : Fin 4) (v : Option Bool) : s.KeepsMeters (t.driveReady l v) := by
  cases v with
  | none => exact h
  | some v => exact h.same rfl

/-! ## The Pattern Source -/

theorem generateNext (i : Fin 16) : s.KeepsMeters (t.generateNext i) := by
  have moved := (h.updPattern fun p =>
    { p with nextFrame := (t.nextPacket i).1, nextIndex := (t.nextPacket i).2.1 }).countPart .framesSkipped
      (t.nextPacket i).2.2
  unfold State.generateNext
  dsimp only
  split
  · exact (moved.updPattern _).countPart ..
  · split
    · exact (moved.updPattern _).countSlot ..
    · exact ((moved.updPattern _).countPart ..).accept ..

theorem generate {i : Fin 16} {u : State} (hu : t.generate i = .next u) : s.KeepsMeters u := by
  unfold State.generate at hu
  split at hu <;> cases hu
  exact h.generateNext i

theorem resumed (r : State) : s.KeepsMeters (r.resumed t) :=
  State.resumed_keeps s.KeepsMeters (fun i _ hu _ _ => hu.generateNext i) r t h

/-! ## CLEAR, quotas and reloads -/

theorem clearPath (p : PathId) : s.KeepsMeters (t.clearPath p) := ite (h.updPath p _) ((h.updPath p _).enterProbing p)

theorem clearStreams : s.KeepsMeters t.clearStreams :=
  foldl_keeps s.KeepsMeters _ (fun _ i hu => by
    split
    · exact hu.closeStream i .cleared false
    · exact hu) allSlots t h

theorem clearCells : s.KeepsMeters t.clearCells := by
  unfold State.clearCells
  refine foldl_keeps s.KeepsMeters _ (fun _ l hu => (hu.updLane l _).queueLaneReady l _) allLanes _ ?_
  exact h.same rfl

/-- CLEAR zeroes both banks at its end (R182). -/
theorem clearBanks : s.KeepsMeters t.clearBanks := ⟨fun _ => ⟨Bank.zero_bounded, Bank.zero_bounded⟩, h.trim⟩

theorem clearAll : s.KeepsMeters t.clearAll := by
  have emptied : s.KeepsMeters t.clearQueues := h.same rfl
  exact ((emptied.clearStreams.clearCells.clearPath .a).clearPath .b).clearBanks

theorem takeQuota (o : Owner) (v : Nat) : s.KeepsMeters (t.takeQuota o v) := by
  cases o <;> exact h.same rfl

theorem reloadQuota (image : Params) (o : Owner) : s.KeepsMeters (t.reloadQuota image o) := ite h (h.takeQuota ..)

theorem reloadQuotas (image : Params) : s.KeepsMeters (t.reloadQuotas image) :=
  ite h ((foldl_keeps s.KeepsMeters _ (fun _ _ hu => hu.reloadQuota ..) allLanes t h).reloadQuota ..)

theorem followEnable (p : PathId) : s.KeepsMeters (t.followEnable p) := ite (h.enterProbing p) h

theorem followDisable (p : PathId) : s.KeepsMeters (t.followDisable p) := ite h (h.disablePath p)

theorem followFlag (p : PathId) : s.KeepsMeters (t.followFlag p) := ite (h.followEnable p) (h.followDisable p)

theorem reload (image : Params) : s.KeepsMeters (t.reload image) :=
  (((h.updParams _).reloadQuotas image).followFlag .a).followFlag .b

theorem endLong (code : Byte) (r : Option RefusalCode) : s.KeepsMeters (t.endLong code r) := h.same rfl

theorem finishRecall : s.KeepsMeters t.finishRecall :=
  ite (((h.updPort _).reload _).endLong ..) (((h.updPort _).endLong ..).latch _)

theorem startPath (p : PathId) : s.KeepsMeters (t.startPath p) := ite (h.startProbing p) h

theorem announceQuotas (ls : List (Fin 4)) : s.KeepsMeters (t.announceQuotas ls) :=
  foldl_keeps s.KeepsMeters _ (fun _ _ hu => hu.takeQuota ..) ls t h

theorem finishLoad : s.KeepsMeters t.finishLoad := by
  have loaded : s.KeepsMeters t.paramsLoaded := ite (h.same rfl) (h.same rfl)
  have emptied : s.KeepsMeters t.paramsLoaded.clearQueues := loaded.same rfl
  have lanes : s.KeepsMeters t.lanesLoaded := emptied.announceQuotas allLanes
  rw [State.finishLoad_eq]
  exact (((lanes.takeQuota .pattern _).startPath .a).startPath .b).same rfl

/-! ## Commands of the host -/

omit h in
theorem answered {u : State} (hu : s.KeepsMeters u) : s.KeepsMeters (answerDone u).1 := hu

theorem withArgSlot {f : Fin 16 → CommandAnswer} (hf : ∀ i, s.KeepsMeters (f i).1) :
    s.KeepsMeters (t.withArgSlot f).1 := by
  unfold State.withArgSlot
  split
  · exact hf _
  · exact h

theorem withArgPath {f : PathId → CommandAnswer} (hf : ∀ p, s.KeepsMeters (f p).1) :
    s.KeepsMeters (t.withArgPath f).1 := by
  unfold State.withArgPath
  split
  · exact hf _
  · split
    · exact hf _
    · exact h

theorem cmdStreamHold : s.KeepsMeters (Machine.cmdStreamHold t).1 :=
  h.withArgSlot fun i => by split <;> exact h.same rfl

theorem cmdStreamUnhold : s.KeepsMeters (Machine.cmdStreamUnhold t).1 :=
  h.withArgSlot fun i => by
    split
    · refine answered (State.KeepsMeters.settleSlot ?_ i)
      exact h.same rfl
    · exact h

theorem cmdStreamClose : s.KeepsMeters (Machine.cmdStreamClose t).1 :=
  h.withArgSlot fun i => by
    split
    · exact answered (h.closeStream ..)
    · exact h

theorem cmdRotationMode : s.KeepsMeters (Machine.cmdRotationMode t).1 := by
  unfold Machine.cmdRotationMode
  split
  · exact h.same rfl
  · split <;> exact h.same rfl

theorem cmdLaneReset : s.KeepsMeters (Machine.cmdLaneReset t).1 := by
  unfold Machine.cmdLaneReset
  split
  · exact h.resetLane ..
  · exact h

theorem cmdPathRestart : s.KeepsMeters (Machine.cmdPathRestart t).1 :=
  h.withArgPath fun p => by
    split
    · exact h
    · exact h.restartPath p

theorem cmdPatternOpen : s.KeepsMeters (Machine.cmdPatternOpen t).1 := by
  unfold Machine.cmdPatternOpen
  split
  · exact h
  · dsimp only
    generalize ha : t.takeOpen _ _ _ _ _ = a
    have opened : s.KeepsMeters a.1 := ha ▸ h.takeOpen ..
    rcases a with ⟨u, e | r⟩
    · exact opened
    · exact opened.same rfl

theorem cmdPatternClose : s.KeepsMeters (Machine.cmdPatternClose t).1 := by
  unfold Machine.cmdPatternClose
  split
  · exact h
  · exact answered (h.closeStream ..)

theorem takeCommand (code : Byte) : s.KeepsMeters (t.takeCommand code) := by
  have done {a : CommandAnswer} (ha : s.KeepsMeters a.1) : s.KeepsMeters (State.finishCommand code a) := by
    rcases a with ⟨u, _ | _⟩ <;> exact ha.same rfl
  exact ite h <| ite h <| ite (done h.clearAll) <| ite (h.updPort _) <| ite (h.updPort _)
    <| ite (done (h.withArgPath fun p => (h.updParams _).followEnable p))
    <| ite (done (h.withArgPath fun p => (h.updParams _).followDisable p)) <| ite (done h.cmdPathRestart)
    <| ite (done h.cmdStreamHold) <| ite (done h.cmdStreamUnhold) <| ite (done h.cmdStreamClose)
    <| ite (done (h.withArgSlot fun _ => h.same rfl)) <| ite (done h.cmdRotationMode) <| ite (done h.cmdLaneReset)
    <| ite (done h.cmdPatternOpen) <| ite (done h.cmdPatternClose) (done h)

/-! ## Transactions of the port -/

theorem putByte (b : Byte) : s.KeepsMeters (t.putByte b) := by
  have effect : s.KeepsMeters (t.byteEffect t.port.page t.port.offset b) :=
    ite (h.same rfl) (ite (h.takeCommand b) (ite (h.updPort _) h))
  exact (effect.updPort _).resumed t

/-- An item of a row counts nothing, and none is the trim (R173). -/
theorem itemTake {take : State → Nat → ItemAnswer} (hk : IsItemTake take) (v : Nat) : s.KeepsMeters (take t v).1 := by
  cases hk with
  | param f => exact h.same rfl
  | rate =>
    unfold takeRate
    split
    · exact h
    · split <;> exact h.same rfl
  | reserve =>
    unfold takeReserve
    split <;> exact h.same rfl
  | pulseSecond => exact h.same rfl
  | quota o =>
    unfold takeQuotaItem
    split
    · exact h
    · split
      · exact h
      · cases o with
        | pattern => exact h.takeQuota .pattern v
        | lane l =>
          dsimp only
          split
          · exact h.takeQuota (.lane l) v
          · exact h
  | slotSelector =>
    unfold takeSlotSelector
    split <;> exact h.same rfl
  | groupSelector =>
    unfold takeGroupSelector
    split <;> exact h.same rfl

omit h in
theorem takeItems {t : State} (h : s.KeepsMeters t) {w : List (Nat × Byte)} {items : List (State → ItemAnswer)}
    (hi : IsItemRow w items) : s.KeepsMeters (Machine.takeItems t items).1 := by
  induction items generalizing t with
  | nil => exact h
  | cons f fs ih =>
    obtain ⟨⟨page, off, len, take, hk, rfl⟩, hfs⟩ := List.forall_mem_cons.mp hi
    refine ih ?_ hfs
    change s.KeepsMeters (t.takeItem w page off len take).1
    unfold State.takeItem
    split
    · exact h
    · exact h.itemTake hk _

theorem rowEvent (w : List (Nat × Byte)) (page row : Nat) : s.KeepsMeters (t.rowEvent w page row) := by
  unfold State.rowEvent
  split
  · rename_i items hi
    exact ((h.takeItems (rowItems_isItemRow w page row items hi)).updPort _).resumed t
  · refine ite (ite (h.updPort _) h) (ite (h.updPort _) (ite ?_ h))
    split
    · exact h
    · exact h.updPort _

theorem hostWrite (bytes : List Byte) : s.KeepsMeters (t.hostWrite bytes) := by
  refine ite h ?_
  unfold State.acceptWrite
  split
  · exact h.updPort _
  · exact (h.updPort _).updPort _
  · rename_i p o data
    have pointed : s.KeepsMeters ((t.endRead.takePage p).takeOffset o) := ((h.updPort _).updPort _).updPort _
    cases data with
    | nil => exact pointed
    | cons b bs => exact (foldl_keeps s.KeepsMeters _ (fun _ b hu => hu.putByte b) _ _ pointed).rowEvent ..

theorem writeAt (page off : Nat) (data : List Byte) : s.KeepsMeters (t.writeAt page off data) := ite h (h.hostWrite _)

omit h in
theorem readMany {t : State} (h : s.KeepsMeters t) (n : Nat) : s.KeepsMeters (t.readMany n) := by
  induction n generalizing t with
  | zero => exact h
  | succ n ih =>
    refine ih ?_
    unfold State.readOne
    split
    · exact h
    · exact h.updPort _

theorem hostRead (starts : Bool) (count : Nat) (ends : Bool) : s.KeepsMeters (t.hostRead starts count ends) := by
  have given := (ite (c := starts) (h.updPort fun q => { q with reading := some ⟨none, none⟩, readOut := [] }) h).readMany
    count
  exact ite h (ite (given.updPort _) given)

end

/-! ## Commands and steps -/

/-- Power-on and a loss of power zero the banks and the trim (R148, R182). -/
theorem powerUp (s : State) : s.KeepsMeters s.powerUp :=
  ⟨fun _ => ⟨Bank.zero_bounded, Bank.zero_bounded⟩, fun _ => (by decide : State.reset.trimBounded)⟩

/-- An event that is due, and one that is not. -/
theorem whenDue {s t : State} {due : Bool} {f : State → State} (ht : Machine.whenDue due f s = .next t)
    (hf : s.KeepsMeters (f s)) : s.KeepsMeters t :=
  whenDue_keeps s.KeepsMeters (.refl s) (fun _ _ => hf) ht

theorem whenDueResuming {s t : State} {due : Bool} {f : State → State} (ht : Machine.whenDueResuming due f s = .next t)
    (hf : s.KeepsMeters (f s)) : s.KeepsMeters t := whenDue ht (hf.resumed s)

/-- A record of a lane, by its form, its sequence and what its dispatch does. -/
theorem record {s t : State} {l : Fin 4} {q : LaneSeq} {form : Bool} {f : State → Result}
    (ht : s.takeRecord l form q f = .next t) (hf : ∀ u, s.KeepsMeters u → f u = .next t → s.KeepsMeters t) :
    s.KeepsMeters t := by
  have h := State.KeepsMeters.refl s
  unfold State.takeRecord at ht
  split at ht
  · cases ht; exact h
  · split at ht
    · cases ht; exact h.badRecord l
    · split at ht
      · cases ht; exact h.countLane ..
      · rename_i u hu
        exact hf u (h.sequenced hu) ht

/-- Every command keeps the counters and the trim within their bounds. -/
theorem exec {c : Instr} {s t : State} (ht : exec c s = .next t) : s.KeepsMeters t := by
  have h := State.KeepsMeters.refl s
  have now {u : State} (e : Host.Outcome.next u = (.next t : Result)) (hu : s.KeepsMeters u) : s.KeepsMeters t := by
    cases e; exact hu
  unfold Machine.exec at ht
  cases c with
  | powerOn => exact now ht (ite h (powerUp s))
  | powerOnLoad => exact now ht (ite h.finishLoad h)
  | powerFail => exact now ht (ite ((powerUp s).same rfl) h)
  | openRecord l bytes => exact record ht fun u hu e => now e (hu.dispatchOpen ..)
  | packetRecord l bytes => exact record ht fun u hu e => hu.dispatchPacket e
  | closeRecord l bytes => exact record ht fun u hu e => now e ((hu.dispatchClose ..).resumed s)
  | laneResetRecord l bytes =>
    change Machine.exec (.laneResetRecord l bytes) s = _ at ht
    rw [exec_laneResetRecord] at ht
    exact now ht (ite h (ite (h.badRecord l) (((h.countLane ..).resetLane ..).resumed s)))
  | noticeSendBegin l ready => exact whenDue ht (ite ((h.driveReady l ready).beginSend l) (h.driveReady l ready))
  | noticeSendComplete l => exact whenDue ht (h.updLane l _)
  | creditTimerExpiry l => exact whenDue ht (h.updLane l _)
  | creditBatch l => exact whenDue ht (h.takeBatch l)
  | armingExpiry i => exact whenDueResuming ht ((h.arm i).settleSlot i)
  | eligibilityInstant i => exact whenDueResuming ht (h.settleSlot i)
  | discardExpiry i => exact whenDueResuming ht (((h.discardRun i _).closeIfDrained i).settleSlot i)
  | frameClose i => exact whenDueResuming ht ((h.closeRun i _).settleSlot i)
  | endOfService => exact whenDueResuming ht h.endService
  | statusFrame p bytes => exact whenDueResuming ht (h.takeStatus p bytes)
  | silenceExpiry p => exact whenDueResuming ht (h.failPath p .silent)
  | holdoffExpiry p => exact whenDue ht (h.enterProbing p)
  | repeatTimerExpiry p => exact whenDueResuming ht (h.expireRepeat p)
  | lineFrameEnd p => exact whenDue ht ((h.updPath p _).serveLine p)
  | modulePoll p => exact whenDue ht (h.updPath p _)
  | moduleReadAnswer p indicator =>
    exact whenDueResuming ht (ite ((h.moduleAnswered p true).moduleRestarted p) (h.moduleAnswered p false))
  | moduleSettingsAnswer p => exact whenDue ht ((h.startOwed p).updPath p _)
  | moduleClearAnswer p => exact whenDue ht (h.updPath p _)
  | pollUnanswered p => exact whenDueResuming ht (h.unansweredPoll p)
  | referencePulse => exact whenDueResuming ht h.pulse
  | pulseMissExpiry => exact whenDue ht h.takeMiss
  | trimAdjustment => exact whenDue ht h.takeTrim
  | slewAdjustment => exact whenDue ht h.takeSlew
  | secondMarker => exact whenDue ht h.takeMarker
  | patternGeneration =>
    change execPatternGeneration s = _ at ht
    unfold execPatternGeneration at ht
    split at ht
    · exact now ht h
    · split at ht
      · exact h.generate ht
      · exact now ht h
  | storeEnd readsBack =>
    change execStoreEnd readsBack s = _ at ht
    unfold execStoreEnd at ht
    split at ht
    · exact now ht (h.same rfl)
    · exact now ht h
  | recallEnd =>
    change execRecallEnd s = _ at ht
    unfold execRecallEnd at ht
    split at ht
    · exact now ht (h.finishRecall.resumed s)
    · exact now ht h
  | badCommand code => exact now ht (ite (h.writeAt ..) h)
  | pathParameterWrite p x => cases x <;> exact now ht (h.writeAt ..)
  | repeatParameterWrite x => cases x <;> exact now ht (h.writeAt ..)
  | counterSelectorWrite page v => cases page <;> exact now ht (h.writeAt ..)
  | patternMemoryWrite v => exact now ht (ite (h.putByte v) h)
  | snapshotRead target starts count ends =>
    change execSnapshotRead target starts count ends s = _ at ht
    unfold execSnapshotRead at ht
    split at ht
    · exact now ht h
    · split at ht
      · exact now ht (h.updPort _)
      · exact now ht (h.hostRead ..)
  | registerWrite target bytes =>
    change execRegisterWrite target bytes s = _ at ht
    unfold execRegisterWrite at ht
    split at ht
    · exact now ht h
    · split at ht
      · exact now ht (h.hostWrite bytes)
      · exact now ht (h.updPort _)
  | _ => exact now ht (h.writeAt ..)

/-- Every step keeps the counters and the trim within their bounds. -/
theorem step {s t : State} (ht : step s = .next t) : s.KeepsMeters t := by
  have h := State.KeepsMeters.refl s
  unfold Machine.step at ht
  split at ht
  · cases ht
    rcases s.tick_cases with ⟨_, e⟩ | ⟨_, _, e⟩ | ⟨_, _, _, e⟩ <;> rw [e]
    · exact h
    · exact h.passNanosecond
    · exact h.same rfl
  · rename_i c rest _
    obtain ⟨counters, trim⟩ := exec (s := { s with pending := rest }) ht
    exact ⟨counters, trim⟩

end State.KeepsMeters

/-- Settles O8: a counter moves by a saturating count, and the trim by a clamped change. -/
theorem stepKeepsCountersAndTrimBounded : Obligations.StepKeepsCountersAndTrimBounded :=
  ⟨fun _ _ hs ht => (State.KeepsMeters.step ht).counters hs, fun _ _ hs ht => (State.KeepsMeters.step ht).trim hs⟩

end Sys2Proof.Machine

/-!
PROOF. Power: the state a part comes to power with, what a loss of power leaves, and a part without power (chapters 1
and 11): O10, O12, O14.
-/

namespace Sys2Proof.Machine

open Sys2Proof

/-! ## The state after power-on (R179) -/

@[simp] theorem State.slot_reset (i : Fin 16) : State.reset.slot i = Slot.blank := Vector.getElem_replicate ..

@[simp] theorem State.lane_reset (l : Fin 4) : State.reset.lane l = Lane.blank := Vector.getElem_replicate ..

@[simp] theorem State.path_reset (p : PathId) : State.reset.path p = Path.blank := by cases p <;> rfl

/-- Before the part is up no entry is live, no slot is open, and no account has its quota yet. -/
theorem State.accountsSound_reset : State.reset.accountsSound :=
  ⟨⟨.nil, fun _ he => nomatch he⟩, fun _ => ⟨rfl, rfl, fun i => by rw [State.slot_reset]; rfl⟩, fun h => absurd h (by decide),
    fun i hi => absurd (congrArg Slot.state (State.slot_reset i)) hi⟩

theorem State.sumsSound_reset : State.reset.sumsSound := by
  refine ⟨rfl, rfl, Nat.zero_le _, Nat.zero_le _, fun i _ => ?load, fun _ i => ?state⟩
  case load => rw [State.slot_reset]; exact ⟨rfl, rfl⟩
  case state => rw [State.slot_reset]; rfl

/-- Settles O10: the blocks at power-on are blank, and the accounts' laws bind once the part is up. -/
theorem resetMeetsTheInvariants : Obligations.ResetMeetsTheInvariants := by
  refine ⟨⟨rfl, rfl⟩, arbiterLaw_ringWhole.reset, fun l => ?notices, fun p => ?paths, by decide,
    arbiterLaw_heldNotDue.reset, ⟨Bank.zero_bounded, Bank.zero_bounded⟩, State.accountsSound_reset,
    State.sumsSound_reset⟩
  case notices => rw [State.lane_reset]; exact Nat.zero_le _
  case paths => rw [State.path_reset]; exact ⟨Nat.zero_le _, Nat.zero_le _⟩

/-! ## Power-on (R179) -/

theorem State.powered_of_off {s : State} (h : s.power = .off) : s.powered = false := by simp [State.powered, h]

/-- A STORE alone lets a loss of power touch the store (R176). -/
theorem State.storeAfterLoss_of_not_storing {s : State} (h : ∀ image since, s.port.busy ≠ some (.store image since)) :
    s.storeAfterLoss = s.store := by
  unfold State.storeAfterLoss
  split
  · rename_i image since hb
    exact absurd hb (h image since)
  · rfl

/-- Settles O12: the power-on state of the blocks, beside what stays of the memories. -/
theorem powerOnSetsThePowerOnState : Obligations.PowerOnSetsThePowerOnState := by
  intro s hoff hbusy
  have hstore : s.storeAfterLoss = s.store := State.storeAfterLoss_of_not_storing (by simp [hbusy])
  have hexec : exec .powerOn s = .next s.powerUp := congrArg _ (if_neg (by simp [State.powered_of_off hoff]))
  rw [hexec, State.powerUp, hstore]

/-! ## The check word of an image (R176, R185) -/

theorem pathImage_length (q : PathParams) : (pathImage q).length = 22 := by simp [pathImage]

theorem imageBody_length (q : Params) : (imageBody q).length = imageLength := by
  simp [imageBody, pathImage_length, List.length_flatMap]

/-- A word is not its complement. -/
theorem toNat_not_ne (x : BitVec 32) : (~~~x).toNat ≠ x.toNat := by
  have := x.isLt
  rw [BitVec.toNat_not]
  omega

/-- A store holds its image with the check word it was given: the image's own, or its complement (log entry 7). -/
theorem Store.valid_holding (image : Params) (good : Bool) : (Store.holding image good).valid = good := by
  have hlen := imageBody_length image
  have hword (w : BitVec 32) : field (imageBody image ++ leBytes 4 w.toNat) imageLength 4 = w.toNat := by
    have hw : w.toNat % 256 ^ 4 = w.toNat := Nat.mod_eq_of_lt w.isLt
    rw [field, ← hlen, List.drop_left, List.take_of_length_le (by simp), leNat_leBytes, hw]
  have hrange (w : BitVec 32) : checkRange (imageBody image ++ leBytes 4 w.toNat) imageLength = imageBody image := by
    rw [checkRange, ← hlen, List.take_left, List.drop_eq_nil_of_le (by simp), List.append_nil]
  cases good with
  | false =>
    have hheld : Store.holding image false = ⟨imageBody image ++ leBytes 4 (~~~(crc (imageBody image))).toNat⟩ := rfl
    rw [Store.valid, checkGood, hheld, hword, hrange]
    exact decide_eq_false (toNat_not_ne _)
  | true =>
    have hheld : Store.holding image true = ⟨imageBody image ++ leBytes 4 (crc (imageBody image)).toNat⟩ := rfl
    rw [Store.valid, checkGood, hheld, hword, hrange]
    exact decide_eq_true rfl

/-! ## A part without power (log entry 9) -/

section

variable {s : State} (h : s.power = .off)
include h

theorem not_due_of_off (due : Bool) : ¬ (s.powered && due) = true := by simp [State.powered_of_off h]

theorem State.up_of_off : s.up = false := by simp [State.up, h]

theorem State.silent_of_off : s.silent = true := by simp [State.silent, State.up_of_off h]

theorem State.writeAt_off (page off : Nat) (data : List Byte) : s.writeAt page off data = s := by
  unfold State.writeAt
  split
  · rfl
  · exact s.hostWrite_silent _ (State.silent_of_off h)

/-- No command but POWER_ON acts: the lanes take no record, nothing is due, and the port is silent. -/
theorem exec_off {c : Instr} (hc : c ≠ .powerOn) : exec c s = .next s := by
  have hup := State.up_of_off h
  have hsilent := State.silent_of_off h
  have write (page off : Nat) (data : List Byte) : Host.Outcome.next (s.writeAt page off data) = (.next s : Result) :=
    congrArg _ (State.writeAt_off h page off data)
  cases c with
  | powerOn => exact absurd rfl hc
  | powerOnLoad => exact congrArg _ (if_neg (by simp [h]))
  | powerFail => exact congrArg _ (if_neg (by simp [State.powered_of_off h]))
  | openRecord | packetRecord | closeRecord | laneResetRecord => exact if_pos (by rw [hup]; rfl)
  | noticeSendBegin | noticeSendComplete | creditTimerExpiry | creditBatch | holdoffExpiry | lineFrameEnd | modulePoll
  | moduleSettingsAnswer | moduleClearAnswer | pulseMissExpiry | trimAdjustment | slewAdjustment | secondMarker
  | armingExpiry | eligibilityInstant | discardExpiry | frameClose | endOfService | statusFrame | silenceExpiry
  | repeatTimerExpiry | moduleReadAnswer | pollUnanswered | referencePulse => exact congrArg Host.Outcome.next (if_neg (not_due_of_off h _))
  | patternGeneration =>
    change execPatternGeneration s = _
    unfold execPatternGeneration
    split
    · rfl
    · rw [State.powered_of_off h]; rfl
  | storeEnd | recallEnd =>
    simp [exec, execStoreEnd, execRecallEnd, hup]
  | badCommand code => exact congrArg _ (ite_eq_right_iff.mpr fun _ => State.writeAt_off h ..)
  | pathParameterWrite p x => cases x <;> exact write ..
  | repeatParameterWrite x => cases x <;> exact write ..
  | counterSelectorWrite page v => cases page <;> exact write ..
  | patternMemoryWrite => exact congrArg _ (if_neg (by simp [hsilent]))
  | snapshotRead | registerWrite => exact if_pos hsilent
  | _ => exact write ..

end

/-- Settles O14: a loss of power sets the power-on values, and fails the image of a STORE in progress. -/
theorem powerFailEndsActivity : Obligations.PowerFailEndsActivity := by
  refine ⟨fun s hon => ?fail, fun c s hoff hc => exec_off hoff hc⟩
  have hexec : exec .powerFail s = .next { s.powerUp with power := .off } :=
    congrArg _ (if_pos (by simp [State.powered, hon]))
  refine ⟨_, hexec, rfl, rfl, fun image since hb => ?storing, fun hb => State.storeAfterLoss_of_not_storing hb⟩
  have hstore : s.storeAfterLoss = .holding image false := by rw [State.storeAfterLoss, hb]
  exact ⟨hstore, (congrArg Store.valid hstore).trans (Store.valid_holding image false)⟩

end Sys2Proof.Machine

/-!
PROOF. Write transactions of the management port: its own items, the pointer, and the parameter writes and commands they
spell (chapter 11): O59.
-/

namespace Sys2Proof.Machine

open Sys2Proof

/-! ## The interrupt line (R181) -/

/-- A byte is zero when each of its bits is clear. -/
theorem ne_zero_iff_exists_bit (v : BitVec 8) : v ≠ 0 ↔ ∃ k < 8, v.getLsbD k = true := by
  refine ⟨fun h => ?_, fun ⟨k, _, hk⟩ h => ?_⟩
  · by_contra hbits
    refine h (BitVec.eq_of_getLsbD_eq fun k hk => ?_)
    have hclear : ¬ v.getLsbD k = true := fun e => hbits ⟨k, hk, e⟩
    simpa using hclear
  · simp [h] at hk

theorem State.interruptLine_iff (s : State) :
    s.interruptLine = true ↔ ∃ k < 8, s.port.causes.getLsbD k = true ∧ s.port.mask.getLsbD k = false := by
  rw [State.interruptLine, decide_eq_true_eq, ne_zero_iff_exists_bit]
  refine exists_congr fun k => and_congr_right fun hk => ?_
  rw [BitVec.getLsbD_and, BitVec.getLsbD_not, Bool.and_eq_true, Bool.and_eq_true, Bool.not_eq_true', decide_eq_true_eq]
  exact and_congr_right fun _ => and_iff_right hk

/-! ## The port's own items (R172, R180, R181) -/

/-- A ready port takes one byte of a page below the pattern memory at its row's end. -/
theorem State.writeAt_byte {s : State} (h : s.hostReady) {page off : Nat} (hlow : page < 32) (hone : page ≠ 1)
    (hoff : off < 256) (v : Byte) :
    s.writeAt page off [v] = (s.pointed page (nextInRow off)).rowEvent [(off, v)] page (off / 16) := by
  obtain ⟨-, -, hext⟩ := id h
  have hpoint : (s.updPort fun q => { q with page := page, offset := off, extension := false, reading := none }) =
      s.pointed page off := by
    rw [← hext]
    rfl
  have hput : (s.pointed page off).putData [v] =
      ((s.pointed page off).putByte v).rowEvent [(off, v)] page (off / 16) := rfl
  rw [State.writeAt_ready h page off (by omega) hoff, hpoint, hput, s.putByte_pointed hlow hone]

section

variable {s : State} (h : s.hostReady) (v : Byte)
include h

theorem exec_causeClearWrite :
    exec (.causeClearWrite v) s =
      .next
        { s with
          port := { s.port.wrote 6 1 with
            causes := s.port.causes &&& ~~~v
            slotDetail := if v.getLsbD 0 then 0 else s.port.slotDetail
            pathDetail := if v.getLsbD 1 then 0 else s.port.pathDetail
            laneDetail := if v.getLsbD 5 then 0 else s.port.laneDetail } } := by
  have hrow (u : State) : u.rowEvent [(0, v)] 6 0 = u.clearCauses v := by
    simp [State.rowEvent, rowItems, causeBytes]
  refine congrArg Host.Outcome.next ?_
  rw [State.writeAt_byte h (by decide) (by decide) (by decide), hrow]
  rfl

theorem exec_maskWrite :
    exec (.maskWrite v) s = .next { s with port := { s.port.wrote 6 17 with mask := v } } := by
  have hrow (u : State) : u.rowEvent [(16, v)] 6 1 = u.updPort fun q => { q with mask := v } := by
    simp [State.rowEvent, rowItems, lastWritten]
  refine congrArg Host.Outcome.next ?_
  rw [State.writeAt_byte h (by decide) (by decide) (by decide), hrow]
  rfl

/-- The extension flag, clear while the port is ready, takes a byte 1 (log entry 19). -/
theorem exec_pageExtensionWrite :
    exec (.pageExtensionWrite v) s =
      .next { s with port := { s.port.wrote 0 8 with extension := decide (v = 1) } } := by
  obtain ⟨-, -, hext⟩ := id h
  have hrow (u : State) :
      u.rowEvent [(7, v)] 0 0 = if v = 1 then u.updPort fun q => { q with extension := true } else u := by
    simp [State.rowEvent, rowItems]
  refine congrArg Host.Outcome.next ?_
  rw [State.writeAt_byte h (by decide) (by decide) (by decide), hrow]
  split
  · rename_i hv; subst hv; rfl
  · rename_i hv; rw [decide_eq_false hv, ← hext]; rfl

/-- A row of one byte: its item takes the byte, and answers for the row. -/
theorem State.writeAt_item {page off : Nat} (hlow : page < 32) (hone : page ≠ 1) (hoff : off < 256)
    {take : State → Nat → ItemAnswer}
    (hrow : rowItems (placed off [v]) page (off / 16) = some [fun s => s.takeItem (placed off [v]) page off 1 take]) :
    s.writeAt page off [v] =
      s.resumed (take (s.pointed page (off / 16 * 16 + (off + 1) % 16)) v.toNat).report := by
  have hfit : off % 16 + [v].length ≤ 16 := by rw [List.length_singleton]; omega
  rw [State.writeAt_row h hlow hone hoff (List.cons_ne_nil v []) hrow, takeItems_cons_only (List.forall_mem_nil _),
    State.takeItem_written (bytes := [v]) (n := 1) hfit _ _ (by decide) rfl]
  rfl

theorem exec_slotSelectorWrite_taken (hv : v.toNat ≤ 15) :
    exec (.counterSelectorWrite .slots v) s =
      .next { s with port := { s.port.tookWrite 14 1 with slotSelector := v.toNat } } := by
  refine congrArg Host.Outcome.next ?_
  rw [State.writeAt_item h v (by decide) (by decide) (by decide) rfl, takeSlotSelector, if_pos hv]
  exact State.resumed_same _ _ rfl rfl

theorem exec_slotSelectorWrite_refused (hv : 15 < v.toNat) :
    exec (.counterSelectorWrite .slots v) s = .next { s with port := s.port.refusedWrite 14 1 .badValue } := by
  refine congrArg Host.Outcome.next ?_
  rw [State.writeAt_item h v (by decide) (by decide) (by decide) rfl, takeSlotSelector, if_neg (Nat.not_le.mpr hv)]
  exact State.resumed_same _ _ rfl rfl

theorem exec_groupSelectorWrite_taken (hv : v.toNat ≤ 6) :
    exec (.counterSelectorWrite .part v) s =
      .next { s with port := { s.port.tookWrite 15 1 with groupSelector := v.toNat } } := by
  refine congrArg Host.Outcome.next ?_
  rw [State.writeAt_item h v (by decide) (by decide) (by decide) rfl, takeGroupSelector, if_pos hv]
  exact State.resumed_same _ _ rfl rfl

theorem exec_groupSelectorWrite_refused (hv : 6 < v.toNat) :
    exec (.counterSelectorWrite .part v) s = .next { s with port := s.port.refusedWrite 15 1 .badValue } := by
  refine congrArg Host.Outcome.next ?_
  rw [State.writeAt_item h v (by decide) (by decide) (by decide) rfl, takeGroupSelector, if_neg (Nat.not_le.mpr hv)]
  exact State.resumed_same _ _ rfl rfl

end

/-! ## Codes that name no command (R175) -/

theorem isCommand_unknown {code : Byte} (h : unknownCode code = true) :
    IsCommand code fun s => answerRefused s .badCommand := fun s hb => by
  simp [unknownCode, commandCodes] at h
  simp [State.takeCommand, hb, h]

theorem exec_badCommand {s : State} (h : s.hostReady) {code : Byte} (hc : unknownCode code = true) :
    exec (.badCommand code) s = .next { s with port := s.port.refusedCommand code .badCommand } :=
  congrArg Host.Outcome.next ((if_pos hc).trans ((isCommand_unknown hc).refused h rfl))

/-- Code 0 moves the pointer alone. -/
theorem State.writeCode_zero {s : State} (h : s.hostReady) : s.writeCode 0 = { s with port := s.port.wrote 1 1 } := by
  obtain ⟨-, hbusy, -⟩ := id h
  have hzero : s.atCode.takeCommand 0 = s.atCode := by simp [State.takeCommand, State.atCode, Port.wrote, hbusy]
  rw [State.writeCode_ready h, hzero]
  exact State.resumed_same _ _ rfl rfl

/-! ## Write transactions (R172) -/

section

variable {s : State} {target : BitVec 7}

/-- A write transaction at the port's address. -/
theorem exec_registerWrite (ht : s.isTarget target = true) (bytes : List Byte) :
    exec (.registerWrite target bytes) s = .next (s.hostWrite bytes) := by
  change (if s.silent then _ else if s.isTarget target then _ else _) = _
  split
  · rename_i hs; rw [s.hostWrite_silent bytes hs]
  · rfl

/-- A transaction of page, offset and data is the write of the data at that place. -/
theorem exec_registerWrite_at (ht : s.isTarget target = true) (he : s.port.extension = false) (page off : Nat)
    (data : List Byte) :
    exec (.registerWrite target (BitVec.ofNat 8 page :: BitVec.ofNat 8 off :: data)) s =
      .next (s.writeAt page off data) := by
  rw [exec_registerWrite ht, State.writeAt, if_neg (by simp [he])]

theorem exec_registerWrite_page (hs : s.silent = false) (ht : s.isTarget target = true) (p : Byte) :
    exec (.registerWrite target [p]) s =
      .next { s with port := { s.port.wrote (if s.port.extension then 256 + p.toNat else p.toNat) 0 with
        extension := false } } := by
  rw [exec_registerWrite ht, State.hostWrite, if_neg (by simp [hs])]
  rfl

theorem exec_registerWrite_offset (hs : s.silent = false) (ht : s.isTarget target = true) (p o : Byte) :
    exec (.registerWrite target [p, o]) s =
      .next { s with port := { s.port.wrote (if s.port.extension then 256 + p.toNat else p.toNat) o.toNat with
        extension := false } } := by
  rw [exec_registerWrite ht, State.hostWrite, if_neg (by simp [hs])]
  rfl

theorem exec_registerWrite_other (hs : s.silent = false) (ht : s.isTarget target = false) (bytes : List Byte) :
    exec (.registerWrite target bytes) s = .next { s with port := { s.port with reading := none } } :=
  (if_neg (by simp [hs])).trans (if_neg (by simp [ht]))

theorem exec_registerWrite_silent (hs : s.silent = true) (bytes : List Byte) :
    exec (.registerWrite target bytes) s = .next s := if_pos hs

end

/-! ## A row with a refused item (R173) -/

theorem takeItems_cons_congr {f g : State → ItemAnswer} {fs gs : List (State → ItemAnswer)} (hf : ∀ s, f s = g s)
    (hfs : ∀ s, takeItems s fs = takeItems s gs) (s : State) : takeItems s (f :: fs) = takeItems s (g :: gs) := by
  simp only [takeItems, hf, hfs]

/-- The bytes of rate, reserve and repeat time, with the gap between rate and reserve. -/
def rateRow (rate gap : Byte) (reserve time : BitVec 16) : List Byte :=
  [rate, gap] ++ leBytes 2 reserve.toNat ++ leBytes 2 time.toNat

/-- The items that these bytes write. -/
def rateItems (rate : Byte) (reserve time : BitVec 16) : List (State → ItemAnswer) :=
  [fun s => takeRate s rate.toNat, fun s => takeReserve s reserve.toNat, fun s => takeRepeatTime s time.toNat]

section

variable (rate gap : Byte) (reserve time : BitVec 16)

/-- The row takes the three items in its order; the other two are not written. -/
theorem takeItems_rateRow {items : List (State → ItemAnswer)}
    (hitems : rowItems (placed 0 (rateRow rate gap reserve time)) 2 0 = some items) (u : State) :
    takeItems u items = takeItems u (rateItems rate reserve time) := by
  have hlen : (rateRow rate gap reserve time).length = 6 := by simp [rateRow]
  have hfit : 0 % 16 + (rateRow rate gap reserve time).length ≤ 16 := by omega
  have hreserve : leNat (((rateRow rate gap reserve time).drop 2).take 2) = reserve.toNat := leNat_word reserve
  have htime : leNat (((rateRow rate gap reserve time).drop 4).take 2) = time.toNat := leNat_word time
  have hskip (lo : Nat) (hlo : 6 ≤ lo) (take : State → Nat → ItemAnswer) :
      Skips fun s => s.takeItem (placed 0 (rateRow rate gap reserve time)) 2 lo 1 take :=
    skips_outside hfit 2 (.inr (by omega)) take
  cases hitems
  refine takeItems_cons_congr (fun s => ?rate) (takeItems_cons_congr (fun s => ?reserve)
    (takeItems_cons_congr (fun s => ?time) (takeItems_skips (List.forall_mem_cons.mpr ⟨hskip 6 (by decide) takeNMark,
      List.forall_mem_singleton.mpr (hskip 7 (by decide) takeAttemptLimit)⟩)))) u
  case rate => exact State.takeItem_inside hfit s 2 (k := 0) (n := 1) (by decide) (by omega) takeRate
  case reserve =>
    exact (State.takeItem_inside hfit s 2 (k := 2) (n := 2) (by decide) (by omega) takeReserve).trans
      (congrArg _ hreserve)
  case time =>
    exact (State.takeItem_inside hfit s 2 (k := 4) (n := 2) (by decide) (by omega) takeRepeatTime).trans
      (congrArg _ htime)

/-- While a stream is open rate and reserve are refused, and the repeat time is taken (R10). -/
theorem takeItems_rateItems_open {u : State} (ho : u.allFree = false) :
    takeItems u (rateItems rate reserve time) =
      (u.updParams fun q => { q with repeatTime := clampTo 50 5000 time.toNat }, some .streamsOpen) := by
  have hrate : takeRate u rate.toNat = (u, some .streamsOpen) := if_pos (by simp [ho])
  have hreserve : takeReserve u reserve.toNat = (u, some .streamsOpen) := if_pos (by simp [ho])
  simp only [rateItems, takeItems, hrate, hreserve]
  rfl

/-- A rate that the part has not is refused, and the other items are taken (R10). -/
theorem takeItems_rateItems_bad {u : State} (hf : u.allFree = true)
    (hr : ¬ (rate.toNat = 10 ∨ rate.toNat = 25 ∨ rate.toNat = 100)) :
    takeItems u (rateItems rate reserve time) =
      (u.updParams fun q =>
        { q with reserve := clampTo 0 300 reserve.toNat, repeatTime := clampTo 50 5000 time.toNat }, some .badValue) := by
  have hopen : ¬ (!u.allFree) = true := by simp [hf]
  have hrate : takeRate u rate.toNat = (u, some .badValue) := (if_neg hopen).trans (if_neg hr)
  have hreserve :
      takeReserve u reserve.toNat = (u.updParams fun q => { q with reserve := clampTo 0 300 reserve.toNat }, none) :=
    if_neg hopen
  simp only [rateItems, takeItems, hrate, hreserve]
  rfl

variable {s : State} {target : BitVec 7} (h : s.hostReady) (ht : s.isTarget target = true)
include h ht

/-- A row whose items change parameters, one of them refused. -/
theorem exec_rateRow {f : Params → Params} {e : RefusalCode}
    (hitems : takeItems (s.pointed 2 6) (rateItems rate reserve time) = ((s.pointed 2 6).updParams f, some e)) :
    exec (.registerWrite target ([2, 0, rate, gap] ++ leBytes 2 reserve.toNat ++ leBytes 2 time.toNat)) s =
      .next { s with params := f s.params, port := s.port.refusedWrite 2 6 e } := by
  obtain ⟨-, -, hext⟩ := id h
  have hlen : (rateRow rate gap reserve time).length = 6 := by simp [rateRow]
  refine (exec_registerWrite_at ht hext 2 0 (rateRow rate gap reserve time)).trans (congrArg Host.Outcome.next ?_)
  rw [State.writeAt_row h (by decide) (by decide) (by decide) (ne_nil_of_length hlen (by decide)) rfl,
    takeItems_rateRow rate gap reserve time rfl, hlen]
  change s.resumed (takeItems (s.pointed 2 6) _).report = _
  rw [hitems]
  exact State.resumed_same _ _ rfl rfl

end

/-- Settles O59: the port's own items, the pointer, the transactions that spell a write or a command, and a row with a
refused item. -/
theorem portItemsFollowTheirWrites : Obligations.PortItemsFollowTheirWrites := by
  intro s
  refine ⟨s.interruptLine_iff, fun h => ⟨exec_causeClearWrite h, exec_maskWrite h, exec_pageExtensionWrite h,
      fun v => ⟨exec_slotSelectorWrite_taken h v, exec_slotSelectorWrite_refused h v, exec_groupSelectorWrite_taken h v,
        exec_groupSelectorWrite_refused h v⟩, fun _ hc => exec_badCommand h hc, fun target ht => ?zero⟩,
    fun target p o hs ht => ⟨exec_registerWrite_offset hs ht p o, exec_registerWrite_page hs ht p⟩,
    fun target bytes hs ht => exec_registerWrite_other hs ht bytes,
    fun target bytes hs => exec_registerWrite_silent hs bytes, fun target he ht => ?spelled,
    fun target rate gap reserve time h ht => ⟨fun ho => ?opened, fun hf h10 h25 h100 => ?bad⟩⟩
  case zero =>
    obtain ⟨-, -, hext⟩ := id h
    exact (exec_registerWrite_at ht hext 1 0 [0]).trans (congrArg _ (State.writeCode_zero h))
  case spelled =>
    intro writes
    have spells {page off : Nat} {data : List Byte} {c : Instr} (hc : exec c s = .next (s.writeAt page off data)) :
        writes page off data c := (exec_registerWrite_at ht he page off data).trans hc.symm
    refine ⟨spells rfl, spells rfl, spells rfl, spells rfl, spells rfl, spells rfl, spells rfl, spells rfl, spells rfl,
      spells rfl, spells rfl, spells rfl, spells rfl, spells rfl, fun v => ⟨fun hv => spells (congrArg _ (if_pos hv)),
        spells rfl, spells rfl, spells rfl, spells rfl, fun n => spells rfl, spells rfl, spells rfl, fun p => ?nGood,
        spells rfl, spells rfl, spells rfl, spells rfl, spells rfl⟩,
      fun v => ⟨spells rfl, spells rfl, fun p => ⟨?silence, ?holdoff⟩, fun l => spells rfl, spells rfl⟩,
      fun v => spells rfl, fun p block => ?settings⟩
    all_goals rw [← pathPage_eq]; exact spells rfl
  case opened => exact exec_rateRow _ _ _ _ h ht (takeItems_rateItems_open rate reserve time ho)
  case bad =>
    have hr : ¬ (rate.toNat = 10 ∨ rate.toNat = 25 ∨ rate.toNat = 100) := by
      have ne {n : Nat} (hn : n < 256) (hne : rate ≠ BitVec.ofNat 8 n) : rate.toNat ≠ n := fun e =>
        hne (BitVec.eq_of_toNat_eq (by rw [e, BitVec.toNat_ofNat, Nat.mod_eq_of_lt hn]))
      exact not_or.mpr ⟨ne (by decide) h10, not_or.mpr ⟨ne (by decide) h25, ne (by decide) h100⟩⟩
    refine (exec_rateRow _ _ _ _ h ht (takeItems_rateItems_bad rate reserve time hf hr)).trans ?_
    rw [clampTo, clampTo, Nat.zero_max]

end Sys2Proof.Machine

/-!
PROOF. Read transactions of the management port, and the bytes of the page space by name (chapter 11): O60.
-/

namespace Sys2Proof.Machine

open Sys2Proof

/-! ## A read in progress (R172, R174) -/

/-- The part with a read at an offset of the page: what the port knows of it, and the bytes it has given. -/
def State.reads (s : State) (off : Nat) (r : Option ReadProgress) (out : List Byte) : State :=
  { s with port := { s.port with offset := off, reading := r, readOut := out } }

/-- The progress of a read at an offset of the page. -/
def State.progressOn (s : State) (off : Nat) (r : ReadProgress) : ReadProgress := (s.reads off none []).progressAt r

theorem State.readOne_reads (s : State) (off : Nat) (r : ReadProgress) (out : List Byte) :
    (s.reads off (some r) out).readOne =
      s.reads (nextInPage off) (some (s.progressOn off r)) (out ++ [(s.progressOn off r).byte off]) := rfl

/-- A read captures its whole page at its first byte alone. -/
theorem State.progressOn_capture (s : State) (off : Nat) (r : ReadProgress) :
    (s.progressOn off r).capture =
      if r.capture = none ∧ r.row = none ∧ capturesFrom s.port.page off = true then
        some ((List.range 256).map fun k => s.pageByte s.port.page k)
      else r.capture := by
  rw [← s.pageBytes_eq]
  simp only [State.progressOn, State.progressAt, Bool.and_eq_true, Option.isNone_iff_eq_none, and_assoc]
  rfl

/-- The row a read stands in stays as it was taken. -/
theorem State.progressOn_row_same (s : State) {off : Nat} {r : ReadProgress} {row : Nat} {bytes : List Byte}
    (h : r.row = some (row, bytes)) (hrow : row = off / 16) : (s.progressOn off r).row = some (row, bytes) := by
  simp only [State.progressOn, State.progressAt, h, hrow]
  exact congrArg some (if_pos rfl)

/-- A row that a read comes to is taken as it stands. -/
theorem State.progressOn_row_new (s : State) {off : Nat} {r : ReadProgress}
    (h : ∀ row bytes, r.row = some (row, bytes) → row ≠ off / 16) :
    (s.progressOn off r).row = some (off / 16, s.rowNow s.port.page (off / 16)) := by
  rw [← s.rowBytes_eq]
  cases hr : r.row with
  | none => simp only [State.progressOn, State.progressAt, hr]; rfl
  | some x =>
    simp only [State.progressOn, State.progressAt, hr]
    exact congrArg some (if_neg (h x.1 x.2 hr))

theorem byteAt_map_range {n : Nat} (f : Nat → Byte) {k : Nat} (h : k < n) :
    byteAt ((List.range n).map f) k = f k := by
  rw [byteAt, List.getD_eq_getElem _ _ (by simpa using h), List.getElem_map, List.getElem_range]

/-- A row's byte is the page's. -/
theorem State.byteAt_rowNow (s : State) (page off : Nat) :
    byteAt (s.rowNow page (off / 16)) (off % 16) = s.pageByte page off := by
  rw [State.rowNow, byteAt_map_range _ (Nat.mod_lt _ (by decide)), Nat.div_add_mod']

theorem ReadProgress.byte_of_capture {r : ReadProgress} {bytes : List Byte} (h : r.capture = some bytes) (off : Nat) :
    r.byte off = byteAt bytes off := by rw [ReadProgress.byte, h]

theorem ReadProgress.byte_of_row {r : ReadProgress} {row : Nat} {bytes : List Byte} (h : r.capture = none)
    (hrow : r.row = some (row, bytes)) (off : Nat) : r.byte off = byteAt bytes (off % 16) := by
  rw [ReadProgress.byte, h, hrow]

theorem nextInPage_add (off k : Nat) : nextInPage ((off + k) % 256) = (off + (k + 1)) % 256 := by
  unfold nextInPage
  omega

/-- A read of `n` bytes, by a law of its progress: each byte keeps the law and is the byte that is expected. -/
theorem State.readMany_of_law (s : State) (I : Nat → ReadProgress → Prop) (g : Nat → Byte) (off : Nat)
    (step : ∀ k r, I k r → I (k + 1) (s.progressOn ((off + k) % 256) r)
      ∧ (s.progressOn ((off + k) % 256) r).byte ((off + k) % 256) = g k)
    (n k : Nat) {r : ReadProgress} (h : I k r) (out : List Byte) :
    ∃ r', I (k + n) r' ∧ (s.reads ((off + k) % 256) (some r) out).readMany n =
      s.reads ((off + (k + n)) % 256) (some r') (out ++ (List.range n).map fun j => g (k + j)) := by
  induction n generalizing k r out with
  | zero => exact ⟨r, h, by simp [State.readMany]⟩
  | succ n ih =>
    obtain ⟨hnext, hbyte⟩ := step k r h
    obtain ⟨r', hr', hread⟩ := ih (k + 1) hnext (out ++ [g k])
    have hk : k + 1 + n = k + (n + 1) := by omega
    refine ⟨r', hk ▸ hr', ?_⟩
    rw [State.readMany, State.readOne_reads, hbyte, nextInPage_add, hread, hk, List.range_succ_eq_map]
    simp [Function.comp_def, Nat.add_assoc, Nat.add_comm 1]

/-! ## The three kinds of reads -/

/-- The progress of a read that has begun at `off` and given `k` bytes: nothing is taken yet, or the row of its last
byte stands as it is, and the page is captured where the read began at a place that captures. -/
def State.FreshRead (s : State) (off : Nat) : Nat → ReadProgress → Prop
  | 0, r => r = ⟨none, none⟩
  | k + 1, r =>
    r.row = some ((off + k) % 256 / 16, s.rowNow s.port.page ((off + k) % 256 / 16))
      ∧ r.capture =
        if capturesFrom s.port.page off = true then some ((List.range 256).map fun j => s.pageByte s.port.page j)
        else none

theorem State.FreshRead.step {s : State} {off : Nat} (ho : off < 256) (k : Nat) (r : ReadProgress)
    (h : s.FreshRead off k r) :
    s.FreshRead off (k + 1) (s.progressOn ((off + k) % 256) r)
      ∧ (s.progressOn ((off + k) % 256) r).byte ((off + k) % 256) = s.pageByte s.port.page ((off + k) % 256) := by
  have next : s.FreshRead off (k + 1) (s.progressOn ((off + k) % 256) r) := by
    cases k with
    | zero =>
      cases h
      have hoff : (off + 0) % 256 = off := Nat.mod_eq_of_lt ho
      refine ⟨?_, ?_⟩
      · rw [hoff]
        exact s.progressOn_row_new nofun
      · rw [s.progressOn_capture]
        simp [Nat.mod_eq_of_lt ho]
    | succ k =>
      obtain ⟨hrow, hcap⟩ := h
      refine ⟨?_, ?_⟩
      · by_cases hsame : (off + k) % 256 / 16 = (off + (k + 1)) % 256 / 16
        · rw [s.progressOn_row_same hrow hsame, hsame]
        · refine s.progressOn_row_new fun row bytes hr => ?_
          obtain ⟨rfl, -⟩ := Prod.mk.inj (Option.some.inj (hrow.symm.trans hr))
          exact hsame
      · rw [s.progressOn_capture, if_neg (by simp [hrow]), hcap]
  refine ⟨next, ?_⟩
  obtain ⟨hrow, hcap⟩ := next
  by_cases hc : capturesFrom s.port.page off = true
  · rw [if_pos hc] at hcap
    rw [ReadProgress.byte_of_capture hcap, byteAt_map_range _ (Nat.mod_lt _ (by decide))]
  · rw [if_neg hc] at hcap
    rw [ReadProgress.byte_of_row hcap hrow, s.byteAt_rowNow]

/-- A read that has its page captured goes on giving the captured bytes. -/
theorem State.captured_step {s : State} {off : Nat} {bytes : List Byte} (k : Nat) (r : ReadProgress)
    (h : r.capture = some bytes) :
    (s.progressOn ((off + k) % 256) r).capture = some bytes
      ∧ (s.progressOn ((off + k) % 256) r).byte ((off + k) % 256) = byteAt bytes ((off + k) % 256) := by
  have next : (s.progressOn ((off + k) % 256) r).capture = some bytes := by
    rw [s.progressOn_capture, if_neg (by simp [h]), h]
  exact ⟨next, ReadProgress.byte_of_capture next _⟩

/-- The progress of a read that goes on from `off` with a row taken before, after `k` bytes: the row it stood in stays
as it was taken until the read leaves it. -/
def State.KeptRow (s : State) (off row : Nat) (bytes : List Byte) : Nat → ReadProgress → Prop
  | 0, r => r.capture = none ∧ r.row = some (row, bytes)
  | k + 1, r =>
    r.capture = none ∧ r.row = some ((off + k) % 256 / 16,
      if row = off / 16 ∧ (off + k) / 16 = row then bytes else s.rowNow s.port.page ((off + k) % 256 / 16))

theorem State.KeptRow.step {s : State} {off row : Nat} {bytes : List Byte} (ho : off < 256) (k : Nat) (r : ReadProgress)
    (h : s.KeptRow off row bytes k r) :
    s.KeptRow off row bytes (k + 1) (s.progressOn ((off + k) % 256) r)
      ∧ (s.progressOn ((off + k) % 256) r).byte ((off + k) % 256) =
        if row = off / 16 ∧ (off + k) / 16 = row then byteAt bytes ((off + k) % 16)
        else s.pageByte s.port.page ((off + k) % 256) := by
  have next : s.KeptRow off row bytes (k + 1) (s.progressOn ((off + k) % 256) r) := by
    cases k with
    | zero =>
      obtain ⟨hcap, hrow⟩ := h
      have hoff : (off + 0) % 256 = off := Nat.mod_eq_of_lt ho
      have hat : off + 0 = off := rfl
      refine ⟨by rw [s.progressOn_capture, if_neg (by simp [hrow]), hcap], ?_⟩
      rw [hoff, hat]
      by_cases hsame : row = off / 16
      · rw [s.progressOn_row_same hrow hsame, if_pos ⟨hsame, hsame.symm⟩, hsame]
      · rw [if_neg fun h => hsame h.1]
        refine s.progressOn_row_new fun row' bytes' hr => ?_
        obtain ⟨rfl, -⟩ := Prod.mk.inj (Option.some.inj (hrow.symm.trans hr))
        omega
    | succ k =>
      obtain ⟨hcap, hrow⟩ := h
      refine ⟨by rw [s.progressOn_capture, if_neg (by simp [hrow]), hcap], ?_⟩
      by_cases hsame : (off + k) % 256 / 16 = (off + (k + 1)) % 256 / 16
      · have hkeep : (off + k) / 16 = (off + (k + 1)) / 16 := by omega
        rw [s.progressOn_row_same hrow hsame, hsame, hkeep]
      · rw [if_neg (by omega)]
        refine s.progressOn_row_new fun row' bytes' hr => ?_
        obtain ⟨rfl, -⟩ := Prod.mk.inj (Option.some.inj (hrow.symm.trans hr))
        exact hsame
  refine ⟨next, ?_⟩
  obtain ⟨hcap, hrow⟩ := next
  rw [ReadProgress.byte_of_row hcap hrow]
  split
  · rw [Nat.mod_mod_of_dvd _ (by decide)]
  · exact s.byteAt_rowNow ..

/-! ## Read transactions (R172, R174) -/

/-- A part of a read, which it ends or leaves open. -/
theorem exec_snapshotRead {s : State} {target : BitVec 7} (hs : s.silent = false) (ht : s.isTarget target = true)
    (starts : Bool) (count : Nat) (ends : Bool) {r : ReadProgress} {off : Nat} {out : List Byte}
    (hread : (if starts then s.beginRead else s).readMany count = s.reads off (some r) out) :
    exec (.snapshotRead target starts count ends) s =
      .next (s.reads off (if ends then none else some r) out) := by
  change (if s.silent then _ else if starts && !s.isTarget target then _ else _) = _
  rw [if_neg (by simp [hs]), if_neg (by simp [ht]), State.hostRead, if_neg (by simp [hs])]
  dsimp only
  rw [hread]
  cases ends <;> rfl

theorem State.eq_reads {s : State} {r : ReadProgress} (h : s.port.reading = some r) :
    s = s.reads s.port.offset (some r) s.port.readOut := by
  rw [← h]
  rfl

theorem capturesFrom_iff (page off : Nat) :
    capturesFrom page off = true ↔ page = 14 ∨ page = 15 ∨ (page = 4 ∨ page = 5) ∧ off = 0 := by
  simp [capturesFrom, or_assoc]

section

variable (s : State) (count : Nat) (ho : s.port.offset < 256)
include ho

/-- A read that begins gives the page's bytes. -/
theorem State.readMany_fresh :
    ∃ r, s.FreshRead s.port.offset count r ∧ s.beginRead.readMany count =
      s.reads ((s.port.offset + count) % 256) (some r)
        ((List.range count).map fun k => s.pageByte s.port.page ((s.port.offset + k) % 256)) := by
  obtain ⟨r, hr, hread⟩ := s.readMany_of_law (s.FreshRead s.port.offset)
    (fun k => s.pageByte s.port.page ((s.port.offset + k) % 256)) s.port.offset (State.FreshRead.step ho) count 0 rfl []
  rw [Nat.add_zero, Nat.mod_eq_of_lt ho] at hread
  simp only [Nat.zero_add, List.nil_append] at hr hread
  exact ⟨r, hr, hread⟩

theorem State.readMany_captured {r : ReadProgress} {bytes : List Byte} (hr : s.port.reading = some r)
    (hc : r.capture = some bytes) :
    ∃ r', s.readMany count =
      s.reads ((s.port.offset + count) % 256) (some r')
        (s.port.readOut ++ (List.range count).map fun k => byteAt bytes ((s.port.offset + k) % 256)) := by
  obtain ⟨r', -, hread⟩ := s.readMany_of_law (fun _ r => r.capture = some bytes)
    (fun k => byteAt bytes ((s.port.offset + k) % 256)) s.port.offset State.captured_step count 0 hc s.port.readOut
  rw [Nat.add_zero, Nat.mod_eq_of_lt ho, ← State.eq_reads hr] at hread
  simp only [Nat.zero_add] at hread
  exact ⟨r', hread⟩

theorem State.readMany_kept {r : ReadProgress} {row : Nat} {bytes : List Byte} (hr : s.port.reading = some r)
    (hc : r.capture = none) (hrow : r.row = some (row, bytes)) :
    ∃ r', s.readMany count =
      s.reads ((s.port.offset + count) % 256) (some r')
        (s.port.readOut ++ (List.range count).map fun k =>
          if row = s.port.offset / 16 ∧ (s.port.offset + k) / 16 = row then byteAt bytes ((s.port.offset + k) % 16)
          else s.pageByte s.port.page ((s.port.offset + k) % 256)) := by
  obtain ⟨r', -, hread⟩ := s.readMany_of_law (s.KeptRow s.port.offset row bytes)
    (fun k =>
      if row = s.port.offset / 16 ∧ (s.port.offset + k) / 16 = row then byteAt bytes ((s.port.offset + k) % 16)
      else s.pageByte s.port.page ((s.port.offset + k) % 256))
    s.port.offset (State.KeptRow.step ho) count 0 ⟨hc, hrow⟩ s.port.readOut
  rw [Nat.add_zero, Nat.mod_eq_of_lt ho, ← State.eq_reads hr] at hread
  simp only [Nat.zero_add] at hread
  exact ⟨r', hread⟩

end

/-! ## Bytes of the page space by name (11.2) -/

/-- No item reaches into the `n` bytes from `a` on. -/
def clearOf (a n : Nat) (items : List Item) : Bool :=
  items.all fun x => decide (a + n ≤ x.1) || decide (x.1 + x.2.length ≤ a)

theorem clearOf_iff (a n : Nat) (items : List Item) :
    clearOf a n items = true ↔ ∀ x ∈ items, a + n ≤ x.1 ∨ x.1 + x.2.length ≤ a := by
  simp [clearOf]

theorem flagItem_eq (a : Nat) (b : Bool) : flagItem a b = numItem a 1 (bit b) := by cases b <;> rfl

theorem isPatternPage_of_lt {page : Nat} (h : page < 32) : isPatternPage page = false := by
  simp [isPatternPage, h]

theorem split_of_get {α : Type} {items : List α} {j : Nat} {x : α} (h : items[j]? = some x) :
    items = items.take j ++ x :: items.drop (j + 1) := by
  obtain ⟨hlen, hget⟩ := List.getElem?_eq_some_iff.mp h
  rw [← hget, List.cons_getElem_drop_succ, List.take_append_drop]

section

variable (s : State) {page a : Nat} {items : List Item} (j : Nat)

/-- An item's bytes stand at its offset, where no item before it reaches into them. -/
theorem State.pageByte_of_get {bytes : List Byte} (hp : page < 32) (hpage : s.pageItems page = items)
    (hj : items[j]? = some (a, bytes)) (hclear : clearOf a bytes.length (items.take j) = true) (k : Nat)
    (hk : k < bytes.length) : s.pageByte page (a + k) = byteAt bytes k := by
  rw [State.pageByte, isPatternPage_of_lt hp, if_neg Bool.false_ne_true, hpage, split_of_get hj]
  exact itemsByte_at _ _ a bytes k ((clearOf_iff ..).mp hclear) hk

/-- A number of a page reads as itself, in its bytes. -/
theorem State.pageItem_of_get {n v : Nat} (hp : page < 32) (hpage : s.pageItems page = items)
    (hj : items[j]? = some (numItem a n v)) (hclear : clearOf a n (items.take j) = true) :
    s.pageItem page a n = v % 256 ^ n :=
  s.pageItem_at page a n v _ _ (isPatternPage_of_lt hp) (hpage.trans (split_of_get hj)) ((clearOf_iff ..).mp hclear)

/-- A number that fits its bytes reads as itself. -/
theorem State.pageItem_of_get_lt {n v : Nat} (hp : page < 32) (hpage : s.pageItems page = items)
    (hj : items[j]? = some (numItem a n v)) (hclear : clearOf a n (items.take j) = true) (hv : v < 256 ^ n) :
    s.pageItem page a n = v :=
  (s.pageItem_of_get j hp hpage hj hclear).trans (Nat.mod_eq_of_lt hv)

/-- A flag of a page reads 1 when it is set, and 0 else. -/
theorem State.pageItem_of_flag {b : Bool} (hp : page < 32) (hpage : s.pageItems page = items)
    (hj : items[j]? = some (flagItem a b)) (hclear : clearOf a 1 (items.take j) = true) :
    s.pageItem page a 1 = bit b :=
  s.pageItem_of_get_lt j hp hpage (flagItem_eq a b ▸ hj) hclear (by cases b <;> decide)

end
/-- A byte that is an item of its own reads as itself. -/
theorem State.pageItem_one (s : State) (page a : Nat) : s.pageItem page a 1 = (s.pageByte page a).toNat := by
  simp [State.pageItem, field, leNat]

/-! ### Pages 0 to 6 -/

theorem State.freeCells_le (s : State) : s.freeCells ≤ 16384 := Nat.sub_le ..

theorem State.openCount_le (s : State) : s.openCount ≤ 16 := List.length_filter_le ..

theorem State.pageZero_reads (s : State) :
    s.pageItem 0 0 1 = 0x4E ∧ s.pageItem 0 1 2 = 0x4160 ∧ s.pageItem 0 3 1 = 1
      ∧ s.pageItem 0 16 2 = 8192 - s.entries.length ∧ s.pageItem 0 18 2 = s.freeCells
      ∧ s.pageItem 0 48 1 = s.openCount ∧ s.pageItem 0 50 2 = s.entries.length % 2 ^ 16 := by
  have hcells : s.freeCells < 256 ^ 2 := s.freeCells_le.trans_lt (by decide)
  have hopen : s.openCount < 256 ^ 1 := s.openCount_le.trans_lt (by decide)
  have hentries : 8192 - s.entries.length < 256 ^ 2 := (Nat.sub_le ..).trans_lt (by decide)
  exact ⟨s.pageItem_of_get_lt 0 (by decide) rfl rfl rfl (by decide),
    s.pageItem_of_get_lt 1 (by decide) rfl rfl rfl (by decide),
    s.pageItem_of_get_lt 2 (by decide) rfl rfl rfl (by decide),
    s.pageItem_of_get_lt 7 (by decide) rfl rfl rfl hentries, s.pageItem_of_get_lt 8 (by decide) rfl rfl rfl hcells,
    s.pageItem_of_get_lt 20 (by decide) rfl rfl rfl hopen, s.pageItem_of_get 21 (by decide) rfl rfl rfl⟩

theorem State.pageTwo_pageThree_read (s : State) :
    s.pageItem 2 0 1 = s.params.rate % 2 ^ 8 ∧ s.pageItem 2 2 2 = s.params.reserve % 2 ^ 16
      ∧ s.pageItem 2 4 2 = s.params.repeatTime % 2 ^ 16 ∧ s.pageItem 3 32 1 = s.params.idleLimit % 2 ^ 8
      ∧ ∀ k : Fin 32, s.pageItem 3 k 1 = s.params.catchUp[k] % 2 ^ 8 := by
  refine ⟨s.pageItem_of_get 0 (by decide) rfl rfl rfl, s.pageItem_of_get 1 (by decide) rfl rfl rfl,
    s.pageItem_of_get 2 (by decide) rfl rfl rfl, s.pageItem_of_get (items := s.pageThree) 1 (by decide) rfl rfl ?_,
    fun k => ?_⟩
  · simp [clearOf, State.pageThree]
  · have hbyte := s.pageByte_of_get (page := 3) 0 (by decide) rfl rfl rfl k (by simp)
    rw [Nat.zero_add] at hbyte
    rw [s.pageItem_one, hbyte]
    simp [byteAt]

theorem State.pageFour_reads (s : State) :
    (∀ i k, s.ring[k]? = some i → k < 16 → s.pageItem 4 (48 + k) 1 = i.val)
      ∧ (s.launcher = none → ∀ off, 16 ≤ off → off < 48 → s.pageByte 4 off = 0)
      ∧ (∀ v, s.launcher = some v → s.pageItem 4 16 1 = 1 ∧ s.pageItem 4 17 1 = v.slot.val
          ∧ s.pageItem 4 20 6 = v.frame % 2 ^ 48 ∧ s.pageItem 4 26 2 = v.index % 2 ^ 16
          ∧ s.pageItem 4 32 8 = v.grantedAt % 2 ^ 64 ∧ s.pageItem 4 40 8 = v.busyUntil % 2 ^ 64) := by
  refine ⟨fun i k hi _ => ?_, fun hv off hlo hhi => ?_, fun v hv => ?_⟩
  · obtain ⟨hk, hget⟩ := List.getElem?_eq_some_iff.mp hi
    have hbyte := s.pageByte_of_get (page := 4) (items := s.pageFour) 5 (by decide) rfl rfl
      (by simp [clearOf, State.pageFour, numItem]) k (by simpa using hk)
    rw [s.pageItem_one, hbyte]
    simp [byteAt, hi]
    omega
  · refine itemsByte_none s.pageFour off ?_
    simp [State.pageFour, hv, numItem]
    omega
  · have hpage : s.pageItems 4 = s.pageFour := rfl
    unfold State.pageFour at hpage
    rw [hv] at hpage
    have hslot : v.slot.val < 256 ^ 1 := by omega
    exact ⟨s.pageItem_of_get_lt 6 (by decide) hpage rfl rfl (by decide),
      s.pageItem_of_get_lt 7 (by decide) hpage rfl rfl hslot, s.pageItem_of_get 9 (by decide) hpage rfl rfl,
      s.pageItem_of_get 10 (by decide) hpage rfl rfl, s.pageItem_of_get 11 (by decide) hpage rfl rfl,
      s.pageItem_of_get 12 (by decide) hpage rfl rfl⟩

theorem State.pageFive_pageSix_read (s : State) :
    s.pageItem 5 0 8 = s.house.time % 2 ^ 64 ∧ (s.pageItem 5 12 4 : Int) = s.house.trim % 2 ^ 32
      ∧ s.pageItem 5 16 8 = s.house.pulseSecond % 2 ^ 64
      ∧ s.pageByte 6 0 = s.port.causes ∧ s.pageByte 6 16 = s.port.mask
      ∧ s.pageItem 6 32 2 = s.port.slotDetail.toNat := by
  refine ⟨s.pageItem_of_get 0 (by decide) rfl rfl rfl, ?_, s.pageItem_of_get 6 (by decide) rfl rfl rfl,
    s.pageByte_of_get (page := 6) (bytes := [s.port.causes]) 0 (by decide) rfl rfl rfl 0 Nat.one_pos,
    s.pageByte_of_get (page := 6) (bytes := [s.port.mask]) 1 (by decide) rfl rfl rfl 0 Nat.one_pos,
    s.pageItem_of_get_lt 2 (by decide) rfl rfl rfl s.port.slotDetail.isLt⟩
  rw [s.pageItem_of_get (v := (s.house.trim % 2 ^ 32).toNat) 5 (by decide) rfl rfl rfl]
  omega

/-! ### Path, lane and pattern pages -/

theorem State.pagePath_reads (s : State) (p : PathId) :
    s.pageItem (7 + pathCode p) 4 4 = (s.path p).nextSeq.toNat
      ∧ s.pageItem (7 + pathCode p) 8 4 = (s.path p).ackThrough.toNat
      ∧ s.pageItem (7 + pathCode p) 12 4 = (s.path p).sentThrough.toNat
      ∧ s.pageItem (7 + pathCode p) 16 2 = (s.path p).window.length % 2 ^ 16
      ∧ s.pageItem (7 + pathCode p) 18 2 = (s.path p).backlog.length % 2 ^ 16
      ∧ ∀ st, (s.path p).latest = some st → s.pageItem (7 + pathCode p) 32 1 = 1
          ∧ s.pageItem (7 + pathCode p) 33 1 = (if st.repeats then 1 else 0)
          ∧ s.pageByte (7 + pathCode p) 34 = st.counter
          ∧ s.pageItem (7 + pathCode p) 40 4 = st.ack.toNat := by
  have hpage : s.pageItems (7 + pathCode p) = s.pagePath p := by cases p <;> rfl
  have hp : 7 + pathCode p < 32 := by cases p <;> decide
  refine ⟨s.pageItem_of_get_lt 4 hp hpage rfl rfl (BitVec.isLt _),
    s.pageItem_of_get_lt 5 hp hpage rfl rfl (BitVec.isLt _), s.pageItem_of_get_lt 6 hp hpage rfl rfl (BitVec.isLt _),
    s.pageItem_of_get 7 hp hpage rfl rfl, s.pageItem_of_get 8 hp hpage rfl rfl, fun st hst => ?_⟩
  have hflag : s.pageItem (7 + pathCode p) 32 1 = bit (s.path p).latest.isSome :=
    s.pageItem_of_flag 17 hp hpage rfl rfl
  have hrepeats : s.pageItem (7 + pathCode p) 33 1 = bit (((s.path p).latest.map fun t => t.repeats).getD false) :=
    s.pageItem_of_flag 18 hp hpage rfl rfl
  have hcounter : s.pageByte (7 + pathCode p) 34 = ((s.path p).latest.map fun t => t.counter).getD 0 :=
    s.pageByte_of_get 19 hp hpage rfl rfl 0 Nat.one_pos
  have hack : s.pageItem (7 + pathCode p) 40 4 = ((s.path p).latest.map fun t => t.ack.toNat).getD 0 % 256 ^ 4 :=
    s.pageItem_of_get 22 hp hpage rfl rfl
  rw [hst] at hflag hrepeats hcounter hack
  exact ⟨hflag, hrepeats, hcounter, hack.trans (Nat.mod_eq_of_lt st.ack.isLt)⟩

theorem State.pageLane_reads (s : State) (l : Fin 4) :
    (∀ e, (s.lane l).expectation = some e → s.pageItem (9 + l) 0 2 = e.toNat ∧ s.pageItem (9 + l) 2 1 = 1)
      ∧ s.pageItem (9 + l) 3 1 = (s.lane l).queue.length % 2 ^ 8
      ∧ s.pageItem (9 + l) 12 2 = (s.lane l).account.outstanding % 2 ^ 16
      ∧ s.pageItem (9 + l) 14 2 = (s.lane l).account.pending % 2 ^ 16
      ∧ s.pageItem (9 + l) 16 2 = s.params.laneQuota[l] % 2 ^ 16 := by
  have hpage : s.pageItems (9 + l) = s.pageLane l := by fin_cases l <;> rfl
  have hp : 9 + l.val < 32 := by omega
  refine ⟨fun e he => ?_, s.pageItem_of_get 2 hp hpage rfl rfl, s.pageItem_of_get 8 hp hpage rfl rfl,
    s.pageItem_of_get 9 hp hpage rfl rfl, s.pageItem_of_get 10 hp hpage rfl rfl⟩
  have hseq : s.pageItem (9 + l) 0 2 = ((s.lane l).expectation.map fun e => e.toNat).getD 0 % 256 ^ 2 :=
    s.pageItem_of_get 0 hp hpage rfl rfl
  have hset : s.pageItem (9 + l) 2 1 = bit (s.lane l).expectation.isSome := s.pageItem_of_flag 1 hp hpage rfl rfl
  rw [he] at hseq hset
  exact ⟨hseq.trans (Nat.mod_eq_of_lt e.isLt), hset⟩

theorem State.pagePattern_reads (s : State) :
    s.pageItem 13 0 1 = (if s.pattern.slot.isSome then 1 else 0)
      ∧ s.pageItem 13 4 6 = s.pattern.nextFrame % 2 ^ 48 ∧ s.pageItem 13 32 2 = s.pattern.outstanding % 2 ^ 16 :=
  ⟨s.pageItem_of_flag 0 (by decide) rfl rfl rfl, s.pageItem_of_get 4 (by decide) rfl rfl rfl,
    s.pageItem_of_get 8 (by decide) rfl rfl rfl⟩

/-! ### Packed items: counter pages (R182) and slot views -/

/-- The number of bytes that packed items take. -/
def packedSize (g : List (Nat × Nat)) : Nat := (g.map Prod.fst).sum

/-- Packed items end within their bytes. -/
theorem packed_ends (g : List (Nat × Nat)) (off : Nat) :
    ∀ x ∈ packed off g, x.1 + x.2.length ≤ off + packedSize g := by
  induction g generalizing off with
  | nil => nofun
  | cons y g ih =>
    intro x hx
    have hsize : off + packedSize (y :: g) = off + y.1 + packedSize g := by simp [packedSize, Nat.add_assoc]
    rw [hsize]
    rcases List.mem_cons.mp hx with rfl | hx
    · simp [numItem]
    · exact ih _ x hx

theorem packed_append (g g' : List (Nat × Nat)) (off : Nat) :
    packed off (g ++ g') = packed off g ++ packed (off + packedSize g) g' := by
  induction g generalizing off with
  | nil => rfl
  | cons y g ih => simp [packed, ih, packedSize, Nat.add_assoc]

/-- The items of a page that stand behind an offset, and behind all others. -/
def State.PageFrom (s : State) (page off : Nat) (rest : List Item) : Prop :=
  ∃ pre, s.pageItems page = pre ++ rest ∧ ∀ x ∈ pre, x.1 + x.2.length ≤ off

section

variable {s : State} {page off o : Nat} {rest : List Item} {g : List (Nat × Nat)}

theorem State.PageFrom.start {items : List Item} (h : s.pageItems page = items) : s.PageFrom page 0 items :=
  ⟨[], h, nofun⟩

theorem State.PageFrom.after {front : List Item} (h : s.PageFrom page off (front ++ rest)) (b : Nat) (hb : off ≤ b)
    (hfront : ∀ x ∈ front, x.1 + x.2.length ≤ b) : s.PageFrom page b rest := by
  obtain ⟨pre, hitems, hpre⟩ := h
  refine ⟨pre ++ front, by rw [hitems, List.append_assoc], fun x hx => ?_⟩
  rcases List.mem_append.mp hx with hx | hx
  · exact (hpre x hx).trans hb
  · exact hfront x hx

theorem State.PageFrom.afterPacked (h : s.PageFrom page off (packed o g ++ rest)) (b : Nat) (hb : off ≤ b)
    (hg : o + packedSize g ≤ b) : s.PageFrom page b rest :=
  h.after b hb fun x hx => (packed_ends g o x hx).trans hg

/-- A packed item stands behind those before it. -/
theorem State.PageFrom.item (h : s.PageFrom page off (packed o g ++ rest)) (hp : page < 32) (ho : off ≤ o) (j : Nat)
    {n v : Nat} (hj : g[j]? = some (n, v)) : s.pageItem page (o + packedSize (g.take j)) n = v % 256 ^ n := by
  obtain ⟨pre, hitems, hpre⟩ := h
  have hpacked : packed o g = packed o (g.take j)
      ++ numItem (o + packedSize (g.take j)) n v :: packed (o + packedSize (g.take j) + n) (g.drop (j + 1)) := by
    conv_lhs => rw [split_of_get hj, packed_append]
    rfl
  refine s.pageItem_at page _ n v (pre ++ packed o (g.take j))
    (packed (o + packedSize (g.take j) + n) (g.drop (j + 1)) ++ rest) (isPatternPage_of_lt hp) ?_ fun x hx => .inr ?_
  · rw [hitems, hpacked]
    simp
  · rcases List.mem_append.mp hx with hx | hx
    · exact (hpre x hx).trans (by omega)
    · exact packed_ends _ o x hx

end

theorem packedSize_counters (vs : List Nat) : packedSize (vs.map fun v => (4, v)) = 4 * vs.length := by
  simp [packedSize, Function.comp_def, Nat.mul_comm]

/-- A counter of a counter page reads as itself, in four bytes. -/
theorem State.pageItem_counter (s : State) {page sel : Nat} {counters : List Nat} (hp : page < 32)
    (hpage : s.pageItems page = s.counterItems sel counters) {k v : Nat} (h : counters[k]? = some v) :
    s.pageItem page (16 + 4 * k) 4 = v % 2 ^ 32 := by
  obtain ⟨hk, -⟩ := List.getElem?_eq_some_iff.mp h
  have hcounters : s.PageFrom page 16 (packed 16 (counters.map fun v => (4, v)) ++ []) := by
    rw [List.append_nil]
    exact (State.PageFrom.start (hpage.trans rfl : _ = [_, _] ++ _)).after 16 (by decide) (by simp [numItem])
  have hitem := hcounters.item hp (Nat.le_refl 16) k (n := 4) (v := v) (by simp [h])
  rw [← List.map_take, packedSize_counters, List.length_take_of_le hk.le] at hitem
  exact hitem

theorem State.counterPages_read (s : State) :
    (∀ (i : Fin 16) (k : Fin 17), s.port.slotSelector = i.val →
        s.pageItem 14 0 1 = i.val ∧ s.pageItem 14 (16 + 4 * k) 4 = (s.frozen.slots[i])[k] % 2 ^ 32)
      ∧ (∀ k : Fin 19, s.port.groupSelector = 6 → s.pageItem 15 (16 + 4 * k) 4 = s.frozen.part[k] % 2 ^ 32)
      ∧ s.pageItem 15 4 6 = s.frozenLabel.getD 0 % 2 ^ 48 := by
  refine ⟨fun i k hi => ⟨?_, ?_⟩, fun k hk => ?_, s.pageItem_of_get 1 (by decide) rfl rfl rfl⟩
  · have hsel : s.port.slotSelector < 256 ^ 1 := by omega
    exact (s.pageItem_of_get_lt 0 (by decide) rfl rfl rfl hsel).trans hi
  · refine s.pageItem_counter (by decide) rfl ?_
    rw [hi]
    simp
  · refine s.pageItem_counter (by decide) rfl ?_
    rw [hk]
    simp [State.groupCounters]

theorem State.pageSlot_reads (s : State) (i : Fin 16) :
    s.pageItem (16 + i) 2 2 = (s.slot i).tag % 2 ^ 16
      ∧ s.pageItem (16 + i) 48 8 = (s.slot i).q % 2 ^ 64 ∧ s.pageItem (16 + i) 80 6 = (s.slot i).fs % 2 ^ 48
      ∧ s.pageItem (16 + i) 86 6 = (s.slot i).fc % 2 ^ 48
      ∧ s.pageItem (16 + i) 144 8 = (s.slot i).aPrev % 2 ^ 64
      ∧ s.pageItem (16 + i) 160 2 = (s.slot i).released % 2 ^ 16
      ∧ s.pageItem (16 + i) 176 6 = (s.slot i).lastFrame.frame % 2 ^ 48 := by
  have hpage : s.pageItems (16 + i) = s.pageSlot i := by fin_cases i <;> rfl
  have hp : 16 + i.val < 32 := by omega
  simp only [State.pageSlot, List.append_assoc] at hpage
  have state := State.PageFrom.start hpage
  have rates := state.afterPacked 16 (by decide) (by simp [packedSize])
  have instants := rates.afterPacked 48 (by decide) (by simp [packedSize])
  have frames := instants.afterPacked 80 (by decide) (by simp [packedSize])
  have start := frames.afterPacked 96 (by decide) (by simp [packedSize])
  have head := start.afterPacked 112 (by decide) (by simp [packedSize])
  have last : State.PageFrom s (16 + i) 144 _ := head.after 144 (by decide) (by
    cases (s.slot i).head with
    | none => nofun
    | some hd => exact fun x hx => (packed_ends _ 112 x hx).trans (by simp [packedSize]))
  have counts := last.afterPacked 160 (by decide) (by simp [packedSize])
  have frame := counts.afterPacked 176 (by decide) (by simp [packedSize])
  exact ⟨state.item hp (by decide) 2 rfl, instants.item hp (by decide) 0 rfl, frames.item hp (by decide) 0 rfl,
    frames.item hp (by decide) 1 rfl, last.item hp (by decide) 0 rfl, counts.item hp (by decide) 0 rfl,
    frame.item hp (by decide) 0 rfl⟩

/-! ### Pattern memory and pages of no content -/

theorem State.pageByte_pattern (s : State) (page off : Nat) (hlo : 32 ≤ page) (hhi : page ≤ 287) :
    s.pageByte page off = readMem s.patternMem ((page - 32) * 256 + off) := by
  simp [State.pageByte, isPatternPage, patternAddress, hlo, hhi]

theorem State.pageByte_beyond (s : State) (page off : Nat) (h : 288 ≤ page) : s.pageByte page off = 0 := by
  have hp : isPatternPage page = false := by
    simp [isPatternPage, Nat.lt_of_lt_of_le (by decide : 287 < 288) h]
  have hitems : s.pageItems page = [] := by
    unfold State.pageItems
    repeat rw [if_neg (by omega)]
  simp [State.pageByte, hp, hitems, itemsByte]

/-- Settles O60: a read by a law of its progress over its bytes, and each page by the list of its items. -/
theorem readsChangeOnlyThePortPointer : Obligations.ReadsChangeOnlyThePortPointer := by
  refine ⟨fun s target count ends => ⟨fun hs ht ho => ?_, ?_, ?_, fun hs ht => ?_, fun starts hs => if_pos hs⟩,
    fun s => ⟨s.pageZero_reads, s.pageTwo_pageThree_read, s.pageFour_reads, s.pageFive_pageSix_read, s.pagePath_reads,
      s.pageLane_reads, s.pagePattern_reads, s.counterPages_read, s.pageSlot_reads, s.pageByte_pattern,
      s.pageByte_beyond⟩⟩
  · obtain ⟨r, hr, hread⟩ := s.readMany_fresh count ho
    refine ⟨_, exec_snapshotRead hs ht true count ends hread, rfl, ?_, ?_, ?_⟩
    · rintro rfl
      rfl
    · rintro rfl
      exact Option.some_ne_none r
    · rintro rfl hcount
      obtain ⟨k, rfl⟩ : ∃ k, count = k + 1 := ⟨count - 1, by omega⟩
      obtain ⟨hrow, hcap⟩ := hr
      refine ⟨r, rfl, hrow, fun hc => ?_, fun hc => ?_⟩
      · rw [hcap, if_pos ((capturesFrom_iff ..).mpr hc)]
      · rw [hcap, if_neg fun h => hc ((capturesFrom_iff ..).mp h)]
  · intro r bytes hs ht ho hr hc
    obtain ⟨r', hread⟩ := s.readMany_captured count ho hr hc
    exact ⟨_, exec_snapshotRead hs ht false count ends hread, rfl⟩
  · intro r row bytes hs ht ho hr hc hrow
    obtain ⟨r', hread⟩ := s.readMany_kept count ho hr hc hrow
    exact ⟨_, exec_snapshotRead hs ht false count ends hread, rfl⟩
  · change (if s.silent then _ else if true && !s.isTarget target then _ else _) = _
    rw [if_neg (by simp [hs]), if_pos (by simp [ht])]
    rfl

end Sys2Proof.Machine
